-- ==== Sys2Proof/Word.lean ====
section
/-! DEFINITION. The word types of the bus: every register and address is 32 bits wide (R6 `XLEN_BUS`, `ADDR_BITS`;
R20), and memory and the links carry bytes (R80, R130). -/

namespace Sys2Proof

/-- A 32-bit register value, bus address or stored datum (R7: all register values are unsigned 32-bit). -/
abbrev Word := BitVec 32

/-- One byte of memory or of a link frame (R80, R130). -/
abbrev Byte := BitVec 8

end Sys2Proof
end

