-- ==== Sys2Proof/Config.lean ====
section
/-! DEFINITION. What an implementation fixes (the parameters of R6) and the free values: constants with no body, of
which nothing can be proved. -/

namespace Sys2Proof

/-- `SLCK_HZ` (R6): the slow oscillator. -/
def Config.slckHz : Nat := 32768

/-- `MAINCK_HZ` (R6): the main oscillator. -/
def Config.mainckHz : Nat := 18432000

/-- `AIC_STACK_DEPTH` (R6, R25): the depth of the in-service stack. -/
def Config.aicStackDepth : Nat := 8

/-- `IOX_MAX_PAYLOAD` (R6, R732): the largest payload of one frame. -/
def Config.ioxMaxPayload : Nat := 255

/-- `ENXIO` (R6, R308): the status code "receiver disabled". -/
def Config.enxio : Word := 6#32

/-- `SD_SECTOR` (R6, R481): the sector size the SD bus forwards. It is a property of the card: the MCI counts bytes, and
no rule of the block reads it. -/
def Config.sdSector : Nat := 512

/-- The owners of an IOX server (R78, R720). -/
inductive LinkId where
  | usart (u : Fin 6)
  | spi (u : Fin 2)
  | twi
  | pio (p : Fin 3)
  | sdramc
  deriving DecidableEq, Repr, Inhabited

/-- `<name>` in the default of `IOX_PATH` (R720). -/
def LinkId.pathName : LinkId → String
  | .usart u => "usart" ++ toString u.val
  | .spi u => "spi" ++ toString u.val
  | .twi => "twi"
  | .pio p =>
    match p with
    | 0 => "pioa"
    | 1 => "piob"
    | 2 => "pioc"
  | .sdramc => "sdramc"

/-- The default of `IOX_PATH(p)` (R6, R720). -/
def Config.ioxPath (l : LinkId) : String := "/tmp/qemu_at91_" ++ l.pathName

/-- `NOR_SIZE` and `SDRAM_SIZE` (R6, R86): environment arguments. -/
structure MemSizes where
  nor : Nat
  sdram : Nat
  deriving DecidableEq, Repr

/-- The defaults of R6. -/
def MemSizes.iobc : MemSizes where
  nor := 0x00100000
  sdram := 0x02000000

/-- The two regions meet no other region of the map (R83, R86): NOR ends before the base of SDRAM, SDRAM before the first
register window. A size need not be a multiple of 4. -/
def MemSizes.ok (z : MemSizes) : Bool := decide (z.nor ≤ 0x10000000) && decide (z.sdram ≤ 0xDFFA0000)

/-- The answer of an SD card to a command (R481): a byte sequence of length 0, 4 or 16. Any other length is outside
the contract of the bus, so the type has no other case. -/
inductive SdResponse where
  | none
  | short (b0 b1 b2 b3 : Byte)
  | long (bytes : Vector Byte 16)
  deriving DecidableEq, Repr, Inhabited

/-- `DBGU_CIDR` (R6, R639): OPEN, no default asserted; nothing may be proved from its value. -/
opaque Config.dbguCidr : Word

/-- `DBGU_EXID` (R6, R639): OPEN, no default asserted. -/
opaque Config.dbguExid : Word

/-- What the SD bus answers to a command nobody scripted (R11, R481): a free value of the number of calls made so
far, the card, the command and its argument. -/
opaque Config.sdResponse : Nat → Fin 2 → BitVec 6 → Word → SdResponse

/-- The bit clock of an SPI chip select whose `SCBR` is 0 (R394): the quotient `mclk / 0` has no stated value. A free
value of the master clock. -/
opaque Config.spiClockUndivided : Nat → Nat

/-- The clock of a USART under the `USCLKS` codes other than MCK and MCK/8 (R318, R773): SCK comes from outside the block
and the reserved code has no meaning in the spec, so neither has a stated frequency. A free value of the instance and the
code (log entry 21). -/
opaque Config.usartOtherClock : Fin 6 → Nat → Nat

/-- The data byte the SD bus gives when nobody scripted one (R11, R481): a free value of the number of calls made so
far and the card. -/
opaque Config.sdByte : Nat → Fin 2 → Byte

/-- What `data_ready` answers when the environment has said nothing (R11, R481): a free value of the number of
questions asked so far and the card. -/
opaque Config.sdReady : Nat → Fin 2 → Bool

/-- `TWI_START_DADR` (R6, R441): how byte 0 of CTRL_START carries the device address. The default is `low7`: `DADR` in
bits 6:0 and bit 7 = 0. -/
inductive TwiDadrFormat where
  /-- `DADR` in bits 6:0, bit 7 = 0 (the default of R6). -/
  | low7
  /-- `DADR` in bits 7:1 and the read bit in bit 0, the byte an I2C bus carries. PRESUMED. -/
  | shifted
  deriving DecidableEq, Repr, Inhabited

/-- The parameters of R6 that are not constants of this file. They are arguments of the machine and no step changes
them. -/
structure Params where
  /-- `BMS`: the level of the boot-mode-select pin at reset (R6, R155). -/
  bms : Bool
  /-- `NOR_SIZE` and `SDRAM_SIZE` (R86). -/
  sizes : MemSizes
  /-- `IOX_PATH(p)` where the instance is configured to another path than the default (R720). -/
  ioxPaths : List (LinkId × String)
  /-- `UNIMPL_READ_ABORT` (R160). -/
  unimplReadAbort : Bool
  /-- `UNIMPL_WRITE_ABORT` (R160). -/
  unimplWriteAbort : Bool
  /-- `ACCESS_STRICT` (R163). -/
  accessStrict : Bool
  /-- `UNSUPPORTED_ABORT` of SPI slave mode (R773). -/
  abortSpiSlave : Bool
  /-- `UNSUPPORTED_ABORT` of TWI slave mode (R773). -/
  abortTwiSlave : Bool
  /-- `UNSUPPORTED_ABORT` of the MMC stream transfer (R773). -/
  abortMciStream : Bool
  /-- `UNSUPPORTED_ABORT` of the TC burst (R773). -/
  abortTcBurst : Bool
  /-- `UNSUPPORTED_ABORT` of the TC external clocks (R773). -/
  abortTcClock : Bool
  /-- `SPI_IN_UNIT_BYTES` (R388). -/
  spiInUnitBytes : Nat
  /-- `TWI_START_DADR` (R441). -/
  twiStartDadr : TwiDadrFormat
  /-- `MCI_CARD_SELECT_POLARITY` (R510): the level of PIOB pin 7 that selects card 1. -/
  mciCardPolarity : Bool
  /-- `IOX_MULTIFRAME_TERMINATOR` (R732). -/
  multiframeTerminator : Bool
  deriving DecidableEq, Repr

/-- The defaults of R6, with the `BMS` level of the iOBC board. -/
def Params.iobc : Params where
  bms := false
  sizes := MemSizes.iobc
  ioxPaths := []
  unimplReadAbort := false
  unimplWriteAbort := false
  accessStrict := true
  abortSpiSlave := true
  abortTwiSlave := true
  abortMciStream := true
  abortTcBurst := true
  abortTcClock := true
  spiInUnitBytes := 4
  twiStartDadr := .low7
  mciCardPolarity := true
  multiframeTerminator := false

/-- `IOX_PATH(p)` (R720): the configured path, or the default. No rule reads it. -/
def Params.ioxPath (p : Params) (l : LinkId) : String :=
  match p.ioxPaths.find? fun x => x.1 == l with
  | some x => x.2
  | none => Config.ioxPath l

end Sys2Proof
end

