-- ==== Sys2Proof/Syntax.lean ====
section
/-! DEFINITION. The operations of the block as data: the bus transaction and the link frame as raw fields (R120,
R130), and `Instr`, one constructor per row of `spec/opcode_table.json` (R122, R123, R133). -/

namespace Sys2Proof

/-- Direction of a bus transaction (R120). -/
inductive Dir where
  | read
  | write
  deriving DecidableEq, Repr, Inhabited

/-- The legal access sizes (R94): 1, 2 or 4 bytes. -/
inductive AccessSize where
  | byte
  | half
  | word
  deriving DecidableEq, Repr, Inhabited

/-- The number of bytes of an access (R120). -/
def AccessSize.bytes : AccessSize → Nat
  | .byte => 1
  | .half => 2
  | .word => 4

/-- The memory-backed regions (R84). -/
inductive MemRegion where
  | rom
  | sram0
  | sram1
  | nor
  | sdram
  deriving DecidableEq, Repr, Inhabited

/-- The windows of the peripherals the block does not implement (R86, R160). -/
inductive UnimplWindow where
  | uhp
  | udp
  | ssc
  | isi
  | emac
  | adc
  | ecc
  | smc
  | shdwc
  | wdt
  | gpbr
  deriving DecidableEq, Repr, Inhabited

/-- The components that own a window of registers (R86). -/
inductive Peripheral where
  | tcb (b : Fin 2)
  | mci
  | twi
  | usart (u : Fin 6)
  | spi (u : Fin 2)
  | sdramc
  | matrix
  | aic
  | dbgu
  | pio (p : Fin 3)
  | pmc
  | rstc
  | rtt
  | pit
  deriving DecidableEq, Repr, Inhabited

/-- The hosts of a PDC instance (R27). -/
inductive PdcHost where
  | usart (u : Fin 6)
  | spi (u : Fin 2)
  | twi
  | mci
  deriving DecidableEq, Repr, Inhabited

/-- The counter clocks (R550): the six TC channels, the PIT and the RTT. -/
inductive ClockId where
  | tc (k : Fin 6)
  | pit
  | rtt
  deriving DecidableEq, Repr, Inhabited

/-- A bus transaction (R120). `size` is the raw field: the values other than 1, 2 and 4 are invalid, not absent. -/
structure BusTxn where
  dir : Dir
  addr : Word
  size : Nat
  wdata : Word
  deriving DecidableEq, Repr, Inhabited

/-- A link frame (R130). The length byte is the length of `payload`. -/
structure Frame where
  seq : Byte
  cat : Byte
  id : Byte
  payload : List Byte
  deriving DecidableEq, Repr, Inhabited

/-- The raw form of one operation: a bus transaction of the CPU, a frame a link client sends, or a frame the
owner of a link sends (R120, R130, R133). `data` of an outbound frame is what the sender hands to its server; it is
empty for the frames whose payload the sender computes (R441, R663). -/
inductive Op where
  | bus (t : BusTxn)
  | frameIn (l : LinkId) (f : Frame)
  | frameOut (l : LinkId) (cat id : Byte) (data : List Byte)
  deriving DecidableEq, Repr, Inhabited

/-- The operations of the block, one constructor per row of the opcode table. The constructor of a register carries
the index of an array row and the value written; the constructor of a memory or unimplemented window carries the
address, whose high bits the row fixes; the constructor of a frame carries the instance, the sequence byte and the
payload. -/
inductive Instr where
  /-- `BOOTMEM.R` (R154). -/
  | bootmemR (addr : Word) (size : AccessSize)
  /-- `BOOTMEM.W` (R154). -/
  | bootmemW (addr : Word) (size : AccessSize) (v : Word)
  /-- `ROM.R` (R90). -/
  | romR (addr : Word) (size : AccessSize)
  /-- `ROM.W` (R85). -/
  | romW (addr : Word) (size : AccessSize) (v : Word)
  /-- `SRAM0.R` (R90). -/
  | sram0R (addr : Word) (size : AccessSize)
  /-- `SRAM0.W` (R90). -/
  | sram0W (addr : Word) (size : AccessSize) (v : Word)
  /-- `SRAM1.R` (R90). -/
  | sram1R (addr : Word) (size : AccessSize)
  /-- `SRAM1.W` (R90). -/
  | sram1W (addr : Word) (size : AccessSize) (v : Word)
  /-- `NOR.R` (R90). -/
  | norR (addr : Word) (size : AccessSize)
  /-- `NOR.W` (R85). -/
  | norW (addr : Word) (size : AccessSize) (v : Word)
  /-- `SDRAM.R` (R90). -/
  | sdramR (addr : Word) (size : AccessSize)
  /-- `SDRAM.W` (R90). -/
  | sdramW (addr : Word) (size : AccessSize) (v : Word)
  /-- `UNIMPL_UHP.R` (R160). -/
  | unimplUhpR (addr : Word)
  /-- `UNIMPL_UHP.W` (R160). -/
  | unimplUhpW (addr v : Word)
  /-- `UNIMPL_UDP.R` (R160). -/
  | unimplUdpR (addr : Word)
  /-- `UNIMPL_UDP.W` (R160). -/
  | unimplUdpW (addr v : Word)
  /-- `UNIMPL_SSC.R` (R160). -/
  | unimplSscR (addr : Word)
  /-- `UNIMPL_SSC.W` (R160). -/
  | unimplSscW (addr v : Word)
  /-- `UNIMPL_ISI.R` (R160). -/
  | unimplIsiR (addr : Word)
  /-- `UNIMPL_ISI.W` (R160). -/
  | unimplIsiW (addr v : Word)
  /-- `UNIMPL_EMAC.R` (R160). -/
  | unimplEmacR (addr : Word)
  /-- `UNIMPL_EMAC.W` (R160). -/
  | unimplEmacW (addr v : Word)
  /-- `UNIMPL_ADC.R` (R160). -/
  | unimplAdcR (addr : Word)
  /-- `UNIMPL_ADC.W` (R160). -/
  | unimplAdcW (addr v : Word)
  /-- `UNIMPL_ECC.R` (R160). -/
  | unimplEccR (addr : Word)
  /-- `UNIMPL_ECC.W` (R160). -/
  | unimplEccW (addr v : Word)
  /-- `UNIMPL_SMC.R` (R160). -/
  | unimplSmcR (addr : Word)
  /-- `UNIMPL_SMC.W` (R160). -/
  | unimplSmcW (addr v : Word)
  /-- `UNIMPL_SHDWC.R` (R160). -/
  | unimplShdwcR (addr : Word)
  /-- `UNIMPL_SHDWC.W` (R160). -/
  | unimplShdwcW (addr v : Word)
  /-- `UNIMPL_WDT.R` (R160). -/
  | unimplWdtR (addr : Word)
  /-- `UNIMPL_WDT.W` (R160). -/
  | unimplWdtW (addr v : Word)
  /-- `UNIMPL_GPBR.R` (R160). -/
  | unimplGpbrR (addr : Word)
  /-- `UNIMPL_GPBR.W` (R160). -/
  | unimplGpbrW (addr v : Word)
  /-- `AIC_SMR[n].R` (R203). -/
  | aicSmrR (n : Fin 32)
  /-- `AIC_SMR[n].W` (R203). -/
  | aicSmrW (n : Fin 32) (v : Word)
  /-- `AIC_SVR[n].R` (R204). -/
  | aicSvrR (n : Fin 32)
  /-- `AIC_SVR[n].W` (R204). -/
  | aicSvrW (n : Fin 32) (v : Word)
  /-- `AIC_IVR.R` (R212). -/
  | aicIvrR
  /-- `AIC_IVR.W` (R215). -/
  | aicIvrW (v : Word)
  /-- `AIC_FVR.R` (R219). -/
  | aicFvrR
  /-- `AIC_ISR.R` (R220). -/
  | aicIsrR
  /-- `AIC_IPR.R` (R207). -/
  | aicIprR
  /-- `AIC_IMR.R` (R208). -/
  | aicImrR
  /-- `AIC_CISR.R` (R221). -/
  | aicCisrR
  /-- `AIC_IECR.W` (R208). -/
  | aicIecrW (v : Word)
  /-- `AIC_IDCR.W` (R208). -/
  | aicIdcrW (v : Word)
  /-- `AIC_ICCR.W` (R209). -/
  | aicIccrW (v : Word)
  /-- `AIC_ISCR.W` (R209). -/
  | aicIscrW (v : Word)
  /-- `AIC_EOICR.W` (R216). -/
  | aicEoicrW (v : Word)
  /-- `AIC_SPU.R` (R205). -/
  | aicSpuR
  /-- `AIC_SPU.W` (R205). -/
  | aicSpuW (v : Word)
  /-- `AIC_DCR.R` (R206). -/
  | aicDcrR
  /-- `AIC_DCR.W` (R206). -/
  | aicDcrW (v : Word)
  /-- `AIC_FFER.W` (R210). -/
  | aicFferW (v : Word)
  /-- `AIC_FFDR.W` (R210). -/
  | aicFfdrW (v : Word)
  /-- `AIC_FFSR.R` (R210). -/
  | aicFfsrR
  /-- `USART0_CR.W` (R303). -/
  | usart0CrW (v : Word)
  /-- `USART0_MR.R` (R302). -/
  | usart0MrR
  /-- `USART0_MR.W` (R302). -/
  | usart0MrW (v : Word)
  /-- `USART0_IER.W` (R305). -/
  | usart0IerW (v : Word)
  /-- `USART0_IDR.W` (R305). -/
  | usart0IdrW (v : Word)
  /-- `USART0_IMR.R` (R305). -/
  | usart0ImrR
  /-- `USART0_CSR.R` (R306). -/
  | usart0CsrR
  /-- `USART0_RHR.R` (R311). -/
  | usart0RhrR
  /-- `USART0_THR.W` (R313). -/
  | usart0ThrW (v : Word)
  /-- `USART0_BRGR.R` (R318). -/
  | usart0BrgrR
  /-- `USART0_BRGR.W` (R318). -/
  | usart0BrgrW (v : Word)
  /-- `USART0_RTOR.R` (R319). -/
  | usart0RtorR
  /-- `USART0_RTOR.W` (R319). -/
  | usart0RtorW (v : Word)
  /-- `USART0_TTGR.R` (R319). -/
  | usart0TtgrR
  /-- `USART0_TTGR.W` (R319). -/
  | usart0TtgrW (v : Word)
  /-- `USART0_FIDI.R` (R319). -/
  | usart0FidiR
  /-- `USART0_FIDI.W` (R319). -/
  | usart0FidiW (v : Word)
  /-- `USART0_NER.R` (R320). -/
  | usart0NerR
  /-- `USART0_IF.R` (R319). -/
  | usart0IfR
  /-- `USART0_IF.W` (R319). -/
  | usart0IfW (v : Word)
  /-- `USART0_MAN.R` (R319). -/
  | usart0ManR
  /-- `USART0_MAN.W` (R319). -/
  | usart0ManW (v : Word)
  /-- `USART0_RPR.R` (R262). -/
  | usart0RprR
  /-- `USART0_RPR.W` (R262). -/
  | usart0RprW (v : Word)
  /-- `USART0_RCR.R` (R263). -/
  | usart0RcrR
  /-- `USART0_RCR.W` (R263). -/
  | usart0RcrW (v : Word)
  /-- `USART0_TPR.R` (R262). -/
  | usart0TprR
  /-- `USART0_TPR.W` (R262). -/
  | usart0TprW (v : Word)
  /-- `USART0_TCR.R` (R264). -/
  | usart0TcrR
  /-- `USART0_TCR.W` (R264). -/
  | usart0TcrW (v : Word)
  /-- `USART0_RNPR.R` (R262). -/
  | usart0RnprR
  /-- `USART0_RNPR.W` (R262). -/
  | usart0RnprW (v : Word)
  /-- `USART0_RNCR.R` (R265). -/
  | usart0RncrR
  /-- `USART0_RNCR.W` (R265). -/
  | usart0RncrW (v : Word)
  /-- `USART0_TNPR.R` (R262). -/
  | usart0TnprR
  /-- `USART0_TNPR.W` (R262). -/
  | usart0TnprW (v : Word)
  /-- `USART0_TNCR.R` (R265). -/
  | usart0TncrR
  /-- `USART0_TNCR.W` (R265). -/
  | usart0TncrW (v : Word)
  /-- `USART0_PTCR.W` (R266). -/
  | usart0PtcrW (v : Word)
  /-- `USART0_PTSR.R` (R267). -/
  | usart0PtsrR
  /-- `USART1_CR.W` (R303). -/
  | usart1CrW (v : Word)
  /-- `USART1_MR.R` (R302). -/
  | usart1MrR
  /-- `USART1_MR.W` (R302). -/
  | usart1MrW (v : Word)
  /-- `USART1_IER.W` (R305). -/
  | usart1IerW (v : Word)
  /-- `USART1_IDR.W` (R305). -/
  | usart1IdrW (v : Word)
  /-- `USART1_IMR.R` (R305). -/
  | usart1ImrR
  /-- `USART1_CSR.R` (R306). -/
  | usart1CsrR
  /-- `USART1_RHR.R` (R311). -/
  | usart1RhrR
  /-- `USART1_THR.W` (R313). -/
  | usart1ThrW (v : Word)
  /-- `USART1_BRGR.R` (R318). -/
  | usart1BrgrR
  /-- `USART1_BRGR.W` (R318). -/
  | usart1BrgrW (v : Word)
  /-- `USART1_RTOR.R` (R319). -/
  | usart1RtorR
  /-- `USART1_RTOR.W` (R319). -/
  | usart1RtorW (v : Word)
  /-- `USART1_TTGR.R` (R319). -/
  | usart1TtgrR
  /-- `USART1_TTGR.W` (R319). -/
  | usart1TtgrW (v : Word)
  /-- `USART1_FIDI.R` (R319). -/
  | usart1FidiR
  /-- `USART1_FIDI.W` (R319). -/
  | usart1FidiW (v : Word)
  /-- `USART1_NER.R` (R320). -/
  | usart1NerR
  /-- `USART1_IF.R` (R319). -/
  | usart1IfR
  /-- `USART1_IF.W` (R319). -/
  | usart1IfW (v : Word)
  /-- `USART1_MAN.R` (R319). -/
  | usart1ManR
  /-- `USART1_MAN.W` (R319). -/
  | usart1ManW (v : Word)
  /-- `USART1_RPR.R` (R262). -/
  | usart1RprR
  /-- `USART1_RPR.W` (R262). -/
  | usart1RprW (v : Word)
  /-- `USART1_RCR.R` (R263). -/
  | usart1RcrR
  /-- `USART1_RCR.W` (R263). -/
  | usart1RcrW (v : Word)
  /-- `USART1_TPR.R` (R262). -/
  | usart1TprR
  /-- `USART1_TPR.W` (R262). -/
  | usart1TprW (v : Word)
  /-- `USART1_TCR.R` (R264). -/
  | usart1TcrR
  /-- `USART1_TCR.W` (R264). -/
  | usart1TcrW (v : Word)
  /-- `USART1_RNPR.R` (R262). -/
  | usart1RnprR
  /-- `USART1_RNPR.W` (R262). -/
  | usart1RnprW (v : Word)
  /-- `USART1_RNCR.R` (R265). -/
  | usart1RncrR
  /-- `USART1_RNCR.W` (R265). -/
  | usart1RncrW (v : Word)
  /-- `USART1_TNPR.R` (R262). -/
  | usart1TnprR
  /-- `USART1_TNPR.W` (R262). -/
  | usart1TnprW (v : Word)
  /-- `USART1_TNCR.R` (R265). -/
  | usart1TncrR
  /-- `USART1_TNCR.W` (R265). -/
  | usart1TncrW (v : Word)
  /-- `USART1_PTCR.W` (R266). -/
  | usart1PtcrW (v : Word)
  /-- `USART1_PTSR.R` (R267). -/
  | usart1PtsrR
  /-- `USART2_CR.W` (R303). -/
  | usart2CrW (v : Word)
  /-- `USART2_MR.R` (R302). -/
  | usart2MrR
  /-- `USART2_MR.W` (R302). -/
  | usart2MrW (v : Word)
  /-- `USART2_IER.W` (R305). -/
  | usart2IerW (v : Word)
  /-- `USART2_IDR.W` (R305). -/
  | usart2IdrW (v : Word)
  /-- `USART2_IMR.R` (R305). -/
  | usart2ImrR
  /-- `USART2_CSR.R` (R306). -/
  | usart2CsrR
  /-- `USART2_RHR.R` (R311). -/
  | usart2RhrR
  /-- `USART2_THR.W` (R313). -/
  | usart2ThrW (v : Word)
  /-- `USART2_BRGR.R` (R318). -/
  | usart2BrgrR
  /-- `USART2_BRGR.W` (R318). -/
  | usart2BrgrW (v : Word)
  /-- `USART2_RTOR.R` (R319). -/
  | usart2RtorR
  /-- `USART2_RTOR.W` (R319). -/
  | usart2RtorW (v : Word)
  /-- `USART2_TTGR.R` (R319). -/
  | usart2TtgrR
  /-- `USART2_TTGR.W` (R319). -/
  | usart2TtgrW (v : Word)
  /-- `USART2_FIDI.R` (R319). -/
  | usart2FidiR
  /-- `USART2_FIDI.W` (R319). -/
  | usart2FidiW (v : Word)
  /-- `USART2_NER.R` (R320). -/
  | usart2NerR
  /-- `USART2_IF.R` (R319). -/
  | usart2IfR
  /-- `USART2_IF.W` (R319). -/
  | usart2IfW (v : Word)
  /-- `USART2_MAN.R` (R319). -/
  | usart2ManR
  /-- `USART2_MAN.W` (R319). -/
  | usart2ManW (v : Word)
  /-- `USART2_RPR.R` (R262). -/
  | usart2RprR
  /-- `USART2_RPR.W` (R262). -/
  | usart2RprW (v : Word)
  /-- `USART2_RCR.R` (R263). -/
  | usart2RcrR
  /-- `USART2_RCR.W` (R263). -/
  | usart2RcrW (v : Word)
  /-- `USART2_TPR.R` (R262). -/
  | usart2TprR
  /-- `USART2_TPR.W` (R262). -/
  | usart2TprW (v : Word)
  /-- `USART2_TCR.R` (R264). -/
  | usart2TcrR
  /-- `USART2_TCR.W` (R264). -/
  | usart2TcrW (v : Word)
  /-- `USART2_RNPR.R` (R262). -/
  | usart2RnprR
  /-- `USART2_RNPR.W` (R262). -/
  | usart2RnprW (v : Word)
  /-- `USART2_RNCR.R` (R265). -/
  | usart2RncrR
  /-- `USART2_RNCR.W` (R265). -/
  | usart2RncrW (v : Word)
  /-- `USART2_TNPR.R` (R262). -/
  | usart2TnprR
  /-- `USART2_TNPR.W` (R262). -/
  | usart2TnprW (v : Word)
  /-- `USART2_TNCR.R` (R265). -/
  | usart2TncrR
  /-- `USART2_TNCR.W` (R265). -/
  | usart2TncrW (v : Word)
  /-- `USART2_PTCR.W` (R266). -/
  | usart2PtcrW (v : Word)
  /-- `USART2_PTSR.R` (R267). -/
  | usart2PtsrR
  /-- `USART3_CR.W` (R303). -/
  | usart3CrW (v : Word)
  /-- `USART3_MR.R` (R302). -/
  | usart3MrR
  /-- `USART3_MR.W` (R302). -/
  | usart3MrW (v : Word)
  /-- `USART3_IER.W` (R305). -/
  | usart3IerW (v : Word)
  /-- `USART3_IDR.W` (R305). -/
  | usart3IdrW (v : Word)
  /-- `USART3_IMR.R` (R305). -/
  | usart3ImrR
  /-- `USART3_CSR.R` (R306). -/
  | usart3CsrR
  /-- `USART3_RHR.R` (R311). -/
  | usart3RhrR
  /-- `USART3_THR.W` (R313). -/
  | usart3ThrW (v : Word)
  /-- `USART3_BRGR.R` (R318). -/
  | usart3BrgrR
  /-- `USART3_BRGR.W` (R318). -/
  | usart3BrgrW (v : Word)
  /-- `USART3_RTOR.R` (R319). -/
  | usart3RtorR
  /-- `USART3_RTOR.W` (R319). -/
  | usart3RtorW (v : Word)
  /-- `USART3_TTGR.R` (R319). -/
  | usart3TtgrR
  /-- `USART3_TTGR.W` (R319). -/
  | usart3TtgrW (v : Word)
  /-- `USART3_FIDI.R` (R319). -/
  | usart3FidiR
  /-- `USART3_FIDI.W` (R319). -/
  | usart3FidiW (v : Word)
  /-- `USART3_NER.R` (R320). -/
  | usart3NerR
  /-- `USART3_IF.R` (R319). -/
  | usart3IfR
  /-- `USART3_IF.W` (R319). -/
  | usart3IfW (v : Word)
  /-- `USART3_MAN.R` (R319). -/
  | usart3ManR
  /-- `USART3_MAN.W` (R319). -/
  | usart3ManW (v : Word)
  /-- `USART3_RPR.R` (R262). -/
  | usart3RprR
  /-- `USART3_RPR.W` (R262). -/
  | usart3RprW (v : Word)
  /-- `USART3_RCR.R` (R263). -/
  | usart3RcrR
  /-- `USART3_RCR.W` (R263). -/
  | usart3RcrW (v : Word)
  /-- `USART3_TPR.R` (R262). -/
  | usart3TprR
  /-- `USART3_TPR.W` (R262). -/
  | usart3TprW (v : Word)
  /-- `USART3_TCR.R` (R264). -/
  | usart3TcrR
  /-- `USART3_TCR.W` (R264). -/
  | usart3TcrW (v : Word)
  /-- `USART3_RNPR.R` (R262). -/
  | usart3RnprR
  /-- `USART3_RNPR.W` (R262). -/
  | usart3RnprW (v : Word)
  /-- `USART3_RNCR.R` (R265). -/
  | usart3RncrR
  /-- `USART3_RNCR.W` (R265). -/
  | usart3RncrW (v : Word)
  /-- `USART3_TNPR.R` (R262). -/
  | usart3TnprR
  /-- `USART3_TNPR.W` (R262). -/
  | usart3TnprW (v : Word)
  /-- `USART3_TNCR.R` (R265). -/
  | usart3TncrR
  /-- `USART3_TNCR.W` (R265). -/
  | usart3TncrW (v : Word)
  /-- `USART3_PTCR.W` (R266). -/
  | usart3PtcrW (v : Word)
  /-- `USART3_PTSR.R` (R267). -/
  | usart3PtsrR
  /-- `USART4_CR.W` (R303). -/
  | usart4CrW (v : Word)
  /-- `USART4_MR.R` (R302). -/
  | usart4MrR
  /-- `USART4_MR.W` (R302). -/
  | usart4MrW (v : Word)
  /-- `USART4_IER.W` (R305). -/
  | usart4IerW (v : Word)
  /-- `USART4_IDR.W` (R305). -/
  | usart4IdrW (v : Word)
  /-- `USART4_IMR.R` (R305). -/
  | usart4ImrR
  /-- `USART4_CSR.R` (R306). -/
  | usart4CsrR
  /-- `USART4_RHR.R` (R311). -/
  | usart4RhrR
  /-- `USART4_THR.W` (R313). -/
  | usart4ThrW (v : Word)
  /-- `USART4_BRGR.R` (R318). -/
  | usart4BrgrR
  /-- `USART4_BRGR.W` (R318). -/
  | usart4BrgrW (v : Word)
  /-- `USART4_RTOR.R` (R319). -/
  | usart4RtorR
  /-- `USART4_RTOR.W` (R319). -/
  | usart4RtorW (v : Word)
  /-- `USART4_TTGR.R` (R319). -/
  | usart4TtgrR
  /-- `USART4_TTGR.W` (R319). -/
  | usart4TtgrW (v : Word)
  /-- `USART4_FIDI.R` (R319). -/
  | usart4FidiR
  /-- `USART4_FIDI.W` (R319). -/
  | usart4FidiW (v : Word)
  /-- `USART4_NER.R` (R320). -/
  | usart4NerR
  /-- `USART4_IF.R` (R319). -/
  | usart4IfR
  /-- `USART4_IF.W` (R319). -/
  | usart4IfW (v : Word)
  /-- `USART4_MAN.R` (R319). -/
  | usart4ManR
  /-- `USART4_MAN.W` (R319). -/
  | usart4ManW (v : Word)
  /-- `USART4_RPR.R` (R262). -/
  | usart4RprR
  /-- `USART4_RPR.W` (R262). -/
  | usart4RprW (v : Word)
  /-- `USART4_RCR.R` (R263). -/
  | usart4RcrR
  /-- `USART4_RCR.W` (R263). -/
  | usart4RcrW (v : Word)
  /-- `USART4_TPR.R` (R262). -/
  | usart4TprR
  /-- `USART4_TPR.W` (R262). -/
  | usart4TprW (v : Word)
  /-- `USART4_TCR.R` (R264). -/
  | usart4TcrR
  /-- `USART4_TCR.W` (R264). -/
  | usart4TcrW (v : Word)
  /-- `USART4_RNPR.R` (R262). -/
  | usart4RnprR
  /-- `USART4_RNPR.W` (R262). -/
  | usart4RnprW (v : Word)
  /-- `USART4_RNCR.R` (R265). -/
  | usart4RncrR
  /-- `USART4_RNCR.W` (R265). -/
  | usart4RncrW (v : Word)
  /-- `USART4_TNPR.R` (R262). -/
  | usart4TnprR
  /-- `USART4_TNPR.W` (R262). -/
  | usart4TnprW (v : Word)
  /-- `USART4_TNCR.R` (R265). -/
  | usart4TncrR
  /-- `USART4_TNCR.W` (R265). -/
  | usart4TncrW (v : Word)
  /-- `USART4_PTCR.W` (R266). -/
  | usart4PtcrW (v : Word)
  /-- `USART4_PTSR.R` (R267). -/
  | usart4PtsrR
  /-- `USART5_CR.W` (R303). -/
  | usart5CrW (v : Word)
  /-- `USART5_MR.R` (R302). -/
  | usart5MrR
  /-- `USART5_MR.W` (R302). -/
  | usart5MrW (v : Word)
  /-- `USART5_IER.W` (R305). -/
  | usart5IerW (v : Word)
  /-- `USART5_IDR.W` (R305). -/
  | usart5IdrW (v : Word)
  /-- `USART5_IMR.R` (R305). -/
  | usart5ImrR
  /-- `USART5_CSR.R` (R306). -/
  | usart5CsrR
  /-- `USART5_RHR.R` (R311). -/
  | usart5RhrR
  /-- `USART5_THR.W` (R313). -/
  | usart5ThrW (v : Word)
  /-- `USART5_BRGR.R` (R318). -/
  | usart5BrgrR
  /-- `USART5_BRGR.W` (R318). -/
  | usart5BrgrW (v : Word)
  /-- `USART5_RTOR.R` (R319). -/
  | usart5RtorR
  /-- `USART5_RTOR.W` (R319). -/
  | usart5RtorW (v : Word)
  /-- `USART5_TTGR.R` (R319). -/
  | usart5TtgrR
  /-- `USART5_TTGR.W` (R319). -/
  | usart5TtgrW (v : Word)
  /-- `USART5_FIDI.R` (R319). -/
  | usart5FidiR
  /-- `USART5_FIDI.W` (R319). -/
  | usart5FidiW (v : Word)
  /-- `USART5_NER.R` (R320). -/
  | usart5NerR
  /-- `USART5_IF.R` (R319). -/
  | usart5IfR
  /-- `USART5_IF.W` (R319). -/
  | usart5IfW (v : Word)
  /-- `USART5_MAN.R` (R319). -/
  | usart5ManR
  /-- `USART5_MAN.W` (R319). -/
  | usart5ManW (v : Word)
  /-- `USART5_RPR.R` (R262). -/
  | usart5RprR
  /-- `USART5_RPR.W` (R262). -/
  | usart5RprW (v : Word)
  /-- `USART5_RCR.R` (R263). -/
  | usart5RcrR
  /-- `USART5_RCR.W` (R263). -/
  | usart5RcrW (v : Word)
  /-- `USART5_TPR.R` (R262). -/
  | usart5TprR
  /-- `USART5_TPR.W` (R262). -/
  | usart5TprW (v : Word)
  /-- `USART5_TCR.R` (R264). -/
  | usart5TcrR
  /-- `USART5_TCR.W` (R264). -/
  | usart5TcrW (v : Word)
  /-- `USART5_RNPR.R` (R262). -/
  | usart5RnprR
  /-- `USART5_RNPR.W` (R262). -/
  | usart5RnprW (v : Word)
  /-- `USART5_RNCR.R` (R265). -/
  | usart5RncrR
  /-- `USART5_RNCR.W` (R265). -/
  | usart5RncrW (v : Word)
  /-- `USART5_TNPR.R` (R262). -/
  | usart5TnprR
  /-- `USART5_TNPR.W` (R262). -/
  | usart5TnprW (v : Word)
  /-- `USART5_TNCR.R` (R265). -/
  | usart5TncrR
  /-- `USART5_TNCR.W` (R265). -/
  | usart5TncrW (v : Word)
  /-- `USART5_PTCR.W` (R266). -/
  | usart5PtcrW (v : Word)
  /-- `USART5_PTSR.R` (R267). -/
  | usart5PtsrR
  /-- `SPI0_CR.W` (R372). -/
  | spi0CrW (v : Word)
  /-- `SPI0_MR.R` (R373). -/
  | spi0MrR
  /-- `SPI0_MR.W` (R373). -/
  | spi0MrW (v : Word)
  /-- `SPI0_RDR.R` (R384). -/
  | spi0RdrR
  /-- `SPI0_TDR.W` (R380). -/
  | spi0TdrW (v : Word)
  /-- `SPI0_SR.R` (R375). -/
  | spi0SrR
  /-- `SPI0_IER.W` (R376). -/
  | spi0IerW (v : Word)
  /-- `SPI0_IDR.W` (R376). -/
  | spi0IdrW (v : Word)
  /-- `SPI0_IMR.R` (R376). -/
  | spi0ImrR
  /-- `SPI0_CSR[k].R` (R374). -/
  | spi0CsrR (k : Fin 4)
  /-- `SPI0_CSR[k].W` (R374). -/
  | spi0CsrW (k : Fin 4) (v : Word)
  /-- `SPI0_RPR.R` (R262). -/
  | spi0RprR
  /-- `SPI0_RPR.W` (R262). -/
  | spi0RprW (v : Word)
  /-- `SPI0_RCR.R` (R263). -/
  | spi0RcrR
  /-- `SPI0_RCR.W` (R263). -/
  | spi0RcrW (v : Word)
  /-- `SPI0_TPR.R` (R262). -/
  | spi0TprR
  /-- `SPI0_TPR.W` (R262). -/
  | spi0TprW (v : Word)
  /-- `SPI0_TCR.R` (R264). -/
  | spi0TcrR
  /-- `SPI0_TCR.W` (R264). -/
  | spi0TcrW (v : Word)
  /-- `SPI0_RNPR.R` (R262). -/
  | spi0RnprR
  /-- `SPI0_RNPR.W` (R262). -/
  | spi0RnprW (v : Word)
  /-- `SPI0_RNCR.R` (R265). -/
  | spi0RncrR
  /-- `SPI0_RNCR.W` (R265). -/
  | spi0RncrW (v : Word)
  /-- `SPI0_TNPR.R` (R262). -/
  | spi0TnprR
  /-- `SPI0_TNPR.W` (R262). -/
  | spi0TnprW (v : Word)
  /-- `SPI0_TNCR.R` (R265). -/
  | spi0TncrR
  /-- `SPI0_TNCR.W` (R265). -/
  | spi0TncrW (v : Word)
  /-- `SPI0_PTCR.W` (R266). -/
  | spi0PtcrW (v : Word)
  /-- `SPI0_PTSR.R` (R267). -/
  | spi0PtsrR
  /-- `SPI1_CR.W` (R372). -/
  | spi1CrW (v : Word)
  /-- `SPI1_MR.R` (R373). -/
  | spi1MrR
  /-- `SPI1_MR.W` (R373). -/
  | spi1MrW (v : Word)
  /-- `SPI1_RDR.R` (R384). -/
  | spi1RdrR
  /-- `SPI1_TDR.W` (R380). -/
  | spi1TdrW (v : Word)
  /-- `SPI1_SR.R` (R375). -/
  | spi1SrR
  /-- `SPI1_IER.W` (R376). -/
  | spi1IerW (v : Word)
  /-- `SPI1_IDR.W` (R376). -/
  | spi1IdrW (v : Word)
  /-- `SPI1_IMR.R` (R376). -/
  | spi1ImrR
  /-- `SPI1_CSR[k].R` (R374). -/
  | spi1CsrR (k : Fin 4)
  /-- `SPI1_CSR[k].W` (R374). -/
  | spi1CsrW (k : Fin 4) (v : Word)
  /-- `SPI1_RPR.R` (R262). -/
  | spi1RprR
  /-- `SPI1_RPR.W` (R262). -/
  | spi1RprW (v : Word)
  /-- `SPI1_RCR.R` (R263). -/
  | spi1RcrR
  /-- `SPI1_RCR.W` (R263). -/
  | spi1RcrW (v : Word)
  /-- `SPI1_TPR.R` (R262). -/
  | spi1TprR
  /-- `SPI1_TPR.W` (R262). -/
  | spi1TprW (v : Word)
  /-- `SPI1_TCR.R` (R264). -/
  | spi1TcrR
  /-- `SPI1_TCR.W` (R264). -/
  | spi1TcrW (v : Word)
  /-- `SPI1_RNPR.R` (R262). -/
  | spi1RnprR
  /-- `SPI1_RNPR.W` (R262). -/
  | spi1RnprW (v : Word)
  /-- `SPI1_RNCR.R` (R265). -/
  | spi1RncrR
  /-- `SPI1_RNCR.W` (R265). -/
  | spi1RncrW (v : Word)
  /-- `SPI1_TNPR.R` (R262). -/
  | spi1TnprR
  /-- `SPI1_TNPR.W` (R262). -/
  | spi1TnprW (v : Word)
  /-- `SPI1_TNCR.R` (R265). -/
  | spi1TncrR
  /-- `SPI1_TNCR.W` (R265). -/
  | spi1TncrW (v : Word)
  /-- `SPI1_PTCR.W` (R266). -/
  | spi1PtcrW (v : Word)
  /-- `SPI1_PTSR.R` (R267). -/
  | spi1PtsrR
  /-- `TWI_CR.W` (R432). -/
  | twiCrW (v : Word)
  /-- `TWI_MMR.R` (R434). -/
  | twiMmrR
  /-- `TWI_MMR.W` (R434). -/
  | twiMmrW (v : Word)
  /-- `TWI_SMR.R` (R434). -/
  | twiSmrR
  /-- `TWI_SMR.W` (R434). -/
  | twiSmrW (v : Word)
  /-- `TWI_IADR.R` (R434). -/
  | twiIadrR
  /-- `TWI_IADR.W` (R434). -/
  | twiIadrW (v : Word)
  /-- `TWI_CWGR.R` (R435). -/
  | twiCwgrR
  /-- `TWI_CWGR.W` (R435). -/
  | twiCwgrW (v : Word)
  /-- `TWI_SR.R` (R436). -/
  | twiSrR
  /-- `TWI_IER.W` (R437). -/
  | twiIerW (v : Word)
  /-- `TWI_IDR.W` (R437). -/
  | twiIdrW (v : Word)
  /-- `TWI_IMR.R` (R437). -/
  | twiImrR
  /-- `TWI_RHR.R` (R447). -/
  | twiRhrR
  /-- `TWI_THR.W` (R440). -/
  | twiThrW (v : Word)
  /-- `TWI_RPR.R` (R262). -/
  | twiRprR
  /-- `TWI_RPR.W` (R262). -/
  | twiRprW (v : Word)
  /-- `TWI_RCR.R` (R263). -/
  | twiRcrR
  /-- `TWI_RCR.W` (R263). -/
  | twiRcrW (v : Word)
  /-- `TWI_TPR.R` (R262). -/
  | twiTprR
  /-- `TWI_TPR.W` (R262). -/
  | twiTprW (v : Word)
  /-- `TWI_TCR.R` (R264). -/
  | twiTcrR
  /-- `TWI_TCR.W` (R264). -/
  | twiTcrW (v : Word)
  /-- `TWI_RNPR.R` (R262). -/
  | twiRnprR
  /-- `TWI_RNPR.W` (R262). -/
  | twiRnprW (v : Word)
  /-- `TWI_RNCR.R` (R265). -/
  | twiRncrR
  /-- `TWI_RNCR.W` (R265). -/
  | twiRncrW (v : Word)
  /-- `TWI_TNPR.R` (R262). -/
  | twiTnprR
  /-- `TWI_TNPR.W` (R262). -/
  | twiTnprW (v : Word)
  /-- `TWI_TNCR.R` (R265). -/
  | twiTncrR
  /-- `TWI_TNCR.W` (R265). -/
  | twiTncrW (v : Word)
  /-- `TWI_PTCR.W` (R266). -/
  | twiPtcrW (v : Word)
  /-- `TWI_PTSR.R` (R267). -/
  | twiPtsrR
  /-- `MCI_CR.W` (R482). -/
  | mciCrW (v : Word)
  /-- `MCI_MR.R` (R483). -/
  | mciMrR
  /-- `MCI_MR.W` (R483). -/
  | mciMrW (v : Word)
  /-- `MCI_DTOR.R` (R484). -/
  | mciDtorR
  /-- `MCI_DTOR.W` (R484). -/
  | mciDtorW (v : Word)
  /-- `MCI_SDCR.R` (R484). -/
  | mciSdcrR
  /-- `MCI_SDCR.W` (R484). -/
  | mciSdcrW (v : Word)
  /-- `MCI_ARGR.R` (R484). -/
  | mciArgrR
  /-- `MCI_ARGR.W` (R484). -/
  | mciArgrW (v : Word)
  /-- `MCI_CMDR.W` (R487). -/
  | mciCmdrW (v : Word)
  /-- `MCI_BLKR.R` (R483). -/
  | mciBlkrR
  /-- `MCI_BLKR.W` (R483). -/
  | mciBlkrW (v : Word)
  /-- `MCI_RSPR[k].R` (R490). -/
  | mciRsprR (k : Fin 4)
  /-- `MCI_RDR.R` (R499). -/
  | mciRdrR
  /-- `MCI_TDR.W` (R502). -/
  | mciTdrW (v : Word)
  /-- `MCI_SR.R` (R485). -/
  | mciSrR
  /-- `MCI_IER.W` (R486). -/
  | mciIerW (v : Word)
  /-- `MCI_IDR.W` (R486). -/
  | mciIdrW (v : Word)
  /-- `MCI_IMR.R` (R486). -/
  | mciImrR
  /-- `MCI_RPR.R` (R262). -/
  | mciRprR
  /-- `MCI_RPR.W` (R262). -/
  | mciRprW (v : Word)
  /-- `MCI_RCR.R` (R263). -/
  | mciRcrR
  /-- `MCI_RCR.W` (R263). -/
  | mciRcrW (v : Word)
  /-- `MCI_TPR.R` (R262). -/
  | mciTprR
  /-- `MCI_TPR.W` (R262). -/
  | mciTprW (v : Word)
  /-- `MCI_TCR.R` (R264). -/
  | mciTcrR
  /-- `MCI_TCR.W` (R264). -/
  | mciTcrW (v : Word)
  /-- `MCI_RNPR.R` (R262). -/
  | mciRnprR
  /-- `MCI_RNPR.W` (R262). -/
  | mciRnprW (v : Word)
  /-- `MCI_RNCR.R` (R265). -/
  | mciRncrR
  /-- `MCI_RNCR.W` (R265). -/
  | mciRncrW (v : Word)
  /-- `MCI_TNPR.R` (R262). -/
  | mciTnprR
  /-- `MCI_TNPR.W` (R262). -/
  | mciTnprW (v : Word)
  /-- `MCI_TNCR.R` (R265). -/
  | mciTncrR
  /-- `MCI_TNCR.W` (R265). -/
  | mciTncrW (v : Word)
  /-- `MCI_PTCR.W` (R266). -/
  | mciPtcrW (v : Word)
  /-- `MCI_PTSR.R` (R267). -/
  | mciPtsrR
  /-- `TCB0_CH0_CCR.W` (R552). -/
  | tcb0Ch0CcrW (v : Word)
  /-- `TCB0_CH0_CMR.R` (R553). -/
  | tcb0Ch0CmrR
  /-- `TCB0_CH0_CMR.W` (R553). -/
  | tcb0Ch0CmrW (v : Word)
  /-- `TCB0_CH0_CV.R` (R554). -/
  | tcb0Ch0CvR
  /-- `TCB0_CH0_RA.R` (R555). -/
  | tcb0Ch0RaR
  /-- `TCB0_CH0_RA.W` (R555). -/
  | tcb0Ch0RaW (v : Word)
  /-- `TCB0_CH0_RB.R` (R555). -/
  | tcb0Ch0RbR
  /-- `TCB0_CH0_RB.W` (R555). -/
  | tcb0Ch0RbW (v : Word)
  /-- `TCB0_CH0_RC.R` (R555). -/
  | tcb0Ch0RcR
  /-- `TCB0_CH0_RC.W` (R555). -/
  | tcb0Ch0RcW (v : Word)
  /-- `TCB0_CH0_SR.R` (R556). -/
  | tcb0Ch0SrR
  /-- `TCB0_CH0_IER.W` (R557). -/
  | tcb0Ch0IerW (v : Word)
  /-- `TCB0_CH0_IDR.W` (R557). -/
  | tcb0Ch0IdrW (v : Word)
  /-- `TCB0_CH0_IMR.R` (R557). -/
  | tcb0Ch0ImrR
  /-- `TCB0_CH1_CCR.W` (R552). -/
  | tcb0Ch1CcrW (v : Word)
  /-- `TCB0_CH1_CMR.R` (R553). -/
  | tcb0Ch1CmrR
  /-- `TCB0_CH1_CMR.W` (R553). -/
  | tcb0Ch1CmrW (v : Word)
  /-- `TCB0_CH1_CV.R` (R554). -/
  | tcb0Ch1CvR
  /-- `TCB0_CH1_RA.R` (R555). -/
  | tcb0Ch1RaR
  /-- `TCB0_CH1_RA.W` (R555). -/
  | tcb0Ch1RaW (v : Word)
  /-- `TCB0_CH1_RB.R` (R555). -/
  | tcb0Ch1RbR
  /-- `TCB0_CH1_RB.W` (R555). -/
  | tcb0Ch1RbW (v : Word)
  /-- `TCB0_CH1_RC.R` (R555). -/
  | tcb0Ch1RcR
  /-- `TCB0_CH1_RC.W` (R555). -/
  | tcb0Ch1RcW (v : Word)
  /-- `TCB0_CH1_SR.R` (R556). -/
  | tcb0Ch1SrR
  /-- `TCB0_CH1_IER.W` (R557). -/
  | tcb0Ch1IerW (v : Word)
  /-- `TCB0_CH1_IDR.W` (R557). -/
  | tcb0Ch1IdrW (v : Word)
  /-- `TCB0_CH1_IMR.R` (R557). -/
  | tcb0Ch1ImrR
  /-- `TCB0_CH2_CCR.W` (R552). -/
  | tcb0Ch2CcrW (v : Word)
  /-- `TCB0_CH2_CMR.R` (R553). -/
  | tcb0Ch2CmrR
  /-- `TCB0_CH2_CMR.W` (R553). -/
  | tcb0Ch2CmrW (v : Word)
  /-- `TCB0_CH2_CV.R` (R554). -/
  | tcb0Ch2CvR
  /-- `TCB0_CH2_RA.R` (R555). -/
  | tcb0Ch2RaR
  /-- `TCB0_CH2_RA.W` (R555). -/
  | tcb0Ch2RaW (v : Word)
  /-- `TCB0_CH2_RB.R` (R555). -/
  | tcb0Ch2RbR
  /-- `TCB0_CH2_RB.W` (R555). -/
  | tcb0Ch2RbW (v : Word)
  /-- `TCB0_CH2_RC.R` (R555). -/
  | tcb0Ch2RcR
  /-- `TCB0_CH2_RC.W` (R555). -/
  | tcb0Ch2RcW (v : Word)
  /-- `TCB0_CH2_SR.R` (R556). -/
  | tcb0Ch2SrR
  /-- `TCB0_CH2_IER.W` (R557). -/
  | tcb0Ch2IerW (v : Word)
  /-- `TCB0_CH2_IDR.W` (R557). -/
  | tcb0Ch2IdrW (v : Word)
  /-- `TCB0_CH2_IMR.R` (R557). -/
  | tcb0Ch2ImrR
  /-- `TCB0_BCR.W` (R558). -/
  | tcb0BcrW (v : Word)
  /-- `TCB0_BMR.R` (R559). -/
  | tcb0BmrR
  /-- `TCB0_BMR.W` (R559). -/
  | tcb0BmrW (v : Word)
  /-- `TCB1_CH0_CCR.W` (R552). -/
  | tcb1Ch0CcrW (v : Word)
  /-- `TCB1_CH0_CMR.R` (R553). -/
  | tcb1Ch0CmrR
  /-- `TCB1_CH0_CMR.W` (R553). -/
  | tcb1Ch0CmrW (v : Word)
  /-- `TCB1_CH0_CV.R` (R554). -/
  | tcb1Ch0CvR
  /-- `TCB1_CH0_RA.R` (R555). -/
  | tcb1Ch0RaR
  /-- `TCB1_CH0_RA.W` (R555). -/
  | tcb1Ch0RaW (v : Word)
  /-- `TCB1_CH0_RB.R` (R555). -/
  | tcb1Ch0RbR
  /-- `TCB1_CH0_RB.W` (R555). -/
  | tcb1Ch0RbW (v : Word)
  /-- `TCB1_CH0_RC.R` (R555). -/
  | tcb1Ch0RcR
  /-- `TCB1_CH0_RC.W` (R555). -/
  | tcb1Ch0RcW (v : Word)
  /-- `TCB1_CH0_SR.R` (R556). -/
  | tcb1Ch0SrR
  /-- `TCB1_CH0_IER.W` (R557). -/
  | tcb1Ch0IerW (v : Word)
  /-- `TCB1_CH0_IDR.W` (R557). -/
  | tcb1Ch0IdrW (v : Word)
  /-- `TCB1_CH0_IMR.R` (R557). -/
  | tcb1Ch0ImrR
  /-- `TCB1_CH1_CCR.W` (R552). -/
  | tcb1Ch1CcrW (v : Word)
  /-- `TCB1_CH1_CMR.R` (R553). -/
  | tcb1Ch1CmrR
  /-- `TCB1_CH1_CMR.W` (R553). -/
  | tcb1Ch1CmrW (v : Word)
  /-- `TCB1_CH1_CV.R` (R554). -/
  | tcb1Ch1CvR
  /-- `TCB1_CH1_RA.R` (R555). -/
  | tcb1Ch1RaR
  /-- `TCB1_CH1_RA.W` (R555). -/
  | tcb1Ch1RaW (v : Word)
  /-- `TCB1_CH1_RB.R` (R555). -/
  | tcb1Ch1RbR
  /-- `TCB1_CH1_RB.W` (R555). -/
  | tcb1Ch1RbW (v : Word)
  /-- `TCB1_CH1_RC.R` (R555). -/
  | tcb1Ch1RcR
  /-- `TCB1_CH1_RC.W` (R555). -/
  | tcb1Ch1RcW (v : Word)
  /-- `TCB1_CH1_SR.R` (R556). -/
  | tcb1Ch1SrR
  /-- `TCB1_CH1_IER.W` (R557). -/
  | tcb1Ch1IerW (v : Word)
  /-- `TCB1_CH1_IDR.W` (R557). -/
  | tcb1Ch1IdrW (v : Word)
  /-- `TCB1_CH1_IMR.R` (R557). -/
  | tcb1Ch1ImrR
  /-- `TCB1_CH2_CCR.W` (R552). -/
  | tcb1Ch2CcrW (v : Word)
  /-- `TCB1_CH2_CMR.R` (R553). -/
  | tcb1Ch2CmrR
  /-- `TCB1_CH2_CMR.W` (R553). -/
  | tcb1Ch2CmrW (v : Word)
  /-- `TCB1_CH2_CV.R` (R554). -/
  | tcb1Ch2CvR
  /-- `TCB1_CH2_RA.R` (R555). -/
  | tcb1Ch2RaR
  /-- `TCB1_CH2_RA.W` (R555). -/
  | tcb1Ch2RaW (v : Word)
  /-- `TCB1_CH2_RB.R` (R555). -/
  | tcb1Ch2RbR
  /-- `TCB1_CH2_RB.W` (R555). -/
  | tcb1Ch2RbW (v : Word)
  /-- `TCB1_CH2_RC.R` (R555). -/
  | tcb1Ch2RcR
  /-- `TCB1_CH2_RC.W` (R555). -/
  | tcb1Ch2RcW (v : Word)
  /-- `TCB1_CH2_SR.R` (R556). -/
  | tcb1Ch2SrR
  /-- `TCB1_CH2_IER.W` (R557). -/
  | tcb1Ch2IerW (v : Word)
  /-- `TCB1_CH2_IDR.W` (R557). -/
  | tcb1Ch2IdrW (v : Word)
  /-- `TCB1_CH2_IMR.R` (R557). -/
  | tcb1Ch2ImrR
  /-- `TCB1_BCR.W` (R558). -/
  | tcb1BcrW (v : Word)
  /-- `TCB1_BMR.R` (R559). -/
  | tcb1BmrR
  /-- `TCB1_BMR.W` (R559). -/
  | tcb1BmrW (v : Word)
  /-- `PIT_MR.R` (R580). -/
  | pitMrR
  /-- `PIT_MR.W` (R580). -/
  | pitMrW (v : Word)
  /-- `PIT_SR.R` (R584). -/
  | pitSrR
  /-- `PIT_PIVR.R` (R582). -/
  | pitPivrR
  /-- `PIT_PIIR.R` (R583). -/
  | pitPiirR
  /-- `RTT_MR.R` (R590). -/
  | rttMrR
  /-- `RTT_MR.W` (R590). -/
  | rttMrW (v : Word)
  /-- `RTT_AR.R` (R591). -/
  | rttArR
  /-- `RTT_AR.W` (R591). -/
  | rttArW (v : Word)
  /-- `RTT_VR.R` (R592). -/
  | rttVrR
  /-- `RTT_SR.R` (R593). -/
  | rttSrR
  /-- `DBGU_CR.W` (R631). -/
  | dbguCrW (v : Word)
  /-- `DBGU_MR.R` (R632). -/
  | dbguMrR
  /-- `DBGU_MR.W` (R632). -/
  | dbguMrW (v : Word)
  /-- `DBGU_IER.W` (R633). -/
  | dbguIerW (v : Word)
  /-- `DBGU_IDR.W` (R633). -/
  | dbguIdrW (v : Word)
  /-- `DBGU_IMR.R` (R633). -/
  | dbguImrR
  /-- `DBGU_SR.R` (R634). -/
  | dbguSrR
  /-- `DBGU_RHR.R` (R635). -/
  | dbguRhrR
  /-- `DBGU_THR.W` (R636). -/
  | dbguThrW (v : Word)
  /-- `DBGU_BRGR.R` (R638). -/
  | dbguBrgrR
  /-- `DBGU_BRGR.W` (R638). -/
  | dbguBrgrW (v : Word)
  /-- `DBGU_CIDR.R` (R639). -/
  | dbguCidrR
  /-- `DBGU_EXID.R` (R639). -/
  | dbguExidR
  /-- `PIOA_PER.W` (R651). -/
  | pioaPerW (v : Word)
  /-- `PIOA_PDR.W` (R651). -/
  | pioaPdrW (v : Word)
  /-- `PIOA_PSR.R` (R651). -/
  | pioaPsrR
  /-- `PIOA_OER.W` (R652). -/
  | pioaOerW (v : Word)
  /-- `PIOA_ODR.W` (R652). -/
  | pioaOdrW (v : Word)
  /-- `PIOA_OSR.R` (R652). -/
  | pioaOsrR
  /-- `PIOA_IFER.W` (R653). -/
  | pioaIferW (v : Word)
  /-- `PIOA_IFDR.W` (R653). -/
  | pioaIfdrW (v : Word)
  /-- `PIOA_IFSR.R` (R653). -/
  | pioaIfsrR
  /-- `PIOA_SODR.W` (R654). -/
  | pioaSodrW (v : Word)
  /-- `PIOA_CODR.W` (R654). -/
  | pioaCodrW (v : Word)
  /-- `PIOA_ODSR.R` (R654). -/
  | pioaOdsrR
  /-- `PIOA_ODSR.W` (R654). -/
  | pioaOdsrW (v : Word)
  /-- `PIOA_PDSR.R` (R655). -/
  | pioaPdsrR
  /-- `PIOA_IER.W` (R656). -/
  | pioaIerW (v : Word)
  /-- `PIOA_IDR.W` (R656). -/
  | pioaIdrW (v : Word)
  /-- `PIOA_IMR.R` (R656). -/
  | pioaImrR
  /-- `PIOA_ISR.R` (R657). -/
  | pioaIsrR
  /-- `PIOA_MDER.W` (R658). -/
  | pioaMderW (v : Word)
  /-- `PIOA_MDDR.W` (R658). -/
  | pioaMddrW (v : Word)
  /-- `PIOA_MDSR.R` (R658). -/
  | pioaMdsrR
  /-- `PIOA_PUDR.W` (R659). -/
  | pioaPudrW (v : Word)
  /-- `PIOA_PUER.W` (R659). -/
  | pioaPuerW (v : Word)
  /-- `PIOA_PUSR.R` (R659). -/
  | pioaPusrR
  /-- `PIOA_ASR.W` (R660). -/
  | pioaAsrW (v : Word)
  /-- `PIOA_BSR.W` (R660). -/
  | pioaBsrW (v : Word)
  /-- `PIOA_ABSR.R` (R660). -/
  | pioaAbsrR
  /-- `PIOA_OWER.W` (R661). -/
  | pioaOwerW (v : Word)
  /-- `PIOA_OWDR.W` (R661). -/
  | pioaOwdrW (v : Word)
  /-- `PIOA_OWSR.R` (R661). -/
  | pioaOwsrR
  /-- `PIOB_PER.W` (R651). -/
  | piobPerW (v : Word)
  /-- `PIOB_PDR.W` (R651). -/
  | piobPdrW (v : Word)
  /-- `PIOB_PSR.R` (R651). -/
  | piobPsrR
  /-- `PIOB_OER.W` (R652). -/
  | piobOerW (v : Word)
  /-- `PIOB_ODR.W` (R652). -/
  | piobOdrW (v : Word)
  /-- `PIOB_OSR.R` (R652). -/
  | piobOsrR
  /-- `PIOB_IFER.W` (R653). -/
  | piobIferW (v : Word)
  /-- `PIOB_IFDR.W` (R653). -/
  | piobIfdrW (v : Word)
  /-- `PIOB_IFSR.R` (R653). -/
  | piobIfsrR
  /-- `PIOB_SODR.W` (R654). -/
  | piobSodrW (v : Word)
  /-- `PIOB_CODR.W` (R654). -/
  | piobCodrW (v : Word)
  /-- `PIOB_ODSR.R` (R654). -/
  | piobOdsrR
  /-- `PIOB_ODSR.W` (R654). -/
  | piobOdsrW (v : Word)
  /-- `PIOB_PDSR.R` (R655). -/
  | piobPdsrR
  /-- `PIOB_IER.W` (R656). -/
  | piobIerW (v : Word)
  /-- `PIOB_IDR.W` (R656). -/
  | piobIdrW (v : Word)
  /-- `PIOB_IMR.R` (R656). -/
  | piobImrR
  /-- `PIOB_ISR.R` (R657). -/
  | piobIsrR
  /-- `PIOB_MDER.W` (R658). -/
  | piobMderW (v : Word)
  /-- `PIOB_MDDR.W` (R658). -/
  | piobMddrW (v : Word)
  /-- `PIOB_MDSR.R` (R658). -/
  | piobMdsrR
  /-- `PIOB_PUDR.W` (R659). -/
  | piobPudrW (v : Word)
  /-- `PIOB_PUER.W` (R659). -/
  | piobPuerW (v : Word)
  /-- `PIOB_PUSR.R` (R659). -/
  | piobPusrR
  /-- `PIOB_ASR.W` (R660). -/
  | piobAsrW (v : Word)
  /-- `PIOB_BSR.W` (R660). -/
  | piobBsrW (v : Word)
  /-- `PIOB_ABSR.R` (R660). -/
  | piobAbsrR
  /-- `PIOB_OWER.W` (R661). -/
  | piobOwerW (v : Word)
  /-- `PIOB_OWDR.W` (R661). -/
  | piobOwdrW (v : Word)
  /-- `PIOB_OWSR.R` (R661). -/
  | piobOwsrR
  /-- `PIOC_PER.W` (R651). -/
  | piocPerW (v : Word)
  /-- `PIOC_PDR.W` (R651). -/
  | piocPdrW (v : Word)
  /-- `PIOC_PSR.R` (R651). -/
  | piocPsrR
  /-- `PIOC_OER.W` (R652). -/
  | piocOerW (v : Word)
  /-- `PIOC_ODR.W` (R652). -/
  | piocOdrW (v : Word)
  /-- `PIOC_OSR.R` (R652). -/
  | piocOsrR
  /-- `PIOC_IFER.W` (R653). -/
  | piocIferW (v : Word)
  /-- `PIOC_IFDR.W` (R653). -/
  | piocIfdrW (v : Word)
  /-- `PIOC_IFSR.R` (R653). -/
  | piocIfsrR
  /-- `PIOC_SODR.W` (R654). -/
  | piocSodrW (v : Word)
  /-- `PIOC_CODR.W` (R654). -/
  | piocCodrW (v : Word)
  /-- `PIOC_ODSR.R` (R654). -/
  | piocOdsrR
  /-- `PIOC_ODSR.W` (R654). -/
  | piocOdsrW (v : Word)
  /-- `PIOC_PDSR.R` (R655). -/
  | piocPdsrR
  /-- `PIOC_IER.W` (R656). -/
  | piocIerW (v : Word)
  /-- `PIOC_IDR.W` (R656). -/
  | piocIdrW (v : Word)
  /-- `PIOC_IMR.R` (R656). -/
  | piocImrR
  /-- `PIOC_ISR.R` (R657). -/
  | piocIsrR
  /-- `PIOC_MDER.W` (R658). -/
  | piocMderW (v : Word)
  /-- `PIOC_MDDR.W` (R658). -/
  | piocMddrW (v : Word)
  /-- `PIOC_MDSR.R` (R658). -/
  | piocMdsrR
  /-- `PIOC_PUDR.W` (R659). -/
  | piocPudrW (v : Word)
  /-- `PIOC_PUER.W` (R659). -/
  | piocPuerW (v : Word)
  /-- `PIOC_PUSR.R` (R659). -/
  | piocPusrR
  /-- `PIOC_ASR.W` (R660). -/
  | piocAsrW (v : Word)
  /-- `PIOC_BSR.W` (R660). -/
  | piocBsrW (v : Word)
  /-- `PIOC_ABSR.R` (R660). -/
  | piocAbsrR
  /-- `PIOC_OWER.W` (R661). -/
  | piocOwerW (v : Word)
  /-- `PIOC_OWDR.W` (R661). -/
  | piocOwdrW (v : Word)
  /-- `PIOC_OWSR.R` (R661). -/
  | piocOwsrR
  /-- `PMC_SCER.W` (R671). -/
  | pmcScerW (v : Word)
  /-- `PMC_SCDR.W` (R671). -/
  | pmcScdrW (v : Word)
  /-- `PMC_SCSR.R` (R671). -/
  | pmcScsrR
  /-- `PMC_PCER.W` (R672). -/
  | pmcPcerW (v : Word)
  /-- `PMC_PCDR.W` (R672). -/
  | pmcPcdrW (v : Word)
  /-- `PMC_PCSR.R` (R672). -/
  | pmcPcsrR
  /-- `PMC_CKGR_MOR.R` (R673). -/
  | pmcCkgrMorR
  /-- `PMC_CKGR_MOR.W` (R673). -/
  | pmcCkgrMorW (v : Word)
  /-- `PMC_CKGR_MCFR.R` (R674). -/
  | pmcCkgrMcfrR
  /-- `PMC_CKGR_PLLAR.R` (R675). -/
  | pmcCkgrPllarR
  /-- `PMC_CKGR_PLLAR.W` (R675). -/
  | pmcCkgrPllarW (v : Word)
  /-- `PMC_CKGR_PLLBR.R` (R676). -/
  | pmcCkgrPllbrR
  /-- `PMC_CKGR_PLLBR.W` (R676). -/
  | pmcCkgrPllbrW (v : Word)
  /-- `PMC_MCKR.R` (R677). -/
  | pmcMckrR
  /-- `PMC_MCKR.W` (R677). -/
  | pmcMckrW (v : Word)
  /-- `PMC_PCK0.R` (R678). -/
  | pmcPck0R
  /-- `PMC_PCK0.W` (R678). -/
  | pmcPck0W (v : Word)
  /-- `PMC_PCK1.R` (R678). -/
  | pmcPck1R
  /-- `PMC_PCK1.W` (R678). -/
  | pmcPck1W (v : Word)
  /-- `PMC_IER.W` (R679). -/
  | pmcIerW (v : Word)
  /-- `PMC_IDR.W` (R679). -/
  | pmcIdrW (v : Word)
  /-- `PMC_SR.R` (R680). -/
  | pmcSrR
  /-- `PMC_IMR.R` (R679). -/
  | pmcImrR
  /-- `PMC_PLLICPR.R` (R683). -/
  | pmcPllicprR
  /-- `PMC_PLLICPR.W` (R683). -/
  | pmcPllicprW (v : Word)
  /-- `MATRIX_MCFG[0].R` (R166). -/
  | matrixMcfg0R
  /-- `MATRIX_MCFG[0].W` (R166). -/
  | matrixMcfg0W (v : Word)
  /-- `MATRIX_MCFG[1].R` (R166). -/
  | matrixMcfg1R
  /-- `MATRIX_MCFG[1].W` (R166). -/
  | matrixMcfg1W (v : Word)
  /-- `MATRIX_MCFG[2].R` (R166). -/
  | matrixMcfg2R
  /-- `MATRIX_MCFG[2].W` (R166). -/
  | matrixMcfg2W (v : Word)
  /-- `MATRIX_MCFG[3].R` (R166). -/
  | matrixMcfg3R
  /-- `MATRIX_MCFG[3].W` (R166). -/
  | matrixMcfg3W (v : Word)
  /-- `MATRIX_MCFG[4].R` (R166). -/
  | matrixMcfg4R
  /-- `MATRIX_MCFG[4].W` (R166). -/
  | matrixMcfg4W (v : Word)
  /-- `MATRIX_MCFG[5].R` (R166). -/
  | matrixMcfg5R
  /-- `MATRIX_MCFG[5].W` (R166). -/
  | matrixMcfg5W (v : Word)
  /-- `MATRIX_SCFG[0].R` (R166). -/
  | matrixScfg0R
  /-- `MATRIX_SCFG[0].W` (R166). -/
  | matrixScfg0W (v : Word)
  /-- `MATRIX_SCFG[1].R` (R166). -/
  | matrixScfg1R
  /-- `MATRIX_SCFG[1].W` (R166). -/
  | matrixScfg1W (v : Word)
  /-- `MATRIX_SCFG[2].R` (R166). -/
  | matrixScfg2R
  /-- `MATRIX_SCFG[2].W` (R166). -/
  | matrixScfg2W (v : Word)
  /-- `MATRIX_SCFG[3].R` (R166). -/
  | matrixScfg3R
  /-- `MATRIX_SCFG[3].W` (R166). -/
  | matrixScfg3W (v : Word)
  /-- `MATRIX_SCFG[4].R` (R166). -/
  | matrixScfg4R
  /-- `MATRIX_SCFG[4].W` (R166). -/
  | matrixScfg4W (v : Word)
  /-- `MATRIX_PRAS[0].R` (R166). -/
  | matrixPras0R
  /-- `MATRIX_PRAS[0].W` (R166). -/
  | matrixPras0W (v : Word)
  /-- `MATRIX_PRAS[1].R` (R166). -/
  | matrixPras1R
  /-- `MATRIX_PRAS[1].W` (R166). -/
  | matrixPras1W (v : Word)
  /-- `MATRIX_PRAS[2].R` (R166). -/
  | matrixPras2R
  /-- `MATRIX_PRAS[2].W` (R166). -/
  | matrixPras2W (v : Word)
  /-- `MATRIX_PRAS[3].R` (R166). -/
  | matrixPras3R
  /-- `MATRIX_PRAS[3].W` (R166). -/
  | matrixPras3W (v : Word)
  /-- `MATRIX_PRAS[4].R` (R166). -/
  | matrixPras4R
  /-- `MATRIX_PRAS[4].W` (R166). -/
  | matrixPras4W (v : Word)
  /-- `MATRIX_MRCR.R` (R167). -/
  | matrixMrcrR
  /-- `MATRIX_MRCR.W` (R167). -/
  | matrixMrcrW (v : Word)
  /-- `MATRIX_EBI_CSA.R` (R166). -/
  | matrixEbiCsaR
  /-- `MATRIX_EBI_CSA.W` (R166). -/
  | matrixEbiCsaW (v : Word)
  /-- `RSTC_CR.W` (R170). -/
  | rstcCrW (v : Word)
  /-- `RSTC_SR.R` (R171). -/
  | rstcSrR
  /-- `RSTC_MR.R` (R171). -/
  | rstcMrR
  /-- `RSTC_MR.W` (R171). -/
  | rstcMrW (v : Word)
  /-- `SDRAMC_MR.R` (R172). -/
  | sdramcMrR
  /-- `SDRAMC_MR.W` (R172). -/
  | sdramcMrW (v : Word)
  /-- `SDRAMC_TR.R` (R172). -/
  | sdramcTrR
  /-- `SDRAMC_TR.W` (R172). -/
  | sdramcTrW (v : Word)
  /-- `SDRAMC_CR.R` (R172). -/
  | sdramcCrR
  /-- `SDRAMC_CR.W` (R172). -/
  | sdramcCrW (v : Word)
  /-- `SDRAMC_LPR.R` (R172). -/
  | sdramcLprR
  /-- `SDRAMC_LPR.W` (R172). -/
  | sdramcLprW (v : Word)
  /-- `SDRAMC_IER.W` (R174). -/
  | sdramcIerW (v : Word)
  /-- `SDRAMC_IDR.W` (R174). -/
  | sdramcIdrW (v : Word)
  /-- `SDRAMC_IMR.R` (R174). -/
  | sdramcImrR
  /-- `SDRAMC_ISR.R` (R174). -/
  | sdramcIsrR
  /-- `SDRAMC_MDR.R` (R172). -/
  | sdramcMdrR
  /-- `SDRAMC_MDR.W` (R172). -/
  | sdramcMdrW (v : Word)
  /-- `USART.DATA_IN` (R308). -/
  | usartDataIn (u : Fin 6) (seq : Byte) (payload : List Byte)
  /-- `USART.DATA_OUT` (R313). -/
  | usartDataOut (u : Fin 6) (payload : List Byte)
  /-- `USART.FAULT_OVRE` (R315). -/
  | usartFaultOvre (u : Fin 6) (seq : Byte) (payload : List Byte)
  /-- `USART.FAULT_FRAME` (R315). -/
  | usartFaultFrame (u : Fin 6) (seq : Byte) (payload : List Byte)
  /-- `USART.FAULT_PARE` (R315). -/
  | usartFaultPare (u : Fin 6) (seq : Byte) (payload : List Byte)
  /-- `USART.FAULT_TIMEOUT` (R315). -/
  | usartFaultTimeout (u : Fin 6) (seq : Byte) (payload : List Byte)
  /-- `SPI.DATA_IN` (R388). -/
  | spiDataIn (u : Fin 2) (seq : Byte) (payload : List Byte)
  /-- `SPI.DATA_OUT` (R381). -/
  | spiDataOut (u : Fin 2) (payload : List Byte)
  /-- `SPI.FAULT_MODF` (R389). -/
  | spiFaultModf (u : Fin 2) (seq : Byte) (payload : List Byte)
  /-- `SPI.FAULT_OVRES` (R389). -/
  | spiFaultOvres (u : Fin 2) (seq : Byte) (payload : List Byte)
  /-- `TWI.DATA_IN` (R445). -/
  | twiDataIn (seq : Byte) (payload : List Byte)
  /-- `TWI.DATA_OUT` (R442). -/
  | twiDataOut (payload : List Byte)
  /-- `TWI.CTRL_START` (R441). -/
  | twiCtrlStart
  /-- `TWI.CTRL_STOP` (R442). -/
  | twiCtrlStop
  /-- `TWI.FAULT_OVRE` (R449). -/
  | twiFaultOvre (seq : Byte) (payload : List Byte)
  /-- `TWI.FAULT_NACK` (R449). -/
  | twiFaultNack (seq : Byte) (payload : List Byte)
  /-- `TWI.FAULT_ARBLST` (R449). -/
  | twiFaultArblst (seq : Byte) (payload : List Byte)
  /-- `PIO.PINSTATE_ENABLE` (R663). -/
  | pioPinstateEnable (p : Fin 3) (seq : Byte) (payload : List Byte)
  /-- `PIO.PINSTATE_DISABLE` (R663). -/
  | pioPinstateDisable (p : Fin 3) (seq : Byte) (payload : List Byte)
  /-- `PIO.PINSTATE_OUT` (R662). -/
  | pioPinstateOut (p : Fin 3)
  /-- `PIO.PINSTATE_GET` (R663). -/
  | pioPinstateGet (p : Fin 3) (seq : Byte) (payload : List Byte)
  /-- `SDRAMC.FAULT_RES` (R173). -/
  | sdramcFaultRes (seq : Byte) (payload : List Byte)
  deriving DecidableEq, Repr

end Sys2Proof
end

