-- ==== Sys2Proof/WellFormed.lean ====
section
/-! DEFINITION. Which terms of `Instr` stand for an operation of the block: a memory or unimplemented window's address
lies in the window the row selects (R123) and is aligned (R93, R94), and a payload fits the length byte of a frame
(R130). -/

namespace Sys2Proof

/-- `addr` is selected by the row whose mask and match are given (R123). -/
def selects (mask pattern addr : Word) : Bool := addr &&& mask == pattern

/-- `addr` lies in a region of a size that is a parameter (R86). -/
def within (base size : Nat) (addr : Word) : Bool := decide (base ≤ addr.toNat) && decide (addr.toNat < base + size)

/-- `addr mod size = 0` (R93, R94). -/
def aligned (size : AccessSize) (addr : Word) : Bool := addr.toNat % size.bytes == 0

/-- A frame's length byte counts at most 255 bytes (R130). -/
def payloadFits (payload : List Byte) : Bool := decide (payload.length ≤ 255)

/-- An SPI transmission is a whole number of 4-byte units (R379). -/
def wholeUnits (payload : List Byte) : Bool := payload.length % 4 == 0

/-- Every register constructor is well formed: its operands are bounded by their types. The windows of NOR and SDRAM
have the sizes of the machine (R86). -/
def Instr.wellFormed (z : MemSizes) : Instr → Bool
  | .bootmemR addr size => selects 0xFFF00000#32 0x00000000#32 addr && aligned size addr
  | .bootmemW addr size _ => selects 0xFFF00000#32 0x00000000#32 addr && aligned size addr
  | .romR addr size => selects 0xFFFF8000#32 0x00100000#32 addr && aligned size addr
  | .romW addr size _ => selects 0xFFFF8000#32 0x00100000#32 addr && aligned size addr
  | .sram0R addr size => selects 0xFFFFC000#32 0x00200000#32 addr && aligned size addr
  | .sram0W addr size _ => selects 0xFFFFC000#32 0x00200000#32 addr && aligned size addr
  | .sram1R addr size => selects 0xFFFFC000#32 0x00300000#32 addr && aligned size addr
  | .sram1W addr size _ => selects 0xFFFFC000#32 0x00300000#32 addr && aligned size addr
  | .norR addr size => within 0x10000000 z.nor addr && aligned size addr
  | .norW addr size _ => within 0x10000000 z.nor addr && aligned size addr
  | .sdramR addr size => within 0x20000000 z.sdram addr && aligned size addr
  | .sdramW addr size _ => within 0x20000000 z.sdram addr && aligned size addr
  | .unimplUhpR addr => selects 0xFFFFC000#32 0x00500000#32 addr && aligned .word addr
  | .unimplUhpW addr _ => selects 0xFFFFC000#32 0x00500000#32 addr && aligned .word addr
  | .unimplUdpR addr => selects 0xFFFFC000#32 0xFFFA4000#32 addr && aligned .word addr
  | .unimplUdpW addr _ => selects 0xFFFFC000#32 0xFFFA4000#32 addr && aligned .word addr
  | .unimplSscR addr => selects 0xFFFFC000#32 0xFFFBC000#32 addr && aligned .word addr
  | .unimplSscW addr _ => selects 0xFFFFC000#32 0xFFFBC000#32 addr && aligned .word addr
  | .unimplIsiR addr => selects 0xFFFFC000#32 0xFFFC0000#32 addr && aligned .word addr
  | .unimplIsiW addr _ => selects 0xFFFFC000#32 0xFFFC0000#32 addr && aligned .word addr
  | .unimplEmacR addr => selects 0xFFFFC000#32 0xFFFC4000#32 addr && aligned .word addr
  | .unimplEmacW addr _ => selects 0xFFFFC000#32 0xFFFC4000#32 addr && aligned .word addr
  | .unimplAdcR addr => selects 0xFFFFC000#32 0xFFFE0000#32 addr && aligned .word addr
  | .unimplAdcW addr _ => selects 0xFFFFC000#32 0xFFFE0000#32 addr && aligned .word addr
  | .unimplEccR addr => selects 0xFFFFFE00#32 0xFFFFE800#32 addr && aligned .word addr
  | .unimplEccW addr _ => selects 0xFFFFFE00#32 0xFFFFE800#32 addr && aligned .word addr
  | .unimplSmcR addr => selects 0xFFFFFE00#32 0xFFFFEC00#32 addr && aligned .word addr
  | .unimplSmcW addr _ => selects 0xFFFFFE00#32 0xFFFFEC00#32 addr && aligned .word addr
  | .unimplShdwcR addr => selects 0xFFFFFFF0#32 0xFFFFFD10#32 addr && aligned .word addr
  | .unimplShdwcW addr _ => selects 0xFFFFFFF0#32 0xFFFFFD10#32 addr && aligned .word addr
  | .unimplWdtR addr => selects 0xFFFFFFF0#32 0xFFFFFD40#32 addr && aligned .word addr
  | .unimplWdtW addr _ => selects 0xFFFFFFF0#32 0xFFFFFD40#32 addr && aligned .word addr
  | .unimplGpbrR addr => selects 0xFFFFFFF0#32 0xFFFFFD50#32 addr && aligned .word addr
  | .unimplGpbrW addr _ => selects 0xFFFFFFF0#32 0xFFFFFD50#32 addr && aligned .word addr
  | .aicSmrR _ => true
  | .aicSmrW _ _ => true
  | .aicSvrR _ => true
  | .aicSvrW _ _ => true
  | .aicIvrR => true
  | .aicIvrW _ => true
  | .aicFvrR => true
  | .aicIsrR => true
  | .aicIprR => true
  | .aicImrR => true
  | .aicCisrR => true
  | .aicIecrW _ => true
  | .aicIdcrW _ => true
  | .aicIccrW _ => true
  | .aicIscrW _ => true
  | .aicEoicrW _ => true
  | .aicSpuR => true
  | .aicSpuW _ => true
  | .aicDcrR => true
  | .aicDcrW _ => true
  | .aicFferW _ => true
  | .aicFfdrW _ => true
  | .aicFfsrR => true
  | .usart0CrW _ => true
  | .usart0MrR => true
  | .usart0MrW _ => true
  | .usart0IerW _ => true
  | .usart0IdrW _ => true
  | .usart0ImrR => true
  | .usart0CsrR => true
  | .usart0RhrR => true
  | .usart0ThrW _ => true
  | .usart0BrgrR => true
  | .usart0BrgrW _ => true
  | .usart0RtorR => true
  | .usart0RtorW _ => true
  | .usart0TtgrR => true
  | .usart0TtgrW _ => true
  | .usart0FidiR => true
  | .usart0FidiW _ => true
  | .usart0NerR => true
  | .usart0IfR => true
  | .usart0IfW _ => true
  | .usart0ManR => true
  | .usart0ManW _ => true
  | .usart0RprR => true
  | .usart0RprW _ => true
  | .usart0RcrR => true
  | .usart0RcrW _ => true
  | .usart0TprR => true
  | .usart0TprW _ => true
  | .usart0TcrR => true
  | .usart0TcrW _ => true
  | .usart0RnprR => true
  | .usart0RnprW _ => true
  | .usart0RncrR => true
  | .usart0RncrW _ => true
  | .usart0TnprR => true
  | .usart0TnprW _ => true
  | .usart0TncrR => true
  | .usart0TncrW _ => true
  | .usart0PtcrW _ => true
  | .usart0PtsrR => true
  | .usart1CrW _ => true
  | .usart1MrR => true
  | .usart1MrW _ => true
  | .usart1IerW _ => true
  | .usart1IdrW _ => true
  | .usart1ImrR => true
  | .usart1CsrR => true
  | .usart1RhrR => true
  | .usart1ThrW _ => true
  | .usart1BrgrR => true
  | .usart1BrgrW _ => true
  | .usart1RtorR => true
  | .usart1RtorW _ => true
  | .usart1TtgrR => true
  | .usart1TtgrW _ => true
  | .usart1FidiR => true
  | .usart1FidiW _ => true
  | .usart1NerR => true
  | .usart1IfR => true
  | .usart1IfW _ => true
  | .usart1ManR => true
  | .usart1ManW _ => true
  | .usart1RprR => true
  | .usart1RprW _ => true
  | .usart1RcrR => true
  | .usart1RcrW _ => true
  | .usart1TprR => true
  | .usart1TprW _ => true
  | .usart1TcrR => true
  | .usart1TcrW _ => true
  | .usart1RnprR => true
  | .usart1RnprW _ => true
  | .usart1RncrR => true
  | .usart1RncrW _ => true
  | .usart1TnprR => true
  | .usart1TnprW _ => true
  | .usart1TncrR => true
  | .usart1TncrW _ => true
  | .usart1PtcrW _ => true
  | .usart1PtsrR => true
  | .usart2CrW _ => true
  | .usart2MrR => true
  | .usart2MrW _ => true
  | .usart2IerW _ => true
  | .usart2IdrW _ => true
  | .usart2ImrR => true
  | .usart2CsrR => true
  | .usart2RhrR => true
  | .usart2ThrW _ => true
  | .usart2BrgrR => true
  | .usart2BrgrW _ => true
  | .usart2RtorR => true
  | .usart2RtorW _ => true
  | .usart2TtgrR => true
  | .usart2TtgrW _ => true
  | .usart2FidiR => true
  | .usart2FidiW _ => true
  | .usart2NerR => true
  | .usart2IfR => true
  | .usart2IfW _ => true
  | .usart2ManR => true
  | .usart2ManW _ => true
  | .usart2RprR => true
  | .usart2RprW _ => true
  | .usart2RcrR => true
  | .usart2RcrW _ => true
  | .usart2TprR => true
  | .usart2TprW _ => true
  | .usart2TcrR => true
  | .usart2TcrW _ => true
  | .usart2RnprR => true
  | .usart2RnprW _ => true
  | .usart2RncrR => true
  | .usart2RncrW _ => true
  | .usart2TnprR => true
  | .usart2TnprW _ => true
  | .usart2TncrR => true
  | .usart2TncrW _ => true
  | .usart2PtcrW _ => true
  | .usart2PtsrR => true
  | .usart3CrW _ => true
  | .usart3MrR => true
  | .usart3MrW _ => true
  | .usart3IerW _ => true
  | .usart3IdrW _ => true
  | .usart3ImrR => true
  | .usart3CsrR => true
  | .usart3RhrR => true
  | .usart3ThrW _ => true
  | .usart3BrgrR => true
  | .usart3BrgrW _ => true
  | .usart3RtorR => true
  | .usart3RtorW _ => true
  | .usart3TtgrR => true
  | .usart3TtgrW _ => true
  | .usart3FidiR => true
  | .usart3FidiW _ => true
  | .usart3NerR => true
  | .usart3IfR => true
  | .usart3IfW _ => true
  | .usart3ManR => true
  | .usart3ManW _ => true
  | .usart3RprR => true
  | .usart3RprW _ => true
  | .usart3RcrR => true
  | .usart3RcrW _ => true
  | .usart3TprR => true
  | .usart3TprW _ => true
  | .usart3TcrR => true
  | .usart3TcrW _ => true
  | .usart3RnprR => true
  | .usart3RnprW _ => true
  | .usart3RncrR => true
  | .usart3RncrW _ => true
  | .usart3TnprR => true
  | .usart3TnprW _ => true
  | .usart3TncrR => true
  | .usart3TncrW _ => true
  | .usart3PtcrW _ => true
  | .usart3PtsrR => true
  | .usart4CrW _ => true
  | .usart4MrR => true
  | .usart4MrW _ => true
  | .usart4IerW _ => true
  | .usart4IdrW _ => true
  | .usart4ImrR => true
  | .usart4CsrR => true
  | .usart4RhrR => true
  | .usart4ThrW _ => true
  | .usart4BrgrR => true
  | .usart4BrgrW _ => true
  | .usart4RtorR => true
  | .usart4RtorW _ => true
  | .usart4TtgrR => true
  | .usart4TtgrW _ => true
  | .usart4FidiR => true
  | .usart4FidiW _ => true
  | .usart4NerR => true
  | .usart4IfR => true
  | .usart4IfW _ => true
  | .usart4ManR => true
  | .usart4ManW _ => true
  | .usart4RprR => true
  | .usart4RprW _ => true
  | .usart4RcrR => true
  | .usart4RcrW _ => true
  | .usart4TprR => true
  | .usart4TprW _ => true
  | .usart4TcrR => true
  | .usart4TcrW _ => true
  | .usart4RnprR => true
  | .usart4RnprW _ => true
  | .usart4RncrR => true
  | .usart4RncrW _ => true
  | .usart4TnprR => true
  | .usart4TnprW _ => true
  | .usart4TncrR => true
  | .usart4TncrW _ => true
  | .usart4PtcrW _ => true
  | .usart4PtsrR => true
  | .usart5CrW _ => true
  | .usart5MrR => true
  | .usart5MrW _ => true
  | .usart5IerW _ => true
  | .usart5IdrW _ => true
  | .usart5ImrR => true
  | .usart5CsrR => true
  | .usart5RhrR => true
  | .usart5ThrW _ => true
  | .usart5BrgrR => true
  | .usart5BrgrW _ => true
  | .usart5RtorR => true
  | .usart5RtorW _ => true
  | .usart5TtgrR => true
  | .usart5TtgrW _ => true
  | .usart5FidiR => true
  | .usart5FidiW _ => true
  | .usart5NerR => true
  | .usart5IfR => true
  | .usart5IfW _ => true
  | .usart5ManR => true
  | .usart5ManW _ => true
  | .usart5RprR => true
  | .usart5RprW _ => true
  | .usart5RcrR => true
  | .usart5RcrW _ => true
  | .usart5TprR => true
  | .usart5TprW _ => true
  | .usart5TcrR => true
  | .usart5TcrW _ => true
  | .usart5RnprR => true
  | .usart5RnprW _ => true
  | .usart5RncrR => true
  | .usart5RncrW _ => true
  | .usart5TnprR => true
  | .usart5TnprW _ => true
  | .usart5TncrR => true
  | .usart5TncrW _ => true
  | .usart5PtcrW _ => true
  | .usart5PtsrR => true
  | .spi0CrW _ => true
  | .spi0MrR => true
  | .spi0MrW _ => true
  | .spi0RdrR => true
  | .spi0TdrW _ => true
  | .spi0SrR => true
  | .spi0IerW _ => true
  | .spi0IdrW _ => true
  | .spi0ImrR => true
  | .spi0CsrR _ => true
  | .spi0CsrW _ _ => true
  | .spi0RprR => true
  | .spi0RprW _ => true
  | .spi0RcrR => true
  | .spi0RcrW _ => true
  | .spi0TprR => true
  | .spi0TprW _ => true
  | .spi0TcrR => true
  | .spi0TcrW _ => true
  | .spi0RnprR => true
  | .spi0RnprW _ => true
  | .spi0RncrR => true
  | .spi0RncrW _ => true
  | .spi0TnprR => true
  | .spi0TnprW _ => true
  | .spi0TncrR => true
  | .spi0TncrW _ => true
  | .spi0PtcrW _ => true
  | .spi0PtsrR => true
  | .spi1CrW _ => true
  | .spi1MrR => true
  | .spi1MrW _ => true
  | .spi1RdrR => true
  | .spi1TdrW _ => true
  | .spi1SrR => true
  | .spi1IerW _ => true
  | .spi1IdrW _ => true
  | .spi1ImrR => true
  | .spi1CsrR _ => true
  | .spi1CsrW _ _ => true
  | .spi1RprR => true
  | .spi1RprW _ => true
  | .spi1RcrR => true
  | .spi1RcrW _ => true
  | .spi1TprR => true
  | .spi1TprW _ => true
  | .spi1TcrR => true
  | .spi1TcrW _ => true
  | .spi1RnprR => true
  | .spi1RnprW _ => true
  | .spi1RncrR => true
  | .spi1RncrW _ => true
  | .spi1TnprR => true
  | .spi1TnprW _ => true
  | .spi1TncrR => true
  | .spi1TncrW _ => true
  | .spi1PtcrW _ => true
  | .spi1PtsrR => true
  | .twiCrW _ => true
  | .twiMmrR => true
  | .twiMmrW _ => true
  | .twiSmrR => true
  | .twiSmrW _ => true
  | .twiIadrR => true
  | .twiIadrW _ => true
  | .twiCwgrR => true
  | .twiCwgrW _ => true
  | .twiSrR => true
  | .twiIerW _ => true
  | .twiIdrW _ => true
  | .twiImrR => true
  | .twiRhrR => true
  | .twiThrW _ => true
  | .twiRprR => true
  | .twiRprW _ => true
  | .twiRcrR => true
  | .twiRcrW _ => true
  | .twiTprR => true
  | .twiTprW _ => true
  | .twiTcrR => true
  | .twiTcrW _ => true
  | .twiRnprR => true
  | .twiRnprW _ => true
  | .twiRncrR => true
  | .twiRncrW _ => true
  | .twiTnprR => true
  | .twiTnprW _ => true
  | .twiTncrR => true
  | .twiTncrW _ => true
  | .twiPtcrW _ => true
  | .twiPtsrR => true
  | .mciCrW _ => true
  | .mciMrR => true
  | .mciMrW _ => true
  | .mciDtorR => true
  | .mciDtorW _ => true
  | .mciSdcrR => true
  | .mciSdcrW _ => true
  | .mciArgrR => true
  | .mciArgrW _ => true
  | .mciCmdrW _ => true
  | .mciBlkrR => true
  | .mciBlkrW _ => true
  | .mciRsprR _ => true
  | .mciRdrR => true
  | .mciTdrW _ => true
  | .mciSrR => true
  | .mciIerW _ => true
  | .mciIdrW _ => true
  | .mciImrR => true
  | .mciRprR => true
  | .mciRprW _ => true
  | .mciRcrR => true
  | .mciRcrW _ => true
  | .mciTprR => true
  | .mciTprW _ => true
  | .mciTcrR => true
  | .mciTcrW _ => true
  | .mciRnprR => true
  | .mciRnprW _ => true
  | .mciRncrR => true
  | .mciRncrW _ => true
  | .mciTnprR => true
  | .mciTnprW _ => true
  | .mciTncrR => true
  | .mciTncrW _ => true
  | .mciPtcrW _ => true
  | .mciPtsrR => true
  | .tcb0Ch0CcrW _ => true
  | .tcb0Ch0CmrR => true
  | .tcb0Ch0CmrW _ => true
  | .tcb0Ch0CvR => true
  | .tcb0Ch0RaR => true
  | .tcb0Ch0RaW _ => true
  | .tcb0Ch0RbR => true
  | .tcb0Ch0RbW _ => true
  | .tcb0Ch0RcR => true
  | .tcb0Ch0RcW _ => true
  | .tcb0Ch0SrR => true
  | .tcb0Ch0IerW _ => true
  | .tcb0Ch0IdrW _ => true
  | .tcb0Ch0ImrR => true
  | .tcb0Ch1CcrW _ => true
  | .tcb0Ch1CmrR => true
  | .tcb0Ch1CmrW _ => true
  | .tcb0Ch1CvR => true
  | .tcb0Ch1RaR => true
  | .tcb0Ch1RaW _ => true
  | .tcb0Ch1RbR => true
  | .tcb0Ch1RbW _ => true
  | .tcb0Ch1RcR => true
  | .tcb0Ch1RcW _ => true
  | .tcb0Ch1SrR => true
  | .tcb0Ch1IerW _ => true
  | .tcb0Ch1IdrW _ => true
  | .tcb0Ch1ImrR => true
  | .tcb0Ch2CcrW _ => true
  | .tcb0Ch2CmrR => true
  | .tcb0Ch2CmrW _ => true
  | .tcb0Ch2CvR => true
  | .tcb0Ch2RaR => true
  | .tcb0Ch2RaW _ => true
  | .tcb0Ch2RbR => true
  | .tcb0Ch2RbW _ => true
  | .tcb0Ch2RcR => true
  | .tcb0Ch2RcW _ => true
  | .tcb0Ch2SrR => true
  | .tcb0Ch2IerW _ => true
  | .tcb0Ch2IdrW _ => true
  | .tcb0Ch2ImrR => true
  | .tcb0BcrW _ => true
  | .tcb0BmrR => true
  | .tcb0BmrW _ => true
  | .tcb1Ch0CcrW _ => true
  | .tcb1Ch0CmrR => true
  | .tcb1Ch0CmrW _ => true
  | .tcb1Ch0CvR => true
  | .tcb1Ch0RaR => true
  | .tcb1Ch0RaW _ => true
  | .tcb1Ch0RbR => true
  | .tcb1Ch0RbW _ => true
  | .tcb1Ch0RcR => true
  | .tcb1Ch0RcW _ => true
  | .tcb1Ch0SrR => true
  | .tcb1Ch0IerW _ => true
  | .tcb1Ch0IdrW _ => true
  | .tcb1Ch0ImrR => true
  | .tcb1Ch1CcrW _ => true
  | .tcb1Ch1CmrR => true
  | .tcb1Ch1CmrW _ => true
  | .tcb1Ch1CvR => true
  | .tcb1Ch1RaR => true
  | .tcb1Ch1RaW _ => true
  | .tcb1Ch1RbR => true
  | .tcb1Ch1RbW _ => true
  | .tcb1Ch1RcR => true
  | .tcb1Ch1RcW _ => true
  | .tcb1Ch1SrR => true
  | .tcb1Ch1IerW _ => true
  | .tcb1Ch1IdrW _ => true
  | .tcb1Ch1ImrR => true
  | .tcb1Ch2CcrW _ => true
  | .tcb1Ch2CmrR => true
  | .tcb1Ch2CmrW _ => true
  | .tcb1Ch2CvR => true
  | .tcb1Ch2RaR => true
  | .tcb1Ch2RaW _ => true
  | .tcb1Ch2RbR => true
  | .tcb1Ch2RbW _ => true
  | .tcb1Ch2RcR => true
  | .tcb1Ch2RcW _ => true
  | .tcb1Ch2SrR => true
  | .tcb1Ch2IerW _ => true
  | .tcb1Ch2IdrW _ => true
  | .tcb1Ch2ImrR => true
  | .tcb1BcrW _ => true
  | .tcb1BmrR => true
  | .tcb1BmrW _ => true
  | .pitMrR => true
  | .pitMrW _ => true
  | .pitSrR => true
  | .pitPivrR => true
  | .pitPiirR => true
  | .rttMrR => true
  | .rttMrW _ => true
  | .rttArR => true
  | .rttArW _ => true
  | .rttVrR => true
  | .rttSrR => true
  | .dbguCrW _ => true
  | .dbguMrR => true
  | .dbguMrW _ => true
  | .dbguIerW _ => true
  | .dbguIdrW _ => true
  | .dbguImrR => true
  | .dbguSrR => true
  | .dbguRhrR => true
  | .dbguThrW _ => true
  | .dbguBrgrR => true
  | .dbguBrgrW _ => true
  | .dbguCidrR => true
  | .dbguExidR => true
  | .pioaPerW _ => true
  | .pioaPdrW _ => true
  | .pioaPsrR => true
  | .pioaOerW _ => true
  | .pioaOdrW _ => true
  | .pioaOsrR => true
  | .pioaIferW _ => true
  | .pioaIfdrW _ => true
  | .pioaIfsrR => true
  | .pioaSodrW _ => true
  | .pioaCodrW _ => true
  | .pioaOdsrR => true
  | .pioaOdsrW _ => true
  | .pioaPdsrR => true
  | .pioaIerW _ => true
  | .pioaIdrW _ => true
  | .pioaImrR => true
  | .pioaIsrR => true
  | .pioaMderW _ => true
  | .pioaMddrW _ => true
  | .pioaMdsrR => true
  | .pioaPudrW _ => true
  | .pioaPuerW _ => true
  | .pioaPusrR => true
  | .pioaAsrW _ => true
  | .pioaBsrW _ => true
  | .pioaAbsrR => true
  | .pioaOwerW _ => true
  | .pioaOwdrW _ => true
  | .pioaOwsrR => true
  | .piobPerW _ => true
  | .piobPdrW _ => true
  | .piobPsrR => true
  | .piobOerW _ => true
  | .piobOdrW _ => true
  | .piobOsrR => true
  | .piobIferW _ => true
  | .piobIfdrW _ => true
  | .piobIfsrR => true
  | .piobSodrW _ => true
  | .piobCodrW _ => true
  | .piobOdsrR => true
  | .piobOdsrW _ => true
  | .piobPdsrR => true
  | .piobIerW _ => true
  | .piobIdrW _ => true
  | .piobImrR => true
  | .piobIsrR => true
  | .piobMderW _ => true
  | .piobMddrW _ => true
  | .piobMdsrR => true
  | .piobPudrW _ => true
  | .piobPuerW _ => true
  | .piobPusrR => true
  | .piobAsrW _ => true
  | .piobBsrW _ => true
  | .piobAbsrR => true
  | .piobOwerW _ => true
  | .piobOwdrW _ => true
  | .piobOwsrR => true
  | .piocPerW _ => true
  | .piocPdrW _ => true
  | .piocPsrR => true
  | .piocOerW _ => true
  | .piocOdrW _ => true
  | .piocOsrR => true
  | .piocIferW _ => true
  | .piocIfdrW _ => true
  | .piocIfsrR => true
  | .piocSodrW _ => true
  | .piocCodrW _ => true
  | .piocOdsrR => true
  | .piocOdsrW _ => true
  | .piocPdsrR => true
  | .piocIerW _ => true
  | .piocIdrW _ => true
  | .piocImrR => true
  | .piocIsrR => true
  | .piocMderW _ => true
  | .piocMddrW _ => true
  | .piocMdsrR => true
  | .piocPudrW _ => true
  | .piocPuerW _ => true
  | .piocPusrR => true
  | .piocAsrW _ => true
  | .piocBsrW _ => true
  | .piocAbsrR => true
  | .piocOwerW _ => true
  | .piocOwdrW _ => true
  | .piocOwsrR => true
  | .pmcScerW _ => true
  | .pmcScdrW _ => true
  | .pmcScsrR => true
  | .pmcPcerW _ => true
  | .pmcPcdrW _ => true
  | .pmcPcsrR => true
  | .pmcCkgrMorR => true
  | .pmcCkgrMorW _ => true
  | .pmcCkgrMcfrR => true
  | .pmcCkgrPllarR => true
  | .pmcCkgrPllarW _ => true
  | .pmcCkgrPllbrR => true
  | .pmcCkgrPllbrW _ => true
  | .pmcMckrR => true
  | .pmcMckrW _ => true
  | .pmcPck0R => true
  | .pmcPck0W _ => true
  | .pmcPck1R => true
  | .pmcPck1W _ => true
  | .pmcIerW _ => true
  | .pmcIdrW _ => true
  | .pmcSrR => true
  | .pmcImrR => true
  | .pmcPllicprR => true
  | .pmcPllicprW _ => true
  | .matrixMcfg0R => true
  | .matrixMcfg0W _ => true
  | .matrixMcfg1R => true
  | .matrixMcfg1W _ => true
  | .matrixMcfg2R => true
  | .matrixMcfg2W _ => true
  | .matrixMcfg3R => true
  | .matrixMcfg3W _ => true
  | .matrixMcfg4R => true
  | .matrixMcfg4W _ => true
  | .matrixMcfg5R => true
  | .matrixMcfg5W _ => true
  | .matrixScfg0R => true
  | .matrixScfg0W _ => true
  | .matrixScfg1R => true
  | .matrixScfg1W _ => true
  | .matrixScfg2R => true
  | .matrixScfg2W _ => true
  | .matrixScfg3R => true
  | .matrixScfg3W _ => true
  | .matrixScfg4R => true
  | .matrixScfg4W _ => true
  | .matrixPras0R => true
  | .matrixPras0W _ => true
  | .matrixPras1R => true
  | .matrixPras1W _ => true
  | .matrixPras2R => true
  | .matrixPras2W _ => true
  | .matrixPras3R => true
  | .matrixPras3W _ => true
  | .matrixPras4R => true
  | .matrixPras4W _ => true
  | .matrixMrcrR => true
  | .matrixMrcrW _ => true
  | .matrixEbiCsaR => true
  | .matrixEbiCsaW _ => true
  | .rstcCrW _ => true
  | .rstcSrR => true
  | .rstcMrR => true
  | .rstcMrW _ => true
  | .sdramcMrR => true
  | .sdramcMrW _ => true
  | .sdramcTrR => true
  | .sdramcTrW _ => true
  | .sdramcCrR => true
  | .sdramcCrW _ => true
  | .sdramcLprR => true
  | .sdramcLprW _ => true
  | .sdramcIerW _ => true
  | .sdramcIdrW _ => true
  | .sdramcImrR => true
  | .sdramcIsrR => true
  | .sdramcMdrR => true
  | .sdramcMdrW _ => true
  | .usartDataIn _ _ payload => payloadFits payload
  | .usartDataOut _ payload => payloadFits payload
  | .usartFaultOvre _ _ payload => payloadFits payload
  | .usartFaultFrame _ _ payload => payloadFits payload
  | .usartFaultPare _ _ payload => payloadFits payload
  | .usartFaultTimeout _ _ payload => payloadFits payload
  | .spiDataIn _ _ payload => payloadFits payload
  | .spiDataOut _ payload => payloadFits payload && wholeUnits payload
  | .spiFaultModf _ _ payload => payloadFits payload
  | .spiFaultOvres _ _ payload => payloadFits payload
  | .twiDataIn _ payload => payloadFits payload
  | .twiDataOut payload => payloadFits payload
  | .twiCtrlStart => true
  | .twiCtrlStop => true
  | .twiFaultOvre _ payload => payloadFits payload
  | .twiFaultNack _ payload => payloadFits payload
  | .twiFaultArblst _ payload => payloadFits payload
  | .pioPinstateEnable _ _ payload => payloadFits payload
  | .pioPinstateDisable _ _ payload => payloadFits payload
  | .pioPinstateOut _ => true
  | .pioPinstateGet _ _ payload => payloadFits payload
  | .sdramcFaultRes _ payload => payloadFits payload

end Sys2Proof
end

