-- ==== Sys2Proof/Decode.lean ====
section
/-! DEFINITION. The decoder, total on every raw operation and rejecting by name (R121, R127, R132), and after it the
encoder (R123, R130, R133). Nothing here reads the state of the machine: where an access goes through the bootmem
window, the constructor `bootmemR`/`bootmemW` stands for it and its meaning redirects it (R154). -/

namespace Sys2Proof

/- The compiler cannot allocate a constructor with fields past the 244th of a type, so the definitions below that build
a term of `Instr` have no compiled code. The kernel evaluates them like any other. -/
noncomputable section

/-! ### The region map (R86) -/

/-- The kind of a region (R83); `reserved` is the absence of a region (R87). -/
inductive RegionKind where
  | bootmem
  | memory (m : MemRegion)
  | unimpl (w : UnimplWindow)
  | mmio (p : Peripheral)
  deriving DecidableEq, Repr

/-- One row of the region map. -/
structure Region where
  base : Nat
  size : Nat
  kind : RegionKind
  deriving DecidableEq, Repr

/-- `REGION_MAP` (R86), for the sizes of NOR and SDRAM. -/
def regionMap (z : MemSizes) : List Region := [
  ⟨0x00000000, 0x00100000, .bootmem⟩,
  ⟨0x00100000, 0x00008000, .memory .rom⟩,
  ⟨0x00200000, 0x00004000, .memory .sram0⟩,
  ⟨0x00300000, 0x00004000, .memory .sram1⟩,
  ⟨0x00500000, 0x00004000, .unimpl .uhp⟩,
  ⟨0x10000000, z.nor, .memory .nor⟩,
  ⟨0x20000000, z.sdram, .memory .sdram⟩,
  ⟨0xFFFA0000, 0x4000, .mmio (.tcb 0)⟩,
  ⟨0xFFFA4000, 0x4000, .unimpl .udp⟩,
  ⟨0xFFFA8000, 0x4000, .mmio .mci⟩,
  ⟨0xFFFAC000, 0x4000, .mmio .twi⟩,
  ⟨0xFFFB0000, 0x4000, .mmio (.usart 0)⟩,
  ⟨0xFFFB4000, 0x4000, .mmio (.usart 1)⟩,
  ⟨0xFFFB8000, 0x4000, .mmio (.usart 2)⟩,
  ⟨0xFFFBC000, 0x4000, .unimpl .ssc⟩,
  ⟨0xFFFC0000, 0x4000, .unimpl .isi⟩,
  ⟨0xFFFC4000, 0x4000, .unimpl .emac⟩,
  ⟨0xFFFC8000, 0x4000, .mmio (.spi 0)⟩,
  ⟨0xFFFCC000, 0x4000, .mmio (.spi 1)⟩,
  ⟨0xFFFD0000, 0x4000, .mmio (.usart 3)⟩,
  ⟨0xFFFD4000, 0x4000, .mmio (.usart 4)⟩,
  ⟨0xFFFD8000, 0x4000, .mmio (.usart 5)⟩,
  ⟨0xFFFDC000, 0x4000, .mmio (.tcb 1)⟩,
  ⟨0xFFFE0000, 0x4000, .unimpl .adc⟩,
  ⟨0xFFFFE800, 0x200, .unimpl .ecc⟩,
  ⟨0xFFFFEA00, 0x200, .mmio .sdramc⟩,
  ⟨0xFFFFEC00, 0x200, .unimpl .smc⟩,
  ⟨0xFFFFEE00, 0x200, .mmio .matrix⟩,
  ⟨0xFFFFF000, 0x200, .mmio .aic⟩,
  ⟨0xFFFFF200, 0x200, .mmio .dbgu⟩,
  ⟨0xFFFFF400, 0x200, .mmio (.pio 0)⟩,
  ⟨0xFFFFF600, 0x200, .mmio (.pio 1)⟩,
  ⟨0xFFFFF800, 0x200, .mmio (.pio 2)⟩,
  ⟨0xFFFFFC00, 0x100, .mmio .pmc⟩,
  ⟨0xFFFFFD00, 0x10, .mmio .rstc⟩,
  ⟨0xFFFFFD10, 0x10, .unimpl .shdwc⟩,
  ⟨0xFFFFFD20, 0x10, .mmio .rtt⟩,
  ⟨0xFFFFFD30, 0x10, .mmio .pit⟩,
  ⟨0xFFFFFD40, 0x10, .unimpl .wdt⟩,
  ⟨0xFFFFFD50, 0x10, .unimpl .gpbr⟩]

/-- A region holds an address. -/
def Region.holds (r : Region) (a : Nat) : Bool := decide (r.base ≤ a) && decide (a < r.base + r.size)

/-- The first region of a list that holds an address. -/
def regionIn (a : Nat) : List Region → Option Region
  | [] => none
  | r :: rs => if r.holds a then some r else regionIn a rs

/-- The region of an address; `none` is a `reserved` region (R87). -/
def regionOf (z : MemSizes) (addr : Word) : Option Region := regionIn addr.toNat (regionMap z)

/-- The legal access size of a raw size field (R94, R120). -/
def accessSize (size : Nat) : Option AccessSize :=
  match size with
  | 1 => some .byte
  | 2 => some .half
  | 4 => some .word
  | _ => none

/-! ### Rejections -/

/-- Why an operation is no instruction of the table. What the step does with each is `Machine/Agents.lean`'s: the
first four are the aborts of R127, the last two are ignored (R132). -/
inductive Reject where
  /-- The address lies in no region (R158). -/
  | reserved
  /-- The size or the alignment is wrong for the region's kind (R93, R94). -/
  | accessSize
  /-- An implemented window holds no register at this offset (R162). -/
  | undefOffset (p : Peripheral) (off : Nat)
  /-- The register does not allow this direction (R163). -/
  | accessDir (p : Peripheral) (off : Nat)
  /-- A client's frame that the owner's rows do not list (R132). -/
  | unknownFrame
  /-- A frame no owner of this kind sends. -/
  | unknownOut
  deriving DecidableEq, Repr

/-- What the decoder answers. -/
inductive Decoded where
  | ok (i : Instr)
  | reject (r : Reject)
  deriving DecidableEq, Repr

/-- What an offset and a direction select inside a window. -/
inductive RegSelect where
  | register (i : Instr)
  | wrongDir
  | undefined
  deriving DecidableEq, Repr

/-- A read-only row (R163). -/
def ro (dir : Dir) (r : Instr) : RegSelect :=
  match dir with
  | .read => .register r
  | .write => .wrongDir

/-- A write-only row (R163). -/
def wo (dir : Dir) (w : Instr) : RegSelect :=
  match dir with
  | .read => .wrongDir
  | .write => .register w

/-- A row with both directions. -/
def rw (dir : Dir) (r w : Instr) : RegSelect :=
  match dir with
  | .read => .register r
  | .write => .register w

/-! ### One row for each instance -/

/-- The `CR.W` row of each instance. -/
def Instr.usartCrW (u : Fin 6) (v : Word) : Instr :=
  match u with
  | 0 => .usart0CrW v
  | 1 => .usart1CrW v
  | 2 => .usart2CrW v
  | 3 => .usart3CrW v
  | 4 => .usart4CrW v
  | 5 => .usart5CrW v

/-- The `MR.R` row of each instance. -/
def Instr.usartMrR (u : Fin 6) : Instr :=
  match u with
  | 0 => .usart0MrR
  | 1 => .usart1MrR
  | 2 => .usart2MrR
  | 3 => .usart3MrR
  | 4 => .usart4MrR
  | 5 => .usart5MrR

/-- The `MR.W` row of each instance. -/
def Instr.usartMrW (u : Fin 6) (v : Word) : Instr :=
  match u with
  | 0 => .usart0MrW v
  | 1 => .usart1MrW v
  | 2 => .usart2MrW v
  | 3 => .usart3MrW v
  | 4 => .usart4MrW v
  | 5 => .usart5MrW v

/-- The `IER.W` row of each instance. -/
def Instr.usartIerW (u : Fin 6) (v : Word) : Instr :=
  match u with
  | 0 => .usart0IerW v
  | 1 => .usart1IerW v
  | 2 => .usart2IerW v
  | 3 => .usart3IerW v
  | 4 => .usart4IerW v
  | 5 => .usart5IerW v

/-- The `IDR.W` row of each instance. -/
def Instr.usartIdrW (u : Fin 6) (v : Word) : Instr :=
  match u with
  | 0 => .usart0IdrW v
  | 1 => .usart1IdrW v
  | 2 => .usart2IdrW v
  | 3 => .usart3IdrW v
  | 4 => .usart4IdrW v
  | 5 => .usart5IdrW v

/-- The `IMR.R` row of each instance. -/
def Instr.usartImrR (u : Fin 6) : Instr :=
  match u with
  | 0 => .usart0ImrR
  | 1 => .usart1ImrR
  | 2 => .usart2ImrR
  | 3 => .usart3ImrR
  | 4 => .usart4ImrR
  | 5 => .usart5ImrR

/-- The `CSR.R` row of each instance. -/
def Instr.usartCsrR (u : Fin 6) : Instr :=
  match u with
  | 0 => .usart0CsrR
  | 1 => .usart1CsrR
  | 2 => .usart2CsrR
  | 3 => .usart3CsrR
  | 4 => .usart4CsrR
  | 5 => .usart5CsrR

/-- The `RHR.R` row of each instance. -/
def Instr.usartRhrR (u : Fin 6) : Instr :=
  match u with
  | 0 => .usart0RhrR
  | 1 => .usart1RhrR
  | 2 => .usart2RhrR
  | 3 => .usart3RhrR
  | 4 => .usart4RhrR
  | 5 => .usart5RhrR

/-- The `THR.W` row of each instance. -/
def Instr.usartThrW (u : Fin 6) (v : Word) : Instr :=
  match u with
  | 0 => .usart0ThrW v
  | 1 => .usart1ThrW v
  | 2 => .usart2ThrW v
  | 3 => .usart3ThrW v
  | 4 => .usart4ThrW v
  | 5 => .usart5ThrW v

/-- The `BRGR.R` row of each instance. -/
def Instr.usartBrgrR (u : Fin 6) : Instr :=
  match u with
  | 0 => .usart0BrgrR
  | 1 => .usart1BrgrR
  | 2 => .usart2BrgrR
  | 3 => .usart3BrgrR
  | 4 => .usart4BrgrR
  | 5 => .usart5BrgrR

/-- The `BRGR.W` row of each instance. -/
def Instr.usartBrgrW (u : Fin 6) (v : Word) : Instr :=
  match u with
  | 0 => .usart0BrgrW v
  | 1 => .usart1BrgrW v
  | 2 => .usart2BrgrW v
  | 3 => .usart3BrgrW v
  | 4 => .usart4BrgrW v
  | 5 => .usart5BrgrW v

/-- The `RTOR.R` row of each instance. -/
def Instr.usartRtorR (u : Fin 6) : Instr :=
  match u with
  | 0 => .usart0RtorR
  | 1 => .usart1RtorR
  | 2 => .usart2RtorR
  | 3 => .usart3RtorR
  | 4 => .usart4RtorR
  | 5 => .usart5RtorR

/-- The `RTOR.W` row of each instance. -/
def Instr.usartRtorW (u : Fin 6) (v : Word) : Instr :=
  match u with
  | 0 => .usart0RtorW v
  | 1 => .usart1RtorW v
  | 2 => .usart2RtorW v
  | 3 => .usart3RtorW v
  | 4 => .usart4RtorW v
  | 5 => .usart5RtorW v

/-- The `TTGR.R` row of each instance. -/
def Instr.usartTtgrR (u : Fin 6) : Instr :=
  match u with
  | 0 => .usart0TtgrR
  | 1 => .usart1TtgrR
  | 2 => .usart2TtgrR
  | 3 => .usart3TtgrR
  | 4 => .usart4TtgrR
  | 5 => .usart5TtgrR

/-- The `TTGR.W` row of each instance. -/
def Instr.usartTtgrW (u : Fin 6) (v : Word) : Instr :=
  match u with
  | 0 => .usart0TtgrW v
  | 1 => .usart1TtgrW v
  | 2 => .usart2TtgrW v
  | 3 => .usart3TtgrW v
  | 4 => .usart4TtgrW v
  | 5 => .usart5TtgrW v

/-- The `FIDI.R` row of each instance. -/
def Instr.usartFidiR (u : Fin 6) : Instr :=
  match u with
  | 0 => .usart0FidiR
  | 1 => .usart1FidiR
  | 2 => .usart2FidiR
  | 3 => .usart3FidiR
  | 4 => .usart4FidiR
  | 5 => .usart5FidiR

/-- The `FIDI.W` row of each instance. -/
def Instr.usartFidiW (u : Fin 6) (v : Word) : Instr :=
  match u with
  | 0 => .usart0FidiW v
  | 1 => .usart1FidiW v
  | 2 => .usart2FidiW v
  | 3 => .usart3FidiW v
  | 4 => .usart4FidiW v
  | 5 => .usart5FidiW v

/-- The `NER.R` row of each instance. -/
def Instr.usartNerR (u : Fin 6) : Instr :=
  match u with
  | 0 => .usart0NerR
  | 1 => .usart1NerR
  | 2 => .usart2NerR
  | 3 => .usart3NerR
  | 4 => .usart4NerR
  | 5 => .usart5NerR

/-- The `IF.R` row of each instance. -/
def Instr.usartIfR (u : Fin 6) : Instr :=
  match u with
  | 0 => .usart0IfR
  | 1 => .usart1IfR
  | 2 => .usart2IfR
  | 3 => .usart3IfR
  | 4 => .usart4IfR
  | 5 => .usart5IfR

/-- The `IF.W` row of each instance. -/
def Instr.usartIfW (u : Fin 6) (v : Word) : Instr :=
  match u with
  | 0 => .usart0IfW v
  | 1 => .usart1IfW v
  | 2 => .usart2IfW v
  | 3 => .usart3IfW v
  | 4 => .usart4IfW v
  | 5 => .usart5IfW v

/-- The `MAN.R` row of each instance. -/
def Instr.usartManR (u : Fin 6) : Instr :=
  match u with
  | 0 => .usart0ManR
  | 1 => .usart1ManR
  | 2 => .usart2ManR
  | 3 => .usart3ManR
  | 4 => .usart4ManR
  | 5 => .usart5ManR

/-- The `MAN.W` row of each instance. -/
def Instr.usartManW (u : Fin 6) (v : Word) : Instr :=
  match u with
  | 0 => .usart0ManW v
  | 1 => .usart1ManW v
  | 2 => .usart2ManW v
  | 3 => .usart3ManW v
  | 4 => .usart4ManW v
  | 5 => .usart5ManW v

/-- The `RPR.R` row of each instance. -/
def Instr.usartRprR (u : Fin 6) : Instr :=
  match u with
  | 0 => .usart0RprR
  | 1 => .usart1RprR
  | 2 => .usart2RprR
  | 3 => .usart3RprR
  | 4 => .usart4RprR
  | 5 => .usart5RprR

/-- The `RPR.W` row of each instance. -/
def Instr.usartRprW (u : Fin 6) (v : Word) : Instr :=
  match u with
  | 0 => .usart0RprW v
  | 1 => .usart1RprW v
  | 2 => .usart2RprW v
  | 3 => .usart3RprW v
  | 4 => .usart4RprW v
  | 5 => .usart5RprW v

/-- The `RCR.R` row of each instance. -/
def Instr.usartRcrR (u : Fin 6) : Instr :=
  match u with
  | 0 => .usart0RcrR
  | 1 => .usart1RcrR
  | 2 => .usart2RcrR
  | 3 => .usart3RcrR
  | 4 => .usart4RcrR
  | 5 => .usart5RcrR

/-- The `RCR.W` row of each instance. -/
def Instr.usartRcrW (u : Fin 6) (v : Word) : Instr :=
  match u with
  | 0 => .usart0RcrW v
  | 1 => .usart1RcrW v
  | 2 => .usart2RcrW v
  | 3 => .usart3RcrW v
  | 4 => .usart4RcrW v
  | 5 => .usart5RcrW v

/-- The `TPR.R` row of each instance. -/
def Instr.usartTprR (u : Fin 6) : Instr :=
  match u with
  | 0 => .usart0TprR
  | 1 => .usart1TprR
  | 2 => .usart2TprR
  | 3 => .usart3TprR
  | 4 => .usart4TprR
  | 5 => .usart5TprR

/-- The `TPR.W` row of each instance. -/
def Instr.usartTprW (u : Fin 6) (v : Word) : Instr :=
  match u with
  | 0 => .usart0TprW v
  | 1 => .usart1TprW v
  | 2 => .usart2TprW v
  | 3 => .usart3TprW v
  | 4 => .usart4TprW v
  | 5 => .usart5TprW v

/-- The `TCR.R` row of each instance. -/
def Instr.usartTcrR (u : Fin 6) : Instr :=
  match u with
  | 0 => .usart0TcrR
  | 1 => .usart1TcrR
  | 2 => .usart2TcrR
  | 3 => .usart3TcrR
  | 4 => .usart4TcrR
  | 5 => .usart5TcrR

/-- The `TCR.W` row of each instance. -/
def Instr.usartTcrW (u : Fin 6) (v : Word) : Instr :=
  match u with
  | 0 => .usart0TcrW v
  | 1 => .usart1TcrW v
  | 2 => .usart2TcrW v
  | 3 => .usart3TcrW v
  | 4 => .usart4TcrW v
  | 5 => .usart5TcrW v

/-- The `RNPR.R` row of each instance. -/
def Instr.usartRnprR (u : Fin 6) : Instr :=
  match u with
  | 0 => .usart0RnprR
  | 1 => .usart1RnprR
  | 2 => .usart2RnprR
  | 3 => .usart3RnprR
  | 4 => .usart4RnprR
  | 5 => .usart5RnprR

/-- The `RNPR.W` row of each instance. -/
def Instr.usartRnprW (u : Fin 6) (v : Word) : Instr :=
  match u with
  | 0 => .usart0RnprW v
  | 1 => .usart1RnprW v
  | 2 => .usart2RnprW v
  | 3 => .usart3RnprW v
  | 4 => .usart4RnprW v
  | 5 => .usart5RnprW v

/-- The `RNCR.R` row of each instance. -/
def Instr.usartRncrR (u : Fin 6) : Instr :=
  match u with
  | 0 => .usart0RncrR
  | 1 => .usart1RncrR
  | 2 => .usart2RncrR
  | 3 => .usart3RncrR
  | 4 => .usart4RncrR
  | 5 => .usart5RncrR

/-- The `RNCR.W` row of each instance. -/
def Instr.usartRncrW (u : Fin 6) (v : Word) : Instr :=
  match u with
  | 0 => .usart0RncrW v
  | 1 => .usart1RncrW v
  | 2 => .usart2RncrW v
  | 3 => .usart3RncrW v
  | 4 => .usart4RncrW v
  | 5 => .usart5RncrW v

/-- The `TNPR.R` row of each instance. -/
def Instr.usartTnprR (u : Fin 6) : Instr :=
  match u with
  | 0 => .usart0TnprR
  | 1 => .usart1TnprR
  | 2 => .usart2TnprR
  | 3 => .usart3TnprR
  | 4 => .usart4TnprR
  | 5 => .usart5TnprR

/-- The `TNPR.W` row of each instance. -/
def Instr.usartTnprW (u : Fin 6) (v : Word) : Instr :=
  match u with
  | 0 => .usart0TnprW v
  | 1 => .usart1TnprW v
  | 2 => .usart2TnprW v
  | 3 => .usart3TnprW v
  | 4 => .usart4TnprW v
  | 5 => .usart5TnprW v

/-- The `TNCR.R` row of each instance. -/
def Instr.usartTncrR (u : Fin 6) : Instr :=
  match u with
  | 0 => .usart0TncrR
  | 1 => .usart1TncrR
  | 2 => .usart2TncrR
  | 3 => .usart3TncrR
  | 4 => .usart4TncrR
  | 5 => .usart5TncrR

/-- The `TNCR.W` row of each instance. -/
def Instr.usartTncrW (u : Fin 6) (v : Word) : Instr :=
  match u with
  | 0 => .usart0TncrW v
  | 1 => .usart1TncrW v
  | 2 => .usart2TncrW v
  | 3 => .usart3TncrW v
  | 4 => .usart4TncrW v
  | 5 => .usart5TncrW v

/-- The `PTCR.W` row of each instance. -/
def Instr.usartPtcrW (u : Fin 6) (v : Word) : Instr :=
  match u with
  | 0 => .usart0PtcrW v
  | 1 => .usart1PtcrW v
  | 2 => .usart2PtcrW v
  | 3 => .usart3PtcrW v
  | 4 => .usart4PtcrW v
  | 5 => .usart5PtcrW v

/-- The `PTSR.R` row of each instance. -/
def Instr.usartPtsrR (u : Fin 6) : Instr :=
  match u with
  | 0 => .usart0PtsrR
  | 1 => .usart1PtsrR
  | 2 => .usart2PtsrR
  | 3 => .usart3PtsrR
  | 4 => .usart4PtsrR
  | 5 => .usart5PtsrR

/-- The `CR.W` row of each instance. -/
def Instr.spiCrW (u : Fin 2) (v : Word) : Instr :=
  match u with
  | 0 => .spi0CrW v
  | 1 => .spi1CrW v

/-- The `MR.R` row of each instance. -/
def Instr.spiMrR (u : Fin 2) : Instr :=
  match u with
  | 0 => .spi0MrR
  | 1 => .spi1MrR

/-- The `MR.W` row of each instance. -/
def Instr.spiMrW (u : Fin 2) (v : Word) : Instr :=
  match u with
  | 0 => .spi0MrW v
  | 1 => .spi1MrW v

/-- The `RDR.R` row of each instance. -/
def Instr.spiRdrR (u : Fin 2) : Instr :=
  match u with
  | 0 => .spi0RdrR
  | 1 => .spi1RdrR

/-- The `TDR.W` row of each instance. -/
def Instr.spiTdrW (u : Fin 2) (v : Word) : Instr :=
  match u with
  | 0 => .spi0TdrW v
  | 1 => .spi1TdrW v

/-- The `SR.R` row of each instance. -/
def Instr.spiSrR (u : Fin 2) : Instr :=
  match u with
  | 0 => .spi0SrR
  | 1 => .spi1SrR

/-- The `IER.W` row of each instance. -/
def Instr.spiIerW (u : Fin 2) (v : Word) : Instr :=
  match u with
  | 0 => .spi0IerW v
  | 1 => .spi1IerW v

/-- The `IDR.W` row of each instance. -/
def Instr.spiIdrW (u : Fin 2) (v : Word) : Instr :=
  match u with
  | 0 => .spi0IdrW v
  | 1 => .spi1IdrW v

/-- The `IMR.R` row of each instance. -/
def Instr.spiImrR (u : Fin 2) : Instr :=
  match u with
  | 0 => .spi0ImrR
  | 1 => .spi1ImrR

/-- The `CSR[k].R` row of each instance. -/
def Instr.spiCsrR (u : Fin 2) (k : Fin 4) : Instr :=
  match u with
  | 0 => .spi0CsrR k
  | 1 => .spi1CsrR k

/-- The `CSR[k].W` row of each instance. -/
def Instr.spiCsrW (u : Fin 2) (k : Fin 4) (v : Word) : Instr :=
  match u with
  | 0 => .spi0CsrW k v
  | 1 => .spi1CsrW k v

/-- The `RPR.R` row of each instance. -/
def Instr.spiRprR (u : Fin 2) : Instr :=
  match u with
  | 0 => .spi0RprR
  | 1 => .spi1RprR

/-- The `RPR.W` row of each instance. -/
def Instr.spiRprW (u : Fin 2) (v : Word) : Instr :=
  match u with
  | 0 => .spi0RprW v
  | 1 => .spi1RprW v

/-- The `RCR.R` row of each instance. -/
def Instr.spiRcrR (u : Fin 2) : Instr :=
  match u with
  | 0 => .spi0RcrR
  | 1 => .spi1RcrR

/-- The `RCR.W` row of each instance. -/
def Instr.spiRcrW (u : Fin 2) (v : Word) : Instr :=
  match u with
  | 0 => .spi0RcrW v
  | 1 => .spi1RcrW v

/-- The `TPR.R` row of each instance. -/
def Instr.spiTprR (u : Fin 2) : Instr :=
  match u with
  | 0 => .spi0TprR
  | 1 => .spi1TprR

/-- The `TPR.W` row of each instance. -/
def Instr.spiTprW (u : Fin 2) (v : Word) : Instr :=
  match u with
  | 0 => .spi0TprW v
  | 1 => .spi1TprW v

/-- The `TCR.R` row of each instance. -/
def Instr.spiTcrR (u : Fin 2) : Instr :=
  match u with
  | 0 => .spi0TcrR
  | 1 => .spi1TcrR

/-- The `TCR.W` row of each instance. -/
def Instr.spiTcrW (u : Fin 2) (v : Word) : Instr :=
  match u with
  | 0 => .spi0TcrW v
  | 1 => .spi1TcrW v

/-- The `RNPR.R` row of each instance. -/
def Instr.spiRnprR (u : Fin 2) : Instr :=
  match u with
  | 0 => .spi0RnprR
  | 1 => .spi1RnprR

/-- The `RNPR.W` row of each instance. -/
def Instr.spiRnprW (u : Fin 2) (v : Word) : Instr :=
  match u with
  | 0 => .spi0RnprW v
  | 1 => .spi1RnprW v

/-- The `RNCR.R` row of each instance. -/
def Instr.spiRncrR (u : Fin 2) : Instr :=
  match u with
  | 0 => .spi0RncrR
  | 1 => .spi1RncrR

/-- The `RNCR.W` row of each instance. -/
def Instr.spiRncrW (u : Fin 2) (v : Word) : Instr :=
  match u with
  | 0 => .spi0RncrW v
  | 1 => .spi1RncrW v

/-- The `TNPR.R` row of each instance. -/
def Instr.spiTnprR (u : Fin 2) : Instr :=
  match u with
  | 0 => .spi0TnprR
  | 1 => .spi1TnprR

/-- The `TNPR.W` row of each instance. -/
def Instr.spiTnprW (u : Fin 2) (v : Word) : Instr :=
  match u with
  | 0 => .spi0TnprW v
  | 1 => .spi1TnprW v

/-- The `TNCR.R` row of each instance. -/
def Instr.spiTncrR (u : Fin 2) : Instr :=
  match u with
  | 0 => .spi0TncrR
  | 1 => .spi1TncrR

/-- The `TNCR.W` row of each instance. -/
def Instr.spiTncrW (u : Fin 2) (v : Word) : Instr :=
  match u with
  | 0 => .spi0TncrW v
  | 1 => .spi1TncrW v

/-- The `PTCR.W` row of each instance. -/
def Instr.spiPtcrW (u : Fin 2) (v : Word) : Instr :=
  match u with
  | 0 => .spi0PtcrW v
  | 1 => .spi1PtcrW v

/-- The `PTSR.R` row of each instance. -/
def Instr.spiPtsrR (u : Fin 2) : Instr :=
  match u with
  | 0 => .spi0PtsrR
  | 1 => .spi1PtsrR

/-- The `CCR.W` row of each instance. -/
def Instr.tcCcrW (c : Fin 6) (v : Word) : Instr :=
  match c with
  | 0 => .tcb0Ch0CcrW v
  | 1 => .tcb0Ch1CcrW v
  | 2 => .tcb0Ch2CcrW v
  | 3 => .tcb1Ch0CcrW v
  | 4 => .tcb1Ch1CcrW v
  | 5 => .tcb1Ch2CcrW v

/-- The `CMR.R` row of each instance. -/
def Instr.tcCmrR (c : Fin 6) : Instr :=
  match c with
  | 0 => .tcb0Ch0CmrR
  | 1 => .tcb0Ch1CmrR
  | 2 => .tcb0Ch2CmrR
  | 3 => .tcb1Ch0CmrR
  | 4 => .tcb1Ch1CmrR
  | 5 => .tcb1Ch2CmrR

/-- The `CMR.W` row of each instance. -/
def Instr.tcCmrW (c : Fin 6) (v : Word) : Instr :=
  match c with
  | 0 => .tcb0Ch0CmrW v
  | 1 => .tcb0Ch1CmrW v
  | 2 => .tcb0Ch2CmrW v
  | 3 => .tcb1Ch0CmrW v
  | 4 => .tcb1Ch1CmrW v
  | 5 => .tcb1Ch2CmrW v

/-- The `CV.R` row of each instance. -/
def Instr.tcCvR (c : Fin 6) : Instr :=
  match c with
  | 0 => .tcb0Ch0CvR
  | 1 => .tcb0Ch1CvR
  | 2 => .tcb0Ch2CvR
  | 3 => .tcb1Ch0CvR
  | 4 => .tcb1Ch1CvR
  | 5 => .tcb1Ch2CvR

/-- The `RA.R` row of each instance. -/
def Instr.tcRaR (c : Fin 6) : Instr :=
  match c with
  | 0 => .tcb0Ch0RaR
  | 1 => .tcb0Ch1RaR
  | 2 => .tcb0Ch2RaR
  | 3 => .tcb1Ch0RaR
  | 4 => .tcb1Ch1RaR
  | 5 => .tcb1Ch2RaR

/-- The `RA.W` row of each instance. -/
def Instr.tcRaW (c : Fin 6) (v : Word) : Instr :=
  match c with
  | 0 => .tcb0Ch0RaW v
  | 1 => .tcb0Ch1RaW v
  | 2 => .tcb0Ch2RaW v
  | 3 => .tcb1Ch0RaW v
  | 4 => .tcb1Ch1RaW v
  | 5 => .tcb1Ch2RaW v

/-- The `RB.R` row of each instance. -/
def Instr.tcRbR (c : Fin 6) : Instr :=
  match c with
  | 0 => .tcb0Ch0RbR
  | 1 => .tcb0Ch1RbR
  | 2 => .tcb0Ch2RbR
  | 3 => .tcb1Ch0RbR
  | 4 => .tcb1Ch1RbR
  | 5 => .tcb1Ch2RbR

/-- The `RB.W` row of each instance. -/
def Instr.tcRbW (c : Fin 6) (v : Word) : Instr :=
  match c with
  | 0 => .tcb0Ch0RbW v
  | 1 => .tcb0Ch1RbW v
  | 2 => .tcb0Ch2RbW v
  | 3 => .tcb1Ch0RbW v
  | 4 => .tcb1Ch1RbW v
  | 5 => .tcb1Ch2RbW v

/-- The `RC.R` row of each instance. -/
def Instr.tcRcR (c : Fin 6) : Instr :=
  match c with
  | 0 => .tcb0Ch0RcR
  | 1 => .tcb0Ch1RcR
  | 2 => .tcb0Ch2RcR
  | 3 => .tcb1Ch0RcR
  | 4 => .tcb1Ch1RcR
  | 5 => .tcb1Ch2RcR

/-- The `RC.W` row of each instance. -/
def Instr.tcRcW (c : Fin 6) (v : Word) : Instr :=
  match c with
  | 0 => .tcb0Ch0RcW v
  | 1 => .tcb0Ch1RcW v
  | 2 => .tcb0Ch2RcW v
  | 3 => .tcb1Ch0RcW v
  | 4 => .tcb1Ch1RcW v
  | 5 => .tcb1Ch2RcW v

/-- The `SR.R` row of each instance. -/
def Instr.tcSrR (c : Fin 6) : Instr :=
  match c with
  | 0 => .tcb0Ch0SrR
  | 1 => .tcb0Ch1SrR
  | 2 => .tcb0Ch2SrR
  | 3 => .tcb1Ch0SrR
  | 4 => .tcb1Ch1SrR
  | 5 => .tcb1Ch2SrR

/-- The `IER.W` row of each instance. -/
def Instr.tcIerW (c : Fin 6) (v : Word) : Instr :=
  match c with
  | 0 => .tcb0Ch0IerW v
  | 1 => .tcb0Ch1IerW v
  | 2 => .tcb0Ch2IerW v
  | 3 => .tcb1Ch0IerW v
  | 4 => .tcb1Ch1IerW v
  | 5 => .tcb1Ch2IerW v

/-- The `IDR.W` row of each instance. -/
def Instr.tcIdrW (c : Fin 6) (v : Word) : Instr :=
  match c with
  | 0 => .tcb0Ch0IdrW v
  | 1 => .tcb0Ch1IdrW v
  | 2 => .tcb0Ch2IdrW v
  | 3 => .tcb1Ch0IdrW v
  | 4 => .tcb1Ch1IdrW v
  | 5 => .tcb1Ch2IdrW v

/-- The `IMR.R` row of each instance. -/
def Instr.tcImrR (c : Fin 6) : Instr :=
  match c with
  | 0 => .tcb0Ch0ImrR
  | 1 => .tcb0Ch1ImrR
  | 2 => .tcb0Ch2ImrR
  | 3 => .tcb1Ch0ImrR
  | 4 => .tcb1Ch1ImrR
  | 5 => .tcb1Ch2ImrR

/-- The `BCR.W` row of each instance. -/
def Instr.tcbBcrW (b : Fin 2) (v : Word) : Instr :=
  match b with
  | 0 => .tcb0BcrW v
  | 1 => .tcb1BcrW v

/-- The `BMR.R` row of each instance. -/
def Instr.tcbBmrR (b : Fin 2) : Instr :=
  match b with
  | 0 => .tcb0BmrR
  | 1 => .tcb1BmrR

/-- The `BMR.W` row of each instance. -/
def Instr.tcbBmrW (b : Fin 2) (v : Word) : Instr :=
  match b with
  | 0 => .tcb0BmrW v
  | 1 => .tcb1BmrW v

/-- The `PER.W` row of each instance. -/
def Instr.pioPerW (p : Fin 3) (v : Word) : Instr :=
  match p with
  | 0 => .pioaPerW v
  | 1 => .piobPerW v
  | 2 => .piocPerW v

/-- The `PDR.W` row of each instance. -/
def Instr.pioPdrW (p : Fin 3) (v : Word) : Instr :=
  match p with
  | 0 => .pioaPdrW v
  | 1 => .piobPdrW v
  | 2 => .piocPdrW v

/-- The `PSR.R` row of each instance. -/
def Instr.pioPsrR (p : Fin 3) : Instr :=
  match p with
  | 0 => .pioaPsrR
  | 1 => .piobPsrR
  | 2 => .piocPsrR

/-- The `OER.W` row of each instance. -/
def Instr.pioOerW (p : Fin 3) (v : Word) : Instr :=
  match p with
  | 0 => .pioaOerW v
  | 1 => .piobOerW v
  | 2 => .piocOerW v

/-- The `ODR.W` row of each instance. -/
def Instr.pioOdrW (p : Fin 3) (v : Word) : Instr :=
  match p with
  | 0 => .pioaOdrW v
  | 1 => .piobOdrW v
  | 2 => .piocOdrW v

/-- The `OSR.R` row of each instance. -/
def Instr.pioOsrR (p : Fin 3) : Instr :=
  match p with
  | 0 => .pioaOsrR
  | 1 => .piobOsrR
  | 2 => .piocOsrR

/-- The `IFER.W` row of each instance. -/
def Instr.pioIferW (p : Fin 3) (v : Word) : Instr :=
  match p with
  | 0 => .pioaIferW v
  | 1 => .piobIferW v
  | 2 => .piocIferW v

/-- The `IFDR.W` row of each instance. -/
def Instr.pioIfdrW (p : Fin 3) (v : Word) : Instr :=
  match p with
  | 0 => .pioaIfdrW v
  | 1 => .piobIfdrW v
  | 2 => .piocIfdrW v

/-- The `IFSR.R` row of each instance. -/
def Instr.pioIfsrR (p : Fin 3) : Instr :=
  match p with
  | 0 => .pioaIfsrR
  | 1 => .piobIfsrR
  | 2 => .piocIfsrR

/-- The `SODR.W` row of each instance. -/
def Instr.pioSodrW (p : Fin 3) (v : Word) : Instr :=
  match p with
  | 0 => .pioaSodrW v
  | 1 => .piobSodrW v
  | 2 => .piocSodrW v

/-- The `CODR.W` row of each instance. -/
def Instr.pioCodrW (p : Fin 3) (v : Word) : Instr :=
  match p with
  | 0 => .pioaCodrW v
  | 1 => .piobCodrW v
  | 2 => .piocCodrW v

/-- The `ODSR.R` row of each instance. -/
def Instr.pioOdsrR (p : Fin 3) : Instr :=
  match p with
  | 0 => .pioaOdsrR
  | 1 => .piobOdsrR
  | 2 => .piocOdsrR

/-- The `ODSR.W` row of each instance. -/
def Instr.pioOdsrW (p : Fin 3) (v : Word) : Instr :=
  match p with
  | 0 => .pioaOdsrW v
  | 1 => .piobOdsrW v
  | 2 => .piocOdsrW v

/-- The `PDSR.R` row of each instance. -/
def Instr.pioPdsrR (p : Fin 3) : Instr :=
  match p with
  | 0 => .pioaPdsrR
  | 1 => .piobPdsrR
  | 2 => .piocPdsrR

/-- The `IER.W` row of each instance. -/
def Instr.pioIerW (p : Fin 3) (v : Word) : Instr :=
  match p with
  | 0 => .pioaIerW v
  | 1 => .piobIerW v
  | 2 => .piocIerW v

/-- The `IDR.W` row of each instance. -/
def Instr.pioIdrW (p : Fin 3) (v : Word) : Instr :=
  match p with
  | 0 => .pioaIdrW v
  | 1 => .piobIdrW v
  | 2 => .piocIdrW v

/-- The `IMR.R` row of each instance. -/
def Instr.pioImrR (p : Fin 3) : Instr :=
  match p with
  | 0 => .pioaImrR
  | 1 => .piobImrR
  | 2 => .piocImrR

/-- The `ISR.R` row of each instance. -/
def Instr.pioIsrR (p : Fin 3) : Instr :=
  match p with
  | 0 => .pioaIsrR
  | 1 => .piobIsrR
  | 2 => .piocIsrR

/-- The `MDER.W` row of each instance. -/
def Instr.pioMderW (p : Fin 3) (v : Word) : Instr :=
  match p with
  | 0 => .pioaMderW v
  | 1 => .piobMderW v
  | 2 => .piocMderW v

/-- The `MDDR.W` row of each instance. -/
def Instr.pioMddrW (p : Fin 3) (v : Word) : Instr :=
  match p with
  | 0 => .pioaMddrW v
  | 1 => .piobMddrW v
  | 2 => .piocMddrW v

/-- The `MDSR.R` row of each instance. -/
def Instr.pioMdsrR (p : Fin 3) : Instr :=
  match p with
  | 0 => .pioaMdsrR
  | 1 => .piobMdsrR
  | 2 => .piocMdsrR

/-- The `PUDR.W` row of each instance. -/
def Instr.pioPudrW (p : Fin 3) (v : Word) : Instr :=
  match p with
  | 0 => .pioaPudrW v
  | 1 => .piobPudrW v
  | 2 => .piocPudrW v

/-- The `PUER.W` row of each instance. -/
def Instr.pioPuerW (p : Fin 3) (v : Word) : Instr :=
  match p with
  | 0 => .pioaPuerW v
  | 1 => .piobPuerW v
  | 2 => .piocPuerW v

/-- The `PUSR.R` row of each instance. -/
def Instr.pioPusrR (p : Fin 3) : Instr :=
  match p with
  | 0 => .pioaPusrR
  | 1 => .piobPusrR
  | 2 => .piocPusrR

/-- The `ASR.W` row of each instance. -/
def Instr.pioAsrW (p : Fin 3) (v : Word) : Instr :=
  match p with
  | 0 => .pioaAsrW v
  | 1 => .piobAsrW v
  | 2 => .piocAsrW v

/-- The `BSR.W` row of each instance. -/
def Instr.pioBsrW (p : Fin 3) (v : Word) : Instr :=
  match p with
  | 0 => .pioaBsrW v
  | 1 => .piobBsrW v
  | 2 => .piocBsrW v

/-- The `ABSR.R` row of each instance. -/
def Instr.pioAbsrR (p : Fin 3) : Instr :=
  match p with
  | 0 => .pioaAbsrR
  | 1 => .piobAbsrR
  | 2 => .piocAbsrR

/-- The `OWER.W` row of each instance. -/
def Instr.pioOwerW (p : Fin 3) (v : Word) : Instr :=
  match p with
  | 0 => .pioaOwerW v
  | 1 => .piobOwerW v
  | 2 => .piocOwerW v

/-- The `OWDR.W` row of each instance. -/
def Instr.pioOwdrW (p : Fin 3) (v : Word) : Instr :=
  match p with
  | 0 => .pioaOwdrW v
  | 1 => .piobOwdrW v
  | 2 => .piocOwdrW v

/-- The `OWSR.R` row of each instance. -/
def Instr.pioOwsrR (p : Fin 3) : Instr :=
  match p with
  | 0 => .pioaOwsrR
  | 1 => .piobOwsrR
  | 2 => .piocOwsrR

/-- The `RPR.R` row of each PDC host (R122). -/
def Instr.pdcRprR (h : PdcHost) : Instr :=
  match h with
  | .usart u => .usartRprR u
  | .spi u => .spiRprR u
  | .twi => .twiRprR
  | .mci => .mciRprR

/-- The `RPR.W` row of each PDC host (R122). -/
def Instr.pdcRprW (h : PdcHost) (v : Word) : Instr :=
  match h with
  | .usart u => .usartRprW u v
  | .spi u => .spiRprW u v
  | .twi => .twiRprW v
  | .mci => .mciRprW v

/-- The `RCR.R` row of each PDC host (R122). -/
def Instr.pdcRcrR (h : PdcHost) : Instr :=
  match h with
  | .usart u => .usartRcrR u
  | .spi u => .spiRcrR u
  | .twi => .twiRcrR
  | .mci => .mciRcrR

/-- The `RCR.W` row of each PDC host (R122). -/
def Instr.pdcRcrW (h : PdcHost) (v : Word) : Instr :=
  match h with
  | .usart u => .usartRcrW u v
  | .spi u => .spiRcrW u v
  | .twi => .twiRcrW v
  | .mci => .mciRcrW v

/-- The `TPR.R` row of each PDC host (R122). -/
def Instr.pdcTprR (h : PdcHost) : Instr :=
  match h with
  | .usart u => .usartTprR u
  | .spi u => .spiTprR u
  | .twi => .twiTprR
  | .mci => .mciTprR

/-- The `TPR.W` row of each PDC host (R122). -/
def Instr.pdcTprW (h : PdcHost) (v : Word) : Instr :=
  match h with
  | .usart u => .usartTprW u v
  | .spi u => .spiTprW u v
  | .twi => .twiTprW v
  | .mci => .mciTprW v

/-- The `TCR.R` row of each PDC host (R122). -/
def Instr.pdcTcrR (h : PdcHost) : Instr :=
  match h with
  | .usart u => .usartTcrR u
  | .spi u => .spiTcrR u
  | .twi => .twiTcrR
  | .mci => .mciTcrR

/-- The `TCR.W` row of each PDC host (R122). -/
def Instr.pdcTcrW (h : PdcHost) (v : Word) : Instr :=
  match h with
  | .usart u => .usartTcrW u v
  | .spi u => .spiTcrW u v
  | .twi => .twiTcrW v
  | .mci => .mciTcrW v

/-- The `RNPR.R` row of each PDC host (R122). -/
def Instr.pdcRnprR (h : PdcHost) : Instr :=
  match h with
  | .usart u => .usartRnprR u
  | .spi u => .spiRnprR u
  | .twi => .twiRnprR
  | .mci => .mciRnprR

/-- The `RNPR.W` row of each PDC host (R122). -/
def Instr.pdcRnprW (h : PdcHost) (v : Word) : Instr :=
  match h with
  | .usart u => .usartRnprW u v
  | .spi u => .spiRnprW u v
  | .twi => .twiRnprW v
  | .mci => .mciRnprW v

/-- The `RNCR.R` row of each PDC host (R122). -/
def Instr.pdcRncrR (h : PdcHost) : Instr :=
  match h with
  | .usart u => .usartRncrR u
  | .spi u => .spiRncrR u
  | .twi => .twiRncrR
  | .mci => .mciRncrR

/-- The `RNCR.W` row of each PDC host (R122). -/
def Instr.pdcRncrW (h : PdcHost) (v : Word) : Instr :=
  match h with
  | .usart u => .usartRncrW u v
  | .spi u => .spiRncrW u v
  | .twi => .twiRncrW v
  | .mci => .mciRncrW v

/-- The `TNPR.R` row of each PDC host (R122). -/
def Instr.pdcTnprR (h : PdcHost) : Instr :=
  match h with
  | .usart u => .usartTnprR u
  | .spi u => .spiTnprR u
  | .twi => .twiTnprR
  | .mci => .mciTnprR

/-- The `TNPR.W` row of each PDC host (R122). -/
def Instr.pdcTnprW (h : PdcHost) (v : Word) : Instr :=
  match h with
  | .usart u => .usartTnprW u v
  | .spi u => .spiTnprW u v
  | .twi => .twiTnprW v
  | .mci => .mciTnprW v

/-- The `TNCR.R` row of each PDC host (R122). -/
def Instr.pdcTncrR (h : PdcHost) : Instr :=
  match h with
  | .usart u => .usartTncrR u
  | .spi u => .spiTncrR u
  | .twi => .twiTncrR
  | .mci => .mciTncrR

/-- The `TNCR.W` row of each PDC host (R122). -/
def Instr.pdcTncrW (h : PdcHost) (v : Word) : Instr :=
  match h with
  | .usart u => .usartTncrW u v
  | .spi u => .spiTncrW u v
  | .twi => .twiTncrW v
  | .mci => .mciTncrW v

/-- The `PTCR.W` row of each PDC host (R122). -/
def Instr.pdcPtcrW (h : PdcHost) (v : Word) : Instr :=
  match h with
  | .usart u => .usartPtcrW u v
  | .spi u => .spiPtcrW u v
  | .twi => .twiPtcrW v
  | .mci => .mciPtcrW v

/-- The `PTSR.R` row of each PDC host (R122). -/
def Instr.pdcPtsrR (h : PdcHost) : Instr :=
  match h with
  | .usart u => .usartPtsrR u
  | .spi u => .spiPtsrR u
  | .twi => .twiPtsrR
  | .mci => .mciPtsrR

/-! ### The register maps -/

/-- The PDC registers of a host, at offset 0x100 of its window (R27). -/
def decodePdc (h : PdcHost) (off : Nat) (dir : Dir) (v : Word) : RegSelect :=
  match off with
  | 0x100 => rw dir (.pdcRprR h) (.pdcRprW h v)
  | 0x104 => rw dir (.pdcRcrR h) (.pdcRcrW h v)
  | 0x108 => rw dir (.pdcTprR h) (.pdcTprW h v)
  | 0x10C => rw dir (.pdcTcrR h) (.pdcTcrW h v)
  | 0x110 => rw dir (.pdcRnprR h) (.pdcRnprW h v)
  | 0x114 => rw dir (.pdcRncrR h) (.pdcRncrW h v)
  | 0x118 => rw dir (.pdcTnprR h) (.pdcTnprW h v)
  | 0x11C => rw dir (.pdcTncrR h) (.pdcTncrW h v)
  | 0x120 => wo dir (.pdcPtcrW h v)
  | 0x124 => ro dir (.pdcPtsrR h)
  | _ => .undefined

/-- The USART register map (R29). -/
def decodeUsart (u : Fin 6) (off : Nat) (dir : Dir) (v : Word) : RegSelect :=
  match off with
  | 0x000 => wo dir (.usartCrW u v)
  | 0x004 => rw dir (.usartMrR u) (.usartMrW u v)
  | 0x008 => wo dir (.usartIerW u v)
  | 0x00C => wo dir (.usartIdrW u v)
  | 0x010 => ro dir (.usartImrR u)
  | 0x014 => ro dir (.usartCsrR u)
  | 0x018 => ro dir (.usartRhrR u)
  | 0x01C => wo dir (.usartThrW u v)
  | 0x020 => rw dir (.usartBrgrR u) (.usartBrgrW u v)
  | 0x024 => rw dir (.usartRtorR u) (.usartRtorW u v)
  | 0x028 => rw dir (.usartTtgrR u) (.usartTtgrW u v)
  | 0x040 => rw dir (.usartFidiR u) (.usartFidiW u v)
  | 0x044 => ro dir (.usartNerR u)
  | 0x04C => rw dir (.usartIfR u) (.usartIfW u v)
  | 0x050 => rw dir (.usartManR u) (.usartManW u v)
  | _ => decodePdc (.usart u) off dir v

/-- The SPI register map (R31), `CSR[k]` at 0x30 + 4k. -/
def decodeSpi (u : Fin 2) (off : Nat) (dir : Dir) (v : Word) : RegSelect :=
  match off with
  | 0x000 => wo dir (.spiCrW u v)
  | 0x004 => rw dir (.spiMrR u) (.spiMrW u v)
  | 0x008 => ro dir (.spiRdrR u)
  | 0x00C => wo dir (.spiTdrW u v)
  | 0x010 => ro dir (.spiSrR u)
  | 0x014 => wo dir (.spiIerW u v)
  | 0x018 => wo dir (.spiIdrW u v)
  | 0x01C => ro dir (.spiImrR u)
  | _ =>
    if 0x30 ≤ off ∧ off < 0x40 ∧ off % 4 = 0 then
      let k := Fin.ofNat 4 ((off - 0x30) / 4)
      rw dir (.spiCsrR u k) (.spiCsrW u k v)
    else decodePdc (.spi u) off dir v

/-- The TWI register map (R33). -/
def decodeTwi (off : Nat) (dir : Dir) (v : Word) : RegSelect :=
  match off with
  | 0x000 => wo dir (.twiCrW v)
  | 0x004 => rw dir .twiMmrR (.twiMmrW v)
  | 0x008 => rw dir .twiSmrR (.twiSmrW v)
  | 0x00C => rw dir .twiIadrR (.twiIadrW v)
  | 0x010 => rw dir .twiCwgrR (.twiCwgrW v)
  | 0x020 => ro dir .twiSrR
  | 0x024 => wo dir (.twiIerW v)
  | 0x028 => wo dir (.twiIdrW v)
  | 0x02C => ro dir .twiImrR
  | 0x030 => ro dir .twiRhrR
  | 0x034 => wo dir (.twiThrW v)
  | _ => decodePdc .twi off dir v

/-- The MCI register map (R35), `RSPR[k]` at 0x20 + 4k. -/
def decodeMci (off : Nat) (dir : Dir) (v : Word) : RegSelect :=
  match off with
  | 0x000 => wo dir (.mciCrW v)
  | 0x004 => rw dir .mciMrR (.mciMrW v)
  | 0x008 => rw dir .mciDtorR (.mciDtorW v)
  | 0x00C => rw dir .mciSdcrR (.mciSdcrW v)
  | 0x010 => rw dir .mciArgrR (.mciArgrW v)
  | 0x014 => wo dir (.mciCmdrW v)
  | 0x018 => rw dir .mciBlkrR (.mciBlkrW v)
  | 0x030 => ro dir .mciRdrR
  | 0x034 => wo dir (.mciTdrW v)
  | 0x040 => ro dir .mciSrR
  | 0x044 => wo dir (.mciIerW v)
  | 0x048 => wo dir (.mciIdrW v)
  | 0x04C => ro dir .mciImrR
  | _ =>
    if 0x20 ≤ off ∧ off < 0x30 ∧ off % 4 = 0 then ro dir (.mciRsprR (Fin.ofNat 4 ((off - 0x20) / 4)))
    else decodePdc .mci off dir v

/-- The registers of one TC channel, at 0x40 * k of its block (R60). -/
def decodeTcChannel (c : Fin 6) (off : Nat) (dir : Dir) (v : Word) : RegSelect :=
  match off with
  | 0x000 => wo dir (.tcCcrW c v)
  | 0x004 => rw dir (.tcCmrR c) (.tcCmrW c v)
  | 0x010 => ro dir (.tcCvR c)
  | 0x014 => rw dir (.tcRaR c) (.tcRaW c v)
  | 0x018 => rw dir (.tcRbR c) (.tcRbW c v)
  | 0x01C => rw dir (.tcRcR c) (.tcRcW c v)
  | 0x020 => ro dir (.tcSrR c)
  | 0x024 => wo dir (.tcIerW c v)
  | 0x028 => wo dir (.tcIdrW c v)
  | 0x02C => ro dir (.tcImrR c)
  | _ => .undefined

/-- The block registers of a TC block (R60). -/
def decodeTcBlock (b : Fin 2) (off : Nat) (dir : Dir) (v : Word) : RegSelect :=
  match off with
  | 0x0C0 => wo dir (.tcbBcrW b v)
  | 0x0C4 => rw dir (.tcbBmrR b) (.tcbBmrW b v)
  | _ =>
    if off < 0x40 then decodeTcChannel (Fin.ofNat 6 (3 * b.val)) off dir v
    else if off < 0x80 then decodeTcChannel (Fin.ofNat 6 (3 * b.val + 1)) (off - 0x40) dir v
    else if off < 0xC0 then decodeTcChannel (Fin.ofNat 6 (3 * b.val + 2)) (off - 0x80) dir v
    else .undefined

/-- The PIT register map (R62). -/
def decodePit (off : Nat) (dir : Dir) (v : Word) : RegSelect :=
  match off with
  | 0x000 => rw dir .pitMrR (.pitMrW v)
  | 0x004 => ro dir .pitSrR
  | 0x008 => ro dir .pitPivrR
  | 0x00C => ro dir .pitPiirR
  | _ => .undefined

/-- The RTT register map (R64). -/
def decodeRtt (off : Nat) (dir : Dir) (v : Word) : RegSelect :=
  match off with
  | 0x000 => rw dir .rttMrR (.rttMrW v)
  | 0x004 => rw dir .rttArR (.rttArW v)
  | 0x008 => ro dir .rttVrR
  | 0x00C => ro dir .rttSrR
  | _ => .undefined

/-- The DBGU register map (R66). -/
def decodeDbgu (off : Nat) (dir : Dir) (v : Word) : RegSelect :=
  match off with
  | 0x000 => wo dir (.dbguCrW v)
  | 0x004 => rw dir .dbguMrR (.dbguMrW v)
  | 0x008 => wo dir (.dbguIerW v)
  | 0x00C => wo dir (.dbguIdrW v)
  | 0x010 => ro dir .dbguImrR
  | 0x014 => ro dir .dbguSrR
  | 0x018 => ro dir .dbguRhrR
  | 0x01C => wo dir (.dbguThrW v)
  | 0x020 => rw dir .dbguBrgrR (.dbguBrgrW v)
  | 0x040 => ro dir .dbguCidrR
  | 0x044 => ro dir .dbguExidR
  | _ => .undefined

/-- The PIO register map (R68). -/
def decodePio (p : Fin 3) (off : Nat) (dir : Dir) (v : Word) : RegSelect :=
  match off with
  | 0x000 => wo dir (.pioPerW p v)
  | 0x004 => wo dir (.pioPdrW p v)
  | 0x008 => ro dir (.pioPsrR p)
  | 0x010 => wo dir (.pioOerW p v)
  | 0x014 => wo dir (.pioOdrW p v)
  | 0x018 => ro dir (.pioOsrR p)
  | 0x020 => wo dir (.pioIferW p v)
  | 0x024 => wo dir (.pioIfdrW p v)
  | 0x028 => ro dir (.pioIfsrR p)
  | 0x030 => wo dir (.pioSodrW p v)
  | 0x034 => wo dir (.pioCodrW p v)
  | 0x038 => rw dir (.pioOdsrR p) (.pioOdsrW p v)
  | 0x03C => ro dir (.pioPdsrR p)
  | 0x040 => wo dir (.pioIerW p v)
  | 0x044 => wo dir (.pioIdrW p v)
  | 0x048 => ro dir (.pioImrR p)
  | 0x04C => ro dir (.pioIsrR p)
  | 0x050 => wo dir (.pioMderW p v)
  | 0x054 => wo dir (.pioMddrW p v)
  | 0x058 => ro dir (.pioMdsrR p)
  | 0x060 => wo dir (.pioPudrW p v)
  | 0x064 => wo dir (.pioPuerW p v)
  | 0x068 => ro dir (.pioPusrR p)
  | 0x070 => wo dir (.pioAsrW p v)
  | 0x074 => wo dir (.pioBsrW p v)
  | 0x078 => ro dir (.pioAbsrR p)
  | 0x0A0 => wo dir (.pioOwerW p v)
  | 0x0A4 => wo dir (.pioOwdrW p v)
  | 0x0A8 => ro dir (.pioOwsrR p)
  | _ => .undefined

/-- The PMC register map (R70). -/
def decodePmc (off : Nat) (dir : Dir) (v : Word) : RegSelect :=
  match off with
  | 0x000 => wo dir (.pmcScerW v)
  | 0x004 => wo dir (.pmcScdrW v)
  | 0x008 => ro dir .pmcScsrR
  | 0x010 => wo dir (.pmcPcerW v)
  | 0x014 => wo dir (.pmcPcdrW v)
  | 0x018 => ro dir .pmcPcsrR
  | 0x020 => rw dir .pmcCkgrMorR (.pmcCkgrMorW v)
  | 0x024 => ro dir .pmcCkgrMcfrR
  | 0x028 => rw dir .pmcCkgrPllarR (.pmcCkgrPllarW v)
  | 0x02C => rw dir .pmcCkgrPllbrR (.pmcCkgrPllbrW v)
  | 0x030 => rw dir .pmcMckrR (.pmcMckrW v)
  | 0x040 => rw dir .pmcPck0R (.pmcPck0W v)
  | 0x044 => rw dir .pmcPck1R (.pmcPck1W v)
  | 0x060 => wo dir (.pmcIerW v)
  | 0x064 => wo dir (.pmcIdrW v)
  | 0x068 => ro dir .pmcSrR
  | 0x06C => ro dir .pmcImrR
  | 0x080 => rw dir .pmcPllicprR (.pmcPllicprW v)
  | _ => .undefined

/-- The Matrix register map (R72). -/
def decodeMatrix (off : Nat) (dir : Dir) (v : Word) : RegSelect :=
  match off with
  | 0x000 => rw dir .matrixMcfg0R (.matrixMcfg0W v)
  | 0x004 => rw dir .matrixMcfg1R (.matrixMcfg1W v)
  | 0x008 => rw dir .matrixMcfg2R (.matrixMcfg2W v)
  | 0x00C => rw dir .matrixMcfg3R (.matrixMcfg3W v)
  | 0x010 => rw dir .matrixMcfg4R (.matrixMcfg4W v)
  | 0x014 => rw dir .matrixMcfg5R (.matrixMcfg5W v)
  | 0x040 => rw dir .matrixScfg0R (.matrixScfg0W v)
  | 0x044 => rw dir .matrixScfg1R (.matrixScfg1W v)
  | 0x048 => rw dir .matrixScfg2R (.matrixScfg2W v)
  | 0x04C => rw dir .matrixScfg3R (.matrixScfg3W v)
  | 0x050 => rw dir .matrixScfg4R (.matrixScfg4W v)
  | 0x080 => rw dir .matrixPras0R (.matrixPras0W v)
  | 0x088 => rw dir .matrixPras1R (.matrixPras1W v)
  | 0x090 => rw dir .matrixPras2R (.matrixPras2W v)
  | 0x098 => rw dir .matrixPras3R (.matrixPras3W v)
  | 0x0A0 => rw dir .matrixPras4R (.matrixPras4W v)
  | 0x100 => rw dir .matrixMrcrR (.matrixMrcrW v)
  | 0x11C => rw dir .matrixEbiCsaR (.matrixEbiCsaW v)
  | _ => .undefined

/-- The RSTC register map (R73). -/
def decodeRstc (off : Nat) (dir : Dir) (v : Word) : RegSelect :=
  match off with
  | 0x000 => wo dir (.rstcCrW v)
  | 0x004 => ro dir .rstcSrR
  | 0x008 => rw dir .rstcMrR (.rstcMrW v)
  | _ => .undefined

/-- The SDRAMC register map (R75). -/
def decodeSdramc (off : Nat) (dir : Dir) (v : Word) : RegSelect :=
  match off with
  | 0x000 => rw dir .sdramcMrR (.sdramcMrW v)
  | 0x004 => rw dir .sdramcTrR (.sdramcTrW v)
  | 0x008 => rw dir .sdramcCrR (.sdramcCrW v)
  | 0x010 => rw dir .sdramcLprR (.sdramcLprW v)
  | 0x014 => wo dir (.sdramcIerW v)
  | 0x018 => wo dir (.sdramcIdrW v)
  | 0x01C => ro dir .sdramcImrR
  | 0x020 => ro dir .sdramcIsrR
  | 0x024 => rw dir .sdramcMdrR (.sdramcMdrW v)
  | _ => .undefined

/-- The AIC register map (R24), `SMR[n]` at 4n and `SVR[n]` at 0x80 + 4n. -/
def decodeAic (off : Nat) (dir : Dir) (v : Word) : RegSelect :=
  match off with
  | 0x100 => rw dir .aicIvrR (.aicIvrW v)
  | 0x104 => ro dir .aicFvrR
  | 0x108 => ro dir .aicIsrR
  | 0x10C => ro dir .aicIprR
  | 0x110 => ro dir .aicImrR
  | 0x114 => ro dir .aicCisrR
  | 0x120 => wo dir (.aicIecrW v)
  | 0x124 => wo dir (.aicIdcrW v)
  | 0x128 => wo dir (.aicIccrW v)
  | 0x12C => wo dir (.aicIscrW v)
  | 0x130 => wo dir (.aicEoicrW v)
  | 0x134 => rw dir .aicSpuR (.aicSpuW v)
  | 0x138 => rw dir .aicDcrR (.aicDcrW v)
  | 0x140 => wo dir (.aicFferW v)
  | 0x144 => wo dir (.aicFfdrW v)
  | 0x148 => ro dir .aicFfsrR
  | _ =>
    if off < 0x80 ∧ off % 4 = 0 then
      let n := Fin.ofNat 32 (off / 4)
      rw dir (.aicSmrR n) (.aicSmrW n v)
    else if off < 0x100 ∧ off % 4 = 0 then
      let n := Fin.ofNat 32 ((off - 0x80) / 4)
      rw dir (.aicSvrR n) (.aicSvrW n v)
    else .undefined

/-- The register a transaction selects in the window of `p` (R126). -/
def decodeRegister (p : Peripheral) (off : Nat) (dir : Dir) (v : Word) : RegSelect :=
  match p with
  | .tcb b => decodeTcBlock b off dir v
  | .mci => decodeMci off dir v
  | .twi => decodeTwi off dir v
  | .usart u => decodeUsart u off dir v
  | .spi u => decodeSpi u off dir v
  | .sdramc => decodeSdramc off dir v
  | .matrix => decodeMatrix off dir v
  | .aic => decodeAic off dir v
  | .dbgu => decodeDbgu off dir v
  | .pio p => decodePio p off dir v
  | .pmc => decodePmc off dir v
  | .rstc => decodeRstc off dir v
  | .rtt => decodeRtt off dir v
  | .pit => decodePit off dir v

/-- The rows of a memory-backed region (R90, R85). -/
def decodeMemory (m : MemRegion) (dir : Dir) (addr : Word) (size : AccessSize) (v : Word) : Instr :=
  match m, dir with
  | .rom, .read => .romR addr size
  | .rom, .write => .romW addr size v
  | .sram0, .read => .sram0R addr size
  | .sram0, .write => .sram0W addr size v
  | .sram1, .read => .sram1R addr size
  | .sram1, .write => .sram1W addr size v
  | .nor, .read => .norR addr size
  | .nor, .write => .norW addr size v
  | .sdram, .read => .sdramR addr size
  | .sdram, .write => .sdramW addr size v

/-- The rows of an unimplemented window (R160). -/
def decodeUnimpl (w : UnimplWindow) (dir : Dir) (addr v : Word) : Instr :=
  match w, dir with
  | .uhp, .read => .unimplUhpR addr
  | .uhp, .write => .unimplUhpW addr v
  | .udp, .read => .unimplUdpR addr
  | .udp, .write => .unimplUdpW addr v
  | .ssc, .read => .unimplSscR addr
  | .ssc, .write => .unimplSscW addr v
  | .isi, .read => .unimplIsiR addr
  | .isi, .write => .unimplIsiW addr v
  | .emac, .read => .unimplEmacR addr
  | .emac, .write => .unimplEmacW addr v
  | .adc, .read => .unimplAdcR addr
  | .adc, .write => .unimplAdcW addr v
  | .ecc, .read => .unimplEccR addr
  | .ecc, .write => .unimplEccW addr v
  | .smc, .read => .unimplSmcR addr
  | .smc, .write => .unimplSmcW addr v
  | .shdwc, .read => .unimplShdwcR addr
  | .shdwc, .write => .unimplShdwcW addr v
  | .wdt, .read => .unimplWdtR addr
  | .wdt, .write => .unimplWdtW addr v
  | .gpbr, .read => .unimplGpbrR addr
  | .gpbr, .write => .unimplGpbrW addr v

/-- A legal size and an aligned address (R94). -/
def memoryAccess (t : BusTxn) : Option AccessSize :=
  match accessSize t.size with
  | some size => if aligned size t.addr then some size else none
  | none => none

/-- A word access, aligned (R93). -/
def wordAccess (t : BusTxn) : Bool := memoryAccess t == some .word

/-- Decoding a bus transaction: region, then size and alignment, then the kind, then the offset, then the direction
(R121, R774). -/
def decodeBus (z : MemSizes) (t : BusTxn) : Decoded :=
  match regionOf z t.addr with
  | none => if wordAccess t then .reject .reserved else .reject .accessSize
  | some r =>
    match r.kind with
    | .bootmem =>
      match memoryAccess t with
      | none => .reject .accessSize
      | some size =>
        match t.dir with
        | .read => .ok (.bootmemR t.addr size)
        | .write => .ok (.bootmemW t.addr size t.wdata)
    | .memory m =>
      match memoryAccess t with
      | none => .reject .accessSize
      | some size => .ok (decodeMemory m t.dir t.addr size t.wdata)
    | .unimpl w => if wordAccess t then .ok (decodeUnimpl w t.dir t.addr t.wdata) else .reject .accessSize
    | .mmio p =>
      if wordAccess t then
        match decodeRegister p (t.addr.toNat - r.base) t.dir t.wdata with
        | .register i => .ok i
        | .wrongDir => .reject (.accessDir p (t.addr.toNat - r.base))
        | .undefined => .reject (.undefOffset p (t.addr.toNat - r.base))
      else .reject .accessSize

/-- Decoding a client's frame: the owner first, then category and id (R131, R133, R737). -/
def decodeFrameIn (l : LinkId) (f : Frame) : Decoded :=
  match l with
  | .usart u =>
    if f.cat = 1#8 ∧ f.id = 1#8 then .ok (.usartDataIn u f.seq f.payload)
    else if f.cat = 2#8 ∧ f.id = 1#8 then .ok (.usartFaultOvre u f.seq f.payload)
    else if f.cat = 2#8 ∧ f.id = 2#8 then .ok (.usartFaultFrame u f.seq f.payload)
    else if f.cat = 2#8 ∧ f.id = 3#8 then .ok (.usartFaultPare u f.seq f.payload)
    else if f.cat = 2#8 ∧ f.id = 4#8 then .ok (.usartFaultTimeout u f.seq f.payload)
    else .reject .unknownFrame
  | .spi u =>
    if f.cat = 1#8 ∧ f.id = 1#8 then .ok (.spiDataIn u f.seq f.payload)
    else if f.cat = 2#8 ∧ f.id = 1#8 then .ok (.spiFaultModf u f.seq f.payload)
    else if f.cat = 2#8 ∧ f.id = 2#8 then .ok (.spiFaultOvres u f.seq f.payload)
    else .reject .unknownFrame
  | .twi =>
    if f.cat = 1#8 ∧ f.id = 1#8 then .ok (.twiDataIn f.seq f.payload)
    else if f.cat = 2#8 ∧ f.id = 1#8 then .ok (.twiFaultOvre f.seq f.payload)
    else if f.cat = 2#8 ∧ f.id = 2#8 then .ok (.twiFaultNack f.seq f.payload)
    else if f.cat = 2#8 ∧ f.id = 3#8 then .ok (.twiFaultArblst f.seq f.payload)
    else .reject .unknownFrame
  | .pio p =>
    if f.cat = 1#8 ∧ f.id = 1#8 then .ok (.pioPinstateEnable p f.seq f.payload)
    else if f.cat = 1#8 ∧ f.id = 2#8 then .ok (.pioPinstateDisable p f.seq f.payload)
    else if f.cat = 1#8 ∧ f.id = 4#8 then .ok (.pioPinstateGet p f.seq f.payload)
    else .reject .unknownFrame
  | .sdramc =>
    if f.cat = 2#8 ∧ f.id = 1#8 then .ok (.sdramcFaultRes f.seq f.payload)
    else .reject .unknownFrame

/-- Decoding a frame its owner sends (R131, R133). The payload of CTRL_START, CTRL_STOP and PINSTATE/OUT is the
sender's own, so nothing may be handed in for it (R441, R442, R662). -/
def decodeFrameOut (l : LinkId) (cat id : Byte) (data : List Byte) : Decoded :=
  match l with
  | .usart u => if cat = 1#8 ∧ id = 2#8 then .ok (.usartDataOut u data) else .reject .unknownOut
  | .spi u => if cat = 1#8 ∧ id = 2#8 then .ok (.spiDataOut u data) else .reject .unknownOut
  | .twi =>
    if cat = 1#8 ∧ id = 2#8 then .ok (.twiDataOut data)
    else if cat = 1#8 ∧ id = 3#8 ∧ data = [] then .ok .twiCtrlStart
    else if cat = 1#8 ∧ id = 4#8 ∧ data = [] then .ok .twiCtrlStop
    else .reject .unknownOut
  | .pio p => if cat = 1#8 ∧ id = 3#8 ∧ data = [] then .ok (.pioPinstateOut p) else .reject .unknownOut
  | .sdramc => .reject .unknownOut

/-- The decoder. The sizes of NOR and SDRAM are arguments of the region map (R86). -/
def decode (z : MemSizes) (op : Op) : Decoded :=
  match op with
  | .bus t => decodeBus z t
  | .frameIn l f => decodeFrameIn l f
  | .frameOut l cat id data => decodeFrameOut l cat id data

/-! ### The encoder -/

/-- The raw operation of an instruction: the address of its row, its direction and size, or its frame (R123, R133).
A read carries no datum; the encoder writes 0 there. -/
def encode : Instr → Op
  | .bootmemR addr size => .bus ⟨.read, addr, size.bytes, 0#32⟩
  | .bootmemW addr size v => .bus ⟨.write, addr, size.bytes, v⟩
  | .romR addr size => .bus ⟨.read, addr, size.bytes, 0#32⟩
  | .romW addr size v => .bus ⟨.write, addr, size.bytes, v⟩
  | .sram0R addr size => .bus ⟨.read, addr, size.bytes, 0#32⟩
  | .sram0W addr size v => .bus ⟨.write, addr, size.bytes, v⟩
  | .sram1R addr size => .bus ⟨.read, addr, size.bytes, 0#32⟩
  | .sram1W addr size v => .bus ⟨.write, addr, size.bytes, v⟩
  | .norR addr size => .bus ⟨.read, addr, size.bytes, 0#32⟩
  | .norW addr size v => .bus ⟨.write, addr, size.bytes, v⟩
  | .sdramR addr size => .bus ⟨.read, addr, size.bytes, 0#32⟩
  | .sdramW addr size v => .bus ⟨.write, addr, size.bytes, v⟩
  | .unimplUhpR addr => .bus ⟨.read, addr, 4, 0#32⟩
  | .unimplUhpW addr v => .bus ⟨.write, addr, 4, v⟩
  | .unimplUdpR addr => .bus ⟨.read, addr, 4, 0#32⟩
  | .unimplUdpW addr v => .bus ⟨.write, addr, 4, v⟩
  | .unimplSscR addr => .bus ⟨.read, addr, 4, 0#32⟩
  | .unimplSscW addr v => .bus ⟨.write, addr, 4, v⟩
  | .unimplIsiR addr => .bus ⟨.read, addr, 4, 0#32⟩
  | .unimplIsiW addr v => .bus ⟨.write, addr, 4, v⟩
  | .unimplEmacR addr => .bus ⟨.read, addr, 4, 0#32⟩
  | .unimplEmacW addr v => .bus ⟨.write, addr, 4, v⟩
  | .unimplAdcR addr => .bus ⟨.read, addr, 4, 0#32⟩
  | .unimplAdcW addr v => .bus ⟨.write, addr, 4, v⟩
  | .unimplEccR addr => .bus ⟨.read, addr, 4, 0#32⟩
  | .unimplEccW addr v => .bus ⟨.write, addr, 4, v⟩
  | .unimplSmcR addr => .bus ⟨.read, addr, 4, 0#32⟩
  | .unimplSmcW addr v => .bus ⟨.write, addr, 4, v⟩
  | .unimplShdwcR addr => .bus ⟨.read, addr, 4, 0#32⟩
  | .unimplShdwcW addr v => .bus ⟨.write, addr, 4, v⟩
  | .unimplWdtR addr => .bus ⟨.read, addr, 4, 0#32⟩
  | .unimplWdtW addr v => .bus ⟨.write, addr, 4, v⟩
  | .unimplGpbrR addr => .bus ⟨.read, addr, 4, 0#32⟩
  | .unimplGpbrW addr v => .bus ⟨.write, addr, 4, v⟩
  | .aicSmrR n => .bus ⟨.read, (0xFFFFF000#32 + BitVec.ofNat 32 (4 * n.val)), 4, 0#32⟩
  | .aicSmrW n v => .bus ⟨.write, (0xFFFFF000#32 + BitVec.ofNat 32 (4 * n.val)), 4, v⟩
  | .aicSvrR n => .bus ⟨.read, (0xFFFFF080#32 + BitVec.ofNat 32 (4 * n.val)), 4, 0#32⟩
  | .aicSvrW n v => .bus ⟨.write, (0xFFFFF080#32 + BitVec.ofNat 32 (4 * n.val)), 4, v⟩
  | .aicIvrR => .bus ⟨.read, 0xFFFFF100#32, 4, 0#32⟩
  | .aicIvrW v => .bus ⟨.write, 0xFFFFF100#32, 4, v⟩
  | .aicFvrR => .bus ⟨.read, 0xFFFFF104#32, 4, 0#32⟩
  | .aicIsrR => .bus ⟨.read, 0xFFFFF108#32, 4, 0#32⟩
  | .aicIprR => .bus ⟨.read, 0xFFFFF10C#32, 4, 0#32⟩
  | .aicImrR => .bus ⟨.read, 0xFFFFF110#32, 4, 0#32⟩
  | .aicCisrR => .bus ⟨.read, 0xFFFFF114#32, 4, 0#32⟩
  | .aicIecrW v => .bus ⟨.write, 0xFFFFF120#32, 4, v⟩
  | .aicIdcrW v => .bus ⟨.write, 0xFFFFF124#32, 4, v⟩
  | .aicIccrW v => .bus ⟨.write, 0xFFFFF128#32, 4, v⟩
  | .aicIscrW v => .bus ⟨.write, 0xFFFFF12C#32, 4, v⟩
  | .aicEoicrW v => .bus ⟨.write, 0xFFFFF130#32, 4, v⟩
  | .aicSpuR => .bus ⟨.read, 0xFFFFF134#32, 4, 0#32⟩
  | .aicSpuW v => .bus ⟨.write, 0xFFFFF134#32, 4, v⟩
  | .aicDcrR => .bus ⟨.read, 0xFFFFF138#32, 4, 0#32⟩
  | .aicDcrW v => .bus ⟨.write, 0xFFFFF138#32, 4, v⟩
  | .aicFferW v => .bus ⟨.write, 0xFFFFF140#32, 4, v⟩
  | .aicFfdrW v => .bus ⟨.write, 0xFFFFF144#32, 4, v⟩
  | .aicFfsrR => .bus ⟨.read, 0xFFFFF148#32, 4, 0#32⟩
  | .usart0CrW v => .bus ⟨.write, 0xFFFB0000#32, 4, v⟩
  | .usart0MrR => .bus ⟨.read, 0xFFFB0004#32, 4, 0#32⟩
  | .usart0MrW v => .bus ⟨.write, 0xFFFB0004#32, 4, v⟩
  | .usart0IerW v => .bus ⟨.write, 0xFFFB0008#32, 4, v⟩
  | .usart0IdrW v => .bus ⟨.write, 0xFFFB000C#32, 4, v⟩
  | .usart0ImrR => .bus ⟨.read, 0xFFFB0010#32, 4, 0#32⟩
  | .usart0CsrR => .bus ⟨.read, 0xFFFB0014#32, 4, 0#32⟩
  | .usart0RhrR => .bus ⟨.read, 0xFFFB0018#32, 4, 0#32⟩
  | .usart0ThrW v => .bus ⟨.write, 0xFFFB001C#32, 4, v⟩
  | .usart0BrgrR => .bus ⟨.read, 0xFFFB0020#32, 4, 0#32⟩
  | .usart0BrgrW v => .bus ⟨.write, 0xFFFB0020#32, 4, v⟩
  | .usart0RtorR => .bus ⟨.read, 0xFFFB0024#32, 4, 0#32⟩
  | .usart0RtorW v => .bus ⟨.write, 0xFFFB0024#32, 4, v⟩
  | .usart0TtgrR => .bus ⟨.read, 0xFFFB0028#32, 4, 0#32⟩
  | .usart0TtgrW v => .bus ⟨.write, 0xFFFB0028#32, 4, v⟩
  | .usart0FidiR => .bus ⟨.read, 0xFFFB0040#32, 4, 0#32⟩
  | .usart0FidiW v => .bus ⟨.write, 0xFFFB0040#32, 4, v⟩
  | .usart0NerR => .bus ⟨.read, 0xFFFB0044#32, 4, 0#32⟩
  | .usart0IfR => .bus ⟨.read, 0xFFFB004C#32, 4, 0#32⟩
  | .usart0IfW v => .bus ⟨.write, 0xFFFB004C#32, 4, v⟩
  | .usart0ManR => .bus ⟨.read, 0xFFFB0050#32, 4, 0#32⟩
  | .usart0ManW v => .bus ⟨.write, 0xFFFB0050#32, 4, v⟩
  | .usart0RprR => .bus ⟨.read, 0xFFFB0100#32, 4, 0#32⟩
  | .usart0RprW v => .bus ⟨.write, 0xFFFB0100#32, 4, v⟩
  | .usart0RcrR => .bus ⟨.read, 0xFFFB0104#32, 4, 0#32⟩
  | .usart0RcrW v => .bus ⟨.write, 0xFFFB0104#32, 4, v⟩
  | .usart0TprR => .bus ⟨.read, 0xFFFB0108#32, 4, 0#32⟩
  | .usart0TprW v => .bus ⟨.write, 0xFFFB0108#32, 4, v⟩
  | .usart0TcrR => .bus ⟨.read, 0xFFFB010C#32, 4, 0#32⟩
  | .usart0TcrW v => .bus ⟨.write, 0xFFFB010C#32, 4, v⟩
  | .usart0RnprR => .bus ⟨.read, 0xFFFB0110#32, 4, 0#32⟩
  | .usart0RnprW v => .bus ⟨.write, 0xFFFB0110#32, 4, v⟩
  | .usart0RncrR => .bus ⟨.read, 0xFFFB0114#32, 4, 0#32⟩
  | .usart0RncrW v => .bus ⟨.write, 0xFFFB0114#32, 4, v⟩
  | .usart0TnprR => .bus ⟨.read, 0xFFFB0118#32, 4, 0#32⟩
  | .usart0TnprW v => .bus ⟨.write, 0xFFFB0118#32, 4, v⟩
  | .usart0TncrR => .bus ⟨.read, 0xFFFB011C#32, 4, 0#32⟩
  | .usart0TncrW v => .bus ⟨.write, 0xFFFB011C#32, 4, v⟩
  | .usart0PtcrW v => .bus ⟨.write, 0xFFFB0120#32, 4, v⟩
  | .usart0PtsrR => .bus ⟨.read, 0xFFFB0124#32, 4, 0#32⟩
  | .usart1CrW v => .bus ⟨.write, 0xFFFB4000#32, 4, v⟩
  | .usart1MrR => .bus ⟨.read, 0xFFFB4004#32, 4, 0#32⟩
  | .usart1MrW v => .bus ⟨.write, 0xFFFB4004#32, 4, v⟩
  | .usart1IerW v => .bus ⟨.write, 0xFFFB4008#32, 4, v⟩
  | .usart1IdrW v => .bus ⟨.write, 0xFFFB400C#32, 4, v⟩
  | .usart1ImrR => .bus ⟨.read, 0xFFFB4010#32, 4, 0#32⟩
  | .usart1CsrR => .bus ⟨.read, 0xFFFB4014#32, 4, 0#32⟩
  | .usart1RhrR => .bus ⟨.read, 0xFFFB4018#32, 4, 0#32⟩
  | .usart1ThrW v => .bus ⟨.write, 0xFFFB401C#32, 4, v⟩
  | .usart1BrgrR => .bus ⟨.read, 0xFFFB4020#32, 4, 0#32⟩
  | .usart1BrgrW v => .bus ⟨.write, 0xFFFB4020#32, 4, v⟩
  | .usart1RtorR => .bus ⟨.read, 0xFFFB4024#32, 4, 0#32⟩
  | .usart1RtorW v => .bus ⟨.write, 0xFFFB4024#32, 4, v⟩
  | .usart1TtgrR => .bus ⟨.read, 0xFFFB4028#32, 4, 0#32⟩
  | .usart1TtgrW v => .bus ⟨.write, 0xFFFB4028#32, 4, v⟩
  | .usart1FidiR => .bus ⟨.read, 0xFFFB4040#32, 4, 0#32⟩
  | .usart1FidiW v => .bus ⟨.write, 0xFFFB4040#32, 4, v⟩
  | .usart1NerR => .bus ⟨.read, 0xFFFB4044#32, 4, 0#32⟩
  | .usart1IfR => .bus ⟨.read, 0xFFFB404C#32, 4, 0#32⟩
  | .usart1IfW v => .bus ⟨.write, 0xFFFB404C#32, 4, v⟩
  | .usart1ManR => .bus ⟨.read, 0xFFFB4050#32, 4, 0#32⟩
  | .usart1ManW v => .bus ⟨.write, 0xFFFB4050#32, 4, v⟩
  | .usart1RprR => .bus ⟨.read, 0xFFFB4100#32, 4, 0#32⟩
  | .usart1RprW v => .bus ⟨.write, 0xFFFB4100#32, 4, v⟩
  | .usart1RcrR => .bus ⟨.read, 0xFFFB4104#32, 4, 0#32⟩
  | .usart1RcrW v => .bus ⟨.write, 0xFFFB4104#32, 4, v⟩
  | .usart1TprR => .bus ⟨.read, 0xFFFB4108#32, 4, 0#32⟩
  | .usart1TprW v => .bus ⟨.write, 0xFFFB4108#32, 4, v⟩
  | .usart1TcrR => .bus ⟨.read, 0xFFFB410C#32, 4, 0#32⟩
  | .usart1TcrW v => .bus ⟨.write, 0xFFFB410C#32, 4, v⟩
  | .usart1RnprR => .bus ⟨.read, 0xFFFB4110#32, 4, 0#32⟩
  | .usart1RnprW v => .bus ⟨.write, 0xFFFB4110#32, 4, v⟩
  | .usart1RncrR => .bus ⟨.read, 0xFFFB4114#32, 4, 0#32⟩
  | .usart1RncrW v => .bus ⟨.write, 0xFFFB4114#32, 4, v⟩
  | .usart1TnprR => .bus ⟨.read, 0xFFFB4118#32, 4, 0#32⟩
  | .usart1TnprW v => .bus ⟨.write, 0xFFFB4118#32, 4, v⟩
  | .usart1TncrR => .bus ⟨.read, 0xFFFB411C#32, 4, 0#32⟩
  | .usart1TncrW v => .bus ⟨.write, 0xFFFB411C#32, 4, v⟩
  | .usart1PtcrW v => .bus ⟨.write, 0xFFFB4120#32, 4, v⟩
  | .usart1PtsrR => .bus ⟨.read, 0xFFFB4124#32, 4, 0#32⟩
  | .usart2CrW v => .bus ⟨.write, 0xFFFB8000#32, 4, v⟩
  | .usart2MrR => .bus ⟨.read, 0xFFFB8004#32, 4, 0#32⟩
  | .usart2MrW v => .bus ⟨.write, 0xFFFB8004#32, 4, v⟩
  | .usart2IerW v => .bus ⟨.write, 0xFFFB8008#32, 4, v⟩
  | .usart2IdrW v => .bus ⟨.write, 0xFFFB800C#32, 4, v⟩
  | .usart2ImrR => .bus ⟨.read, 0xFFFB8010#32, 4, 0#32⟩
  | .usart2CsrR => .bus ⟨.read, 0xFFFB8014#32, 4, 0#32⟩
  | .usart2RhrR => .bus ⟨.read, 0xFFFB8018#32, 4, 0#32⟩
  | .usart2ThrW v => .bus ⟨.write, 0xFFFB801C#32, 4, v⟩
  | .usart2BrgrR => .bus ⟨.read, 0xFFFB8020#32, 4, 0#32⟩
  | .usart2BrgrW v => .bus ⟨.write, 0xFFFB8020#32, 4, v⟩
  | .usart2RtorR => .bus ⟨.read, 0xFFFB8024#32, 4, 0#32⟩
  | .usart2RtorW v => .bus ⟨.write, 0xFFFB8024#32, 4, v⟩
  | .usart2TtgrR => .bus ⟨.read, 0xFFFB8028#32, 4, 0#32⟩
  | .usart2TtgrW v => .bus ⟨.write, 0xFFFB8028#32, 4, v⟩
  | .usart2FidiR => .bus ⟨.read, 0xFFFB8040#32, 4, 0#32⟩
  | .usart2FidiW v => .bus ⟨.write, 0xFFFB8040#32, 4, v⟩
  | .usart2NerR => .bus ⟨.read, 0xFFFB8044#32, 4, 0#32⟩
  | .usart2IfR => .bus ⟨.read, 0xFFFB804C#32, 4, 0#32⟩
  | .usart2IfW v => .bus ⟨.write, 0xFFFB804C#32, 4, v⟩
  | .usart2ManR => .bus ⟨.read, 0xFFFB8050#32, 4, 0#32⟩
  | .usart2ManW v => .bus ⟨.write, 0xFFFB8050#32, 4, v⟩
  | .usart2RprR => .bus ⟨.read, 0xFFFB8100#32, 4, 0#32⟩
  | .usart2RprW v => .bus ⟨.write, 0xFFFB8100#32, 4, v⟩
  | .usart2RcrR => .bus ⟨.read, 0xFFFB8104#32, 4, 0#32⟩
  | .usart2RcrW v => .bus ⟨.write, 0xFFFB8104#32, 4, v⟩
  | .usart2TprR => .bus ⟨.read, 0xFFFB8108#32, 4, 0#32⟩
  | .usart2TprW v => .bus ⟨.write, 0xFFFB8108#32, 4, v⟩
  | .usart2TcrR => .bus ⟨.read, 0xFFFB810C#32, 4, 0#32⟩
  | .usart2TcrW v => .bus ⟨.write, 0xFFFB810C#32, 4, v⟩
  | .usart2RnprR => .bus ⟨.read, 0xFFFB8110#32, 4, 0#32⟩
  | .usart2RnprW v => .bus ⟨.write, 0xFFFB8110#32, 4, v⟩
  | .usart2RncrR => .bus ⟨.read, 0xFFFB8114#32, 4, 0#32⟩
  | .usart2RncrW v => .bus ⟨.write, 0xFFFB8114#32, 4, v⟩
  | .usart2TnprR => .bus ⟨.read, 0xFFFB8118#32, 4, 0#32⟩
  | .usart2TnprW v => .bus ⟨.write, 0xFFFB8118#32, 4, v⟩
  | .usart2TncrR => .bus ⟨.read, 0xFFFB811C#32, 4, 0#32⟩
  | .usart2TncrW v => .bus ⟨.write, 0xFFFB811C#32, 4, v⟩
  | .usart2PtcrW v => .bus ⟨.write, 0xFFFB8120#32, 4, v⟩
  | .usart2PtsrR => .bus ⟨.read, 0xFFFB8124#32, 4, 0#32⟩
  | .usart3CrW v => .bus ⟨.write, 0xFFFD0000#32, 4, v⟩
  | .usart3MrR => .bus ⟨.read, 0xFFFD0004#32, 4, 0#32⟩
  | .usart3MrW v => .bus ⟨.write, 0xFFFD0004#32, 4, v⟩
  | .usart3IerW v => .bus ⟨.write, 0xFFFD0008#32, 4, v⟩
  | .usart3IdrW v => .bus ⟨.write, 0xFFFD000C#32, 4, v⟩
  | .usart3ImrR => .bus ⟨.read, 0xFFFD0010#32, 4, 0#32⟩
  | .usart3CsrR => .bus ⟨.read, 0xFFFD0014#32, 4, 0#32⟩
  | .usart3RhrR => .bus ⟨.read, 0xFFFD0018#32, 4, 0#32⟩
  | .usart3ThrW v => .bus ⟨.write, 0xFFFD001C#32, 4, v⟩
  | .usart3BrgrR => .bus ⟨.read, 0xFFFD0020#32, 4, 0#32⟩
  | .usart3BrgrW v => .bus ⟨.write, 0xFFFD0020#32, 4, v⟩
  | .usart3RtorR => .bus ⟨.read, 0xFFFD0024#32, 4, 0#32⟩
  | .usart3RtorW v => .bus ⟨.write, 0xFFFD0024#32, 4, v⟩
  | .usart3TtgrR => .bus ⟨.read, 0xFFFD0028#32, 4, 0#32⟩
  | .usart3TtgrW v => .bus ⟨.write, 0xFFFD0028#32, 4, v⟩
  | .usart3FidiR => .bus ⟨.read, 0xFFFD0040#32, 4, 0#32⟩
  | .usart3FidiW v => .bus ⟨.write, 0xFFFD0040#32, 4, v⟩
  | .usart3NerR => .bus ⟨.read, 0xFFFD0044#32, 4, 0#32⟩
  | .usart3IfR => .bus ⟨.read, 0xFFFD004C#32, 4, 0#32⟩
  | .usart3IfW v => .bus ⟨.write, 0xFFFD004C#32, 4, v⟩
  | .usart3ManR => .bus ⟨.read, 0xFFFD0050#32, 4, 0#32⟩
  | .usart3ManW v => .bus ⟨.write, 0xFFFD0050#32, 4, v⟩
  | .usart3RprR => .bus ⟨.read, 0xFFFD0100#32, 4, 0#32⟩
  | .usart3RprW v => .bus ⟨.write, 0xFFFD0100#32, 4, v⟩
  | .usart3RcrR => .bus ⟨.read, 0xFFFD0104#32, 4, 0#32⟩
  | .usart3RcrW v => .bus ⟨.write, 0xFFFD0104#32, 4, v⟩
  | .usart3TprR => .bus ⟨.read, 0xFFFD0108#32, 4, 0#32⟩
  | .usart3TprW v => .bus ⟨.write, 0xFFFD0108#32, 4, v⟩
  | .usart3TcrR => .bus ⟨.read, 0xFFFD010C#32, 4, 0#32⟩
  | .usart3TcrW v => .bus ⟨.write, 0xFFFD010C#32, 4, v⟩
  | .usart3RnprR => .bus ⟨.read, 0xFFFD0110#32, 4, 0#32⟩
  | .usart3RnprW v => .bus ⟨.write, 0xFFFD0110#32, 4, v⟩
  | .usart3RncrR => .bus ⟨.read, 0xFFFD0114#32, 4, 0#32⟩
  | .usart3RncrW v => .bus ⟨.write, 0xFFFD0114#32, 4, v⟩
  | .usart3TnprR => .bus ⟨.read, 0xFFFD0118#32, 4, 0#32⟩
  | .usart3TnprW v => .bus ⟨.write, 0xFFFD0118#32, 4, v⟩
  | .usart3TncrR => .bus ⟨.read, 0xFFFD011C#32, 4, 0#32⟩
  | .usart3TncrW v => .bus ⟨.write, 0xFFFD011C#32, 4, v⟩
  | .usart3PtcrW v => .bus ⟨.write, 0xFFFD0120#32, 4, v⟩
  | .usart3PtsrR => .bus ⟨.read, 0xFFFD0124#32, 4, 0#32⟩
  | .usart4CrW v => .bus ⟨.write, 0xFFFD4000#32, 4, v⟩
  | .usart4MrR => .bus ⟨.read, 0xFFFD4004#32, 4, 0#32⟩
  | .usart4MrW v => .bus ⟨.write, 0xFFFD4004#32, 4, v⟩
  | .usart4IerW v => .bus ⟨.write, 0xFFFD4008#32, 4, v⟩
  | .usart4IdrW v => .bus ⟨.write, 0xFFFD400C#32, 4, v⟩
  | .usart4ImrR => .bus ⟨.read, 0xFFFD4010#32, 4, 0#32⟩
  | .usart4CsrR => .bus ⟨.read, 0xFFFD4014#32, 4, 0#32⟩
  | .usart4RhrR => .bus ⟨.read, 0xFFFD4018#32, 4, 0#32⟩
  | .usart4ThrW v => .bus ⟨.write, 0xFFFD401C#32, 4, v⟩
  | .usart4BrgrR => .bus ⟨.read, 0xFFFD4020#32, 4, 0#32⟩
  | .usart4BrgrW v => .bus ⟨.write, 0xFFFD4020#32, 4, v⟩
  | .usart4RtorR => .bus ⟨.read, 0xFFFD4024#32, 4, 0#32⟩
  | .usart4RtorW v => .bus ⟨.write, 0xFFFD4024#32, 4, v⟩
  | .usart4TtgrR => .bus ⟨.read, 0xFFFD4028#32, 4, 0#32⟩
  | .usart4TtgrW v => .bus ⟨.write, 0xFFFD4028#32, 4, v⟩
  | .usart4FidiR => .bus ⟨.read, 0xFFFD4040#32, 4, 0#32⟩
  | .usart4FidiW v => .bus ⟨.write, 0xFFFD4040#32, 4, v⟩
  | .usart4NerR => .bus ⟨.read, 0xFFFD4044#32, 4, 0#32⟩
  | .usart4IfR => .bus ⟨.read, 0xFFFD404C#32, 4, 0#32⟩
  | .usart4IfW v => .bus ⟨.write, 0xFFFD404C#32, 4, v⟩
  | .usart4ManR => .bus ⟨.read, 0xFFFD4050#32, 4, 0#32⟩
  | .usart4ManW v => .bus ⟨.write, 0xFFFD4050#32, 4, v⟩
  | .usart4RprR => .bus ⟨.read, 0xFFFD4100#32, 4, 0#32⟩
  | .usart4RprW v => .bus ⟨.write, 0xFFFD4100#32, 4, v⟩
  | .usart4RcrR => .bus ⟨.read, 0xFFFD4104#32, 4, 0#32⟩
  | .usart4RcrW v => .bus ⟨.write, 0xFFFD4104#32, 4, v⟩
  | .usart4TprR => .bus ⟨.read, 0xFFFD4108#32, 4, 0#32⟩
  | .usart4TprW v => .bus ⟨.write, 0xFFFD4108#32, 4, v⟩
  | .usart4TcrR => .bus ⟨.read, 0xFFFD410C#32, 4, 0#32⟩
  | .usart4TcrW v => .bus ⟨.write, 0xFFFD410C#32, 4, v⟩
  | .usart4RnprR => .bus ⟨.read, 0xFFFD4110#32, 4, 0#32⟩
  | .usart4RnprW v => .bus ⟨.write, 0xFFFD4110#32, 4, v⟩
  | .usart4RncrR => .bus ⟨.read, 0xFFFD4114#32, 4, 0#32⟩
  | .usart4RncrW v => .bus ⟨.write, 0xFFFD4114#32, 4, v⟩
  | .usart4TnprR => .bus ⟨.read, 0xFFFD4118#32, 4, 0#32⟩
  | .usart4TnprW v => .bus ⟨.write, 0xFFFD4118#32, 4, v⟩
  | .usart4TncrR => .bus ⟨.read, 0xFFFD411C#32, 4, 0#32⟩
  | .usart4TncrW v => .bus ⟨.write, 0xFFFD411C#32, 4, v⟩
  | .usart4PtcrW v => .bus ⟨.write, 0xFFFD4120#32, 4, v⟩
  | .usart4PtsrR => .bus ⟨.read, 0xFFFD4124#32, 4, 0#32⟩
  | .usart5CrW v => .bus ⟨.write, 0xFFFD8000#32, 4, v⟩
  | .usart5MrR => .bus ⟨.read, 0xFFFD8004#32, 4, 0#32⟩
  | .usart5MrW v => .bus ⟨.write, 0xFFFD8004#32, 4, v⟩
  | .usart5IerW v => .bus ⟨.write, 0xFFFD8008#32, 4, v⟩
  | .usart5IdrW v => .bus ⟨.write, 0xFFFD800C#32, 4, v⟩
  | .usart5ImrR => .bus ⟨.read, 0xFFFD8010#32, 4, 0#32⟩
  | .usart5CsrR => .bus ⟨.read, 0xFFFD8014#32, 4, 0#32⟩
  | .usart5RhrR => .bus ⟨.read, 0xFFFD8018#32, 4, 0#32⟩
  | .usart5ThrW v => .bus ⟨.write, 0xFFFD801C#32, 4, v⟩
  | .usart5BrgrR => .bus ⟨.read, 0xFFFD8020#32, 4, 0#32⟩
  | .usart5BrgrW v => .bus ⟨.write, 0xFFFD8020#32, 4, v⟩
  | .usart5RtorR => .bus ⟨.read, 0xFFFD8024#32, 4, 0#32⟩
  | .usart5RtorW v => .bus ⟨.write, 0xFFFD8024#32, 4, v⟩
  | .usart5TtgrR => .bus ⟨.read, 0xFFFD8028#32, 4, 0#32⟩
  | .usart5TtgrW v => .bus ⟨.write, 0xFFFD8028#32, 4, v⟩
  | .usart5FidiR => .bus ⟨.read, 0xFFFD8040#32, 4, 0#32⟩
  | .usart5FidiW v => .bus ⟨.write, 0xFFFD8040#32, 4, v⟩
  | .usart5NerR => .bus ⟨.read, 0xFFFD8044#32, 4, 0#32⟩
  | .usart5IfR => .bus ⟨.read, 0xFFFD804C#32, 4, 0#32⟩
  | .usart5IfW v => .bus ⟨.write, 0xFFFD804C#32, 4, v⟩
  | .usart5ManR => .bus ⟨.read, 0xFFFD8050#32, 4, 0#32⟩
  | .usart5ManW v => .bus ⟨.write, 0xFFFD8050#32, 4, v⟩
  | .usart5RprR => .bus ⟨.read, 0xFFFD8100#32, 4, 0#32⟩
  | .usart5RprW v => .bus ⟨.write, 0xFFFD8100#32, 4, v⟩
  | .usart5RcrR => .bus ⟨.read, 0xFFFD8104#32, 4, 0#32⟩
  | .usart5RcrW v => .bus ⟨.write, 0xFFFD8104#32, 4, v⟩
  | .usart5TprR => .bus ⟨.read, 0xFFFD8108#32, 4, 0#32⟩
  | .usart5TprW v => .bus ⟨.write, 0xFFFD8108#32, 4, v⟩
  | .usart5TcrR => .bus ⟨.read, 0xFFFD810C#32, 4, 0#32⟩
  | .usart5TcrW v => .bus ⟨.write, 0xFFFD810C#32, 4, v⟩
  | .usart5RnprR => .bus ⟨.read, 0xFFFD8110#32, 4, 0#32⟩
  | .usart5RnprW v => .bus ⟨.write, 0xFFFD8110#32, 4, v⟩
  | .usart5RncrR => .bus ⟨.read, 0xFFFD8114#32, 4, 0#32⟩
  | .usart5RncrW v => .bus ⟨.write, 0xFFFD8114#32, 4, v⟩
  | .usart5TnprR => .bus ⟨.read, 0xFFFD8118#32, 4, 0#32⟩
  | .usart5TnprW v => .bus ⟨.write, 0xFFFD8118#32, 4, v⟩
  | .usart5TncrR => .bus ⟨.read, 0xFFFD811C#32, 4, 0#32⟩
  | .usart5TncrW v => .bus ⟨.write, 0xFFFD811C#32, 4, v⟩
  | .usart5PtcrW v => .bus ⟨.write, 0xFFFD8120#32, 4, v⟩
  | .usart5PtsrR => .bus ⟨.read, 0xFFFD8124#32, 4, 0#32⟩
  | .spi0CrW v => .bus ⟨.write, 0xFFFC8000#32, 4, v⟩
  | .spi0MrR => .bus ⟨.read, 0xFFFC8004#32, 4, 0#32⟩
  | .spi0MrW v => .bus ⟨.write, 0xFFFC8004#32, 4, v⟩
  | .spi0RdrR => .bus ⟨.read, 0xFFFC8008#32, 4, 0#32⟩
  | .spi0TdrW v => .bus ⟨.write, 0xFFFC800C#32, 4, v⟩
  | .spi0SrR => .bus ⟨.read, 0xFFFC8010#32, 4, 0#32⟩
  | .spi0IerW v => .bus ⟨.write, 0xFFFC8014#32, 4, v⟩
  | .spi0IdrW v => .bus ⟨.write, 0xFFFC8018#32, 4, v⟩
  | .spi0ImrR => .bus ⟨.read, 0xFFFC801C#32, 4, 0#32⟩
  | .spi0CsrR k => .bus ⟨.read, (0xFFFC8030#32 + BitVec.ofNat 32 (4 * k.val)), 4, 0#32⟩
  | .spi0CsrW k v => .bus ⟨.write, (0xFFFC8030#32 + BitVec.ofNat 32 (4 * k.val)), 4, v⟩
  | .spi0RprR => .bus ⟨.read, 0xFFFC8100#32, 4, 0#32⟩
  | .spi0RprW v => .bus ⟨.write, 0xFFFC8100#32, 4, v⟩
  | .spi0RcrR => .bus ⟨.read, 0xFFFC8104#32, 4, 0#32⟩
  | .spi0RcrW v => .bus ⟨.write, 0xFFFC8104#32, 4, v⟩
  | .spi0TprR => .bus ⟨.read, 0xFFFC8108#32, 4, 0#32⟩
  | .spi0TprW v => .bus ⟨.write, 0xFFFC8108#32, 4, v⟩
  | .spi0TcrR => .bus ⟨.read, 0xFFFC810C#32, 4, 0#32⟩
  | .spi0TcrW v => .bus ⟨.write, 0xFFFC810C#32, 4, v⟩
  | .spi0RnprR => .bus ⟨.read, 0xFFFC8110#32, 4, 0#32⟩
  | .spi0RnprW v => .bus ⟨.write, 0xFFFC8110#32, 4, v⟩
  | .spi0RncrR => .bus ⟨.read, 0xFFFC8114#32, 4, 0#32⟩
  | .spi0RncrW v => .bus ⟨.write, 0xFFFC8114#32, 4, v⟩
  | .spi0TnprR => .bus ⟨.read, 0xFFFC8118#32, 4, 0#32⟩
  | .spi0TnprW v => .bus ⟨.write, 0xFFFC8118#32, 4, v⟩
  | .spi0TncrR => .bus ⟨.read, 0xFFFC811C#32, 4, 0#32⟩
  | .spi0TncrW v => .bus ⟨.write, 0xFFFC811C#32, 4, v⟩
  | .spi0PtcrW v => .bus ⟨.write, 0xFFFC8120#32, 4, v⟩
  | .spi0PtsrR => .bus ⟨.read, 0xFFFC8124#32, 4, 0#32⟩
  | .spi1CrW v => .bus ⟨.write, 0xFFFCC000#32, 4, v⟩
  | .spi1MrR => .bus ⟨.read, 0xFFFCC004#32, 4, 0#32⟩
  | .spi1MrW v => .bus ⟨.write, 0xFFFCC004#32, 4, v⟩
  | .spi1RdrR => .bus ⟨.read, 0xFFFCC008#32, 4, 0#32⟩
  | .spi1TdrW v => .bus ⟨.write, 0xFFFCC00C#32, 4, v⟩
  | .spi1SrR => .bus ⟨.read, 0xFFFCC010#32, 4, 0#32⟩
  | .spi1IerW v => .bus ⟨.write, 0xFFFCC014#32, 4, v⟩
  | .spi1IdrW v => .bus ⟨.write, 0xFFFCC018#32, 4, v⟩
  | .spi1ImrR => .bus ⟨.read, 0xFFFCC01C#32, 4, 0#32⟩
  | .spi1CsrR k => .bus ⟨.read, (0xFFFCC030#32 + BitVec.ofNat 32 (4 * k.val)), 4, 0#32⟩
  | .spi1CsrW k v => .bus ⟨.write, (0xFFFCC030#32 + BitVec.ofNat 32 (4 * k.val)), 4, v⟩
  | .spi1RprR => .bus ⟨.read, 0xFFFCC100#32, 4, 0#32⟩
  | .spi1RprW v => .bus ⟨.write, 0xFFFCC100#32, 4, v⟩
  | .spi1RcrR => .bus ⟨.read, 0xFFFCC104#32, 4, 0#32⟩
  | .spi1RcrW v => .bus ⟨.write, 0xFFFCC104#32, 4, v⟩
  | .spi1TprR => .bus ⟨.read, 0xFFFCC108#32, 4, 0#32⟩
  | .spi1TprW v => .bus ⟨.write, 0xFFFCC108#32, 4, v⟩
  | .spi1TcrR => .bus ⟨.read, 0xFFFCC10C#32, 4, 0#32⟩
  | .spi1TcrW v => .bus ⟨.write, 0xFFFCC10C#32, 4, v⟩
  | .spi1RnprR => .bus ⟨.read, 0xFFFCC110#32, 4, 0#32⟩
  | .spi1RnprW v => .bus ⟨.write, 0xFFFCC110#32, 4, v⟩
  | .spi1RncrR => .bus ⟨.read, 0xFFFCC114#32, 4, 0#32⟩
  | .spi1RncrW v => .bus ⟨.write, 0xFFFCC114#32, 4, v⟩
  | .spi1TnprR => .bus ⟨.read, 0xFFFCC118#32, 4, 0#32⟩
  | .spi1TnprW v => .bus ⟨.write, 0xFFFCC118#32, 4, v⟩
  | .spi1TncrR => .bus ⟨.read, 0xFFFCC11C#32, 4, 0#32⟩
  | .spi1TncrW v => .bus ⟨.write, 0xFFFCC11C#32, 4, v⟩
  | .spi1PtcrW v => .bus ⟨.write, 0xFFFCC120#32, 4, v⟩
  | .spi1PtsrR => .bus ⟨.read, 0xFFFCC124#32, 4, 0#32⟩
  | .twiCrW v => .bus ⟨.write, 0xFFFAC000#32, 4, v⟩
  | .twiMmrR => .bus ⟨.read, 0xFFFAC004#32, 4, 0#32⟩
  | .twiMmrW v => .bus ⟨.write, 0xFFFAC004#32, 4, v⟩
  | .twiSmrR => .bus ⟨.read, 0xFFFAC008#32, 4, 0#32⟩
  | .twiSmrW v => .bus ⟨.write, 0xFFFAC008#32, 4, v⟩
  | .twiIadrR => .bus ⟨.read, 0xFFFAC00C#32, 4, 0#32⟩
  | .twiIadrW v => .bus ⟨.write, 0xFFFAC00C#32, 4, v⟩
  | .twiCwgrR => .bus ⟨.read, 0xFFFAC010#32, 4, 0#32⟩
  | .twiCwgrW v => .bus ⟨.write, 0xFFFAC010#32, 4, v⟩
  | .twiSrR => .bus ⟨.read, 0xFFFAC020#32, 4, 0#32⟩
  | .twiIerW v => .bus ⟨.write, 0xFFFAC024#32, 4, v⟩
  | .twiIdrW v => .bus ⟨.write, 0xFFFAC028#32, 4, v⟩
  | .twiImrR => .bus ⟨.read, 0xFFFAC02C#32, 4, 0#32⟩
  | .twiRhrR => .bus ⟨.read, 0xFFFAC030#32, 4, 0#32⟩
  | .twiThrW v => .bus ⟨.write, 0xFFFAC034#32, 4, v⟩
  | .twiRprR => .bus ⟨.read, 0xFFFAC100#32, 4, 0#32⟩
  | .twiRprW v => .bus ⟨.write, 0xFFFAC100#32, 4, v⟩
  | .twiRcrR => .bus ⟨.read, 0xFFFAC104#32, 4, 0#32⟩
  | .twiRcrW v => .bus ⟨.write, 0xFFFAC104#32, 4, v⟩
  | .twiTprR => .bus ⟨.read, 0xFFFAC108#32, 4, 0#32⟩
  | .twiTprW v => .bus ⟨.write, 0xFFFAC108#32, 4, v⟩
  | .twiTcrR => .bus ⟨.read, 0xFFFAC10C#32, 4, 0#32⟩
  | .twiTcrW v => .bus ⟨.write, 0xFFFAC10C#32, 4, v⟩
  | .twiRnprR => .bus ⟨.read, 0xFFFAC110#32, 4, 0#32⟩
  | .twiRnprW v => .bus ⟨.write, 0xFFFAC110#32, 4, v⟩
  | .twiRncrR => .bus ⟨.read, 0xFFFAC114#32, 4, 0#32⟩
  | .twiRncrW v => .bus ⟨.write, 0xFFFAC114#32, 4, v⟩
  | .twiTnprR => .bus ⟨.read, 0xFFFAC118#32, 4, 0#32⟩
  | .twiTnprW v => .bus ⟨.write, 0xFFFAC118#32, 4, v⟩
  | .twiTncrR => .bus ⟨.read, 0xFFFAC11C#32, 4, 0#32⟩
  | .twiTncrW v => .bus ⟨.write, 0xFFFAC11C#32, 4, v⟩
  | .twiPtcrW v => .bus ⟨.write, 0xFFFAC120#32, 4, v⟩
  | .twiPtsrR => .bus ⟨.read, 0xFFFAC124#32, 4, 0#32⟩
  | .mciCrW v => .bus ⟨.write, 0xFFFA8000#32, 4, v⟩
  | .mciMrR => .bus ⟨.read, 0xFFFA8004#32, 4, 0#32⟩
  | .mciMrW v => .bus ⟨.write, 0xFFFA8004#32, 4, v⟩
  | .mciDtorR => .bus ⟨.read, 0xFFFA8008#32, 4, 0#32⟩
  | .mciDtorW v => .bus ⟨.write, 0xFFFA8008#32, 4, v⟩
  | .mciSdcrR => .bus ⟨.read, 0xFFFA800C#32, 4, 0#32⟩
  | .mciSdcrW v => .bus ⟨.write, 0xFFFA800C#32, 4, v⟩
  | .mciArgrR => .bus ⟨.read, 0xFFFA8010#32, 4, 0#32⟩
  | .mciArgrW v => .bus ⟨.write, 0xFFFA8010#32, 4, v⟩
  | .mciCmdrW v => .bus ⟨.write, 0xFFFA8014#32, 4, v⟩
  | .mciBlkrR => .bus ⟨.read, 0xFFFA8018#32, 4, 0#32⟩
  | .mciBlkrW v => .bus ⟨.write, 0xFFFA8018#32, 4, v⟩
  | .mciRsprR k => .bus ⟨.read, (0xFFFA8020#32 + BitVec.ofNat 32 (4 * k.val)), 4, 0#32⟩
  | .mciRdrR => .bus ⟨.read, 0xFFFA8030#32, 4, 0#32⟩
  | .mciTdrW v => .bus ⟨.write, 0xFFFA8034#32, 4, v⟩
  | .mciSrR => .bus ⟨.read, 0xFFFA8040#32, 4, 0#32⟩
  | .mciIerW v => .bus ⟨.write, 0xFFFA8044#32, 4, v⟩
  | .mciIdrW v => .bus ⟨.write, 0xFFFA8048#32, 4, v⟩
  | .mciImrR => .bus ⟨.read, 0xFFFA804C#32, 4, 0#32⟩
  | .mciRprR => .bus ⟨.read, 0xFFFA8100#32, 4, 0#32⟩
  | .mciRprW v => .bus ⟨.write, 0xFFFA8100#32, 4, v⟩
  | .mciRcrR => .bus ⟨.read, 0xFFFA8104#32, 4, 0#32⟩
  | .mciRcrW v => .bus ⟨.write, 0xFFFA8104#32, 4, v⟩
  | .mciTprR => .bus ⟨.read, 0xFFFA8108#32, 4, 0#32⟩
  | .mciTprW v => .bus ⟨.write, 0xFFFA8108#32, 4, v⟩
  | .mciTcrR => .bus ⟨.read, 0xFFFA810C#32, 4, 0#32⟩
  | .mciTcrW v => .bus ⟨.write, 0xFFFA810C#32, 4, v⟩
  | .mciRnprR => .bus ⟨.read, 0xFFFA8110#32, 4, 0#32⟩
  | .mciRnprW v => .bus ⟨.write, 0xFFFA8110#32, 4, v⟩
  | .mciRncrR => .bus ⟨.read, 0xFFFA8114#32, 4, 0#32⟩
  | .mciRncrW v => .bus ⟨.write, 0xFFFA8114#32, 4, v⟩
  | .mciTnprR => .bus ⟨.read, 0xFFFA8118#32, 4, 0#32⟩
  | .mciTnprW v => .bus ⟨.write, 0xFFFA8118#32, 4, v⟩
  | .mciTncrR => .bus ⟨.read, 0xFFFA811C#32, 4, 0#32⟩
  | .mciTncrW v => .bus ⟨.write, 0xFFFA811C#32, 4, v⟩
  | .mciPtcrW v => .bus ⟨.write, 0xFFFA8120#32, 4, v⟩
  | .mciPtsrR => .bus ⟨.read, 0xFFFA8124#32, 4, 0#32⟩
  | .tcb0Ch0CcrW v => .bus ⟨.write, 0xFFFA0000#32, 4, v⟩
  | .tcb0Ch0CmrR => .bus ⟨.read, 0xFFFA0004#32, 4, 0#32⟩
  | .tcb0Ch0CmrW v => .bus ⟨.write, 0xFFFA0004#32, 4, v⟩
  | .tcb0Ch0CvR => .bus ⟨.read, 0xFFFA0010#32, 4, 0#32⟩
  | .tcb0Ch0RaR => .bus ⟨.read, 0xFFFA0014#32, 4, 0#32⟩
  | .tcb0Ch0RaW v => .bus ⟨.write, 0xFFFA0014#32, 4, v⟩
  | .tcb0Ch0RbR => .bus ⟨.read, 0xFFFA0018#32, 4, 0#32⟩
  | .tcb0Ch0RbW v => .bus ⟨.write, 0xFFFA0018#32, 4, v⟩
  | .tcb0Ch0RcR => .bus ⟨.read, 0xFFFA001C#32, 4, 0#32⟩
  | .tcb0Ch0RcW v => .bus ⟨.write, 0xFFFA001C#32, 4, v⟩
  | .tcb0Ch0SrR => .bus ⟨.read, 0xFFFA0020#32, 4, 0#32⟩
  | .tcb0Ch0IerW v => .bus ⟨.write, 0xFFFA0024#32, 4, v⟩
  | .tcb0Ch0IdrW v => .bus ⟨.write, 0xFFFA0028#32, 4, v⟩
  | .tcb0Ch0ImrR => .bus ⟨.read, 0xFFFA002C#32, 4, 0#32⟩
  | .tcb0Ch1CcrW v => .bus ⟨.write, 0xFFFA0040#32, 4, v⟩
  | .tcb0Ch1CmrR => .bus ⟨.read, 0xFFFA0044#32, 4, 0#32⟩
  | .tcb0Ch1CmrW v => .bus ⟨.write, 0xFFFA0044#32, 4, v⟩
  | .tcb0Ch1CvR => .bus ⟨.read, 0xFFFA0050#32, 4, 0#32⟩
  | .tcb0Ch1RaR => .bus ⟨.read, 0xFFFA0054#32, 4, 0#32⟩
  | .tcb0Ch1RaW v => .bus ⟨.write, 0xFFFA0054#32, 4, v⟩
  | .tcb0Ch1RbR => .bus ⟨.read, 0xFFFA0058#32, 4, 0#32⟩
  | .tcb0Ch1RbW v => .bus ⟨.write, 0xFFFA0058#32, 4, v⟩
  | .tcb0Ch1RcR => .bus ⟨.read, 0xFFFA005C#32, 4, 0#32⟩
  | .tcb0Ch1RcW v => .bus ⟨.write, 0xFFFA005C#32, 4, v⟩
  | .tcb0Ch1SrR => .bus ⟨.read, 0xFFFA0060#32, 4, 0#32⟩
  | .tcb0Ch1IerW v => .bus ⟨.write, 0xFFFA0064#32, 4, v⟩
  | .tcb0Ch1IdrW v => .bus ⟨.write, 0xFFFA0068#32, 4, v⟩
  | .tcb0Ch1ImrR => .bus ⟨.read, 0xFFFA006C#32, 4, 0#32⟩
  | .tcb0Ch2CcrW v => .bus ⟨.write, 0xFFFA0080#32, 4, v⟩
  | .tcb0Ch2CmrR => .bus ⟨.read, 0xFFFA0084#32, 4, 0#32⟩
  | .tcb0Ch2CmrW v => .bus ⟨.write, 0xFFFA0084#32, 4, v⟩
  | .tcb0Ch2CvR => .bus ⟨.read, 0xFFFA0090#32, 4, 0#32⟩
  | .tcb0Ch2RaR => .bus ⟨.read, 0xFFFA0094#32, 4, 0#32⟩
  | .tcb0Ch2RaW v => .bus ⟨.write, 0xFFFA0094#32, 4, v⟩
  | .tcb0Ch2RbR => .bus ⟨.read, 0xFFFA0098#32, 4, 0#32⟩
  | .tcb0Ch2RbW v => .bus ⟨.write, 0xFFFA0098#32, 4, v⟩
  | .tcb0Ch2RcR => .bus ⟨.read, 0xFFFA009C#32, 4, 0#32⟩
  | .tcb0Ch2RcW v => .bus ⟨.write, 0xFFFA009C#32, 4, v⟩
  | .tcb0Ch2SrR => .bus ⟨.read, 0xFFFA00A0#32, 4, 0#32⟩
  | .tcb0Ch2IerW v => .bus ⟨.write, 0xFFFA00A4#32, 4, v⟩
  | .tcb0Ch2IdrW v => .bus ⟨.write, 0xFFFA00A8#32, 4, v⟩
  | .tcb0Ch2ImrR => .bus ⟨.read, 0xFFFA00AC#32, 4, 0#32⟩
  | .tcb0BcrW v => .bus ⟨.write, 0xFFFA00C0#32, 4, v⟩
  | .tcb0BmrR => .bus ⟨.read, 0xFFFA00C4#32, 4, 0#32⟩
  | .tcb0BmrW v => .bus ⟨.write, 0xFFFA00C4#32, 4, v⟩
  | .tcb1Ch0CcrW v => .bus ⟨.write, 0xFFFDC000#32, 4, v⟩
  | .tcb1Ch0CmrR => .bus ⟨.read, 0xFFFDC004#32, 4, 0#32⟩
  | .tcb1Ch0CmrW v => .bus ⟨.write, 0xFFFDC004#32, 4, v⟩
  | .tcb1Ch0CvR => .bus ⟨.read, 0xFFFDC010#32, 4, 0#32⟩
  | .tcb1Ch0RaR => .bus ⟨.read, 0xFFFDC014#32, 4, 0#32⟩
  | .tcb1Ch0RaW v => .bus ⟨.write, 0xFFFDC014#32, 4, v⟩
  | .tcb1Ch0RbR => .bus ⟨.read, 0xFFFDC018#32, 4, 0#32⟩
  | .tcb1Ch0RbW v => .bus ⟨.write, 0xFFFDC018#32, 4, v⟩
  | .tcb1Ch0RcR => .bus ⟨.read, 0xFFFDC01C#32, 4, 0#32⟩
  | .tcb1Ch0RcW v => .bus ⟨.write, 0xFFFDC01C#32, 4, v⟩
  | .tcb1Ch0SrR => .bus ⟨.read, 0xFFFDC020#32, 4, 0#32⟩
  | .tcb1Ch0IerW v => .bus ⟨.write, 0xFFFDC024#32, 4, v⟩
  | .tcb1Ch0IdrW v => .bus ⟨.write, 0xFFFDC028#32, 4, v⟩
  | .tcb1Ch0ImrR => .bus ⟨.read, 0xFFFDC02C#32, 4, 0#32⟩
  | .tcb1Ch1CcrW v => .bus ⟨.write, 0xFFFDC040#32, 4, v⟩
  | .tcb1Ch1CmrR => .bus ⟨.read, 0xFFFDC044#32, 4, 0#32⟩
  | .tcb1Ch1CmrW v => .bus ⟨.write, 0xFFFDC044#32, 4, v⟩
  | .tcb1Ch1CvR => .bus ⟨.read, 0xFFFDC050#32, 4, 0#32⟩
  | .tcb1Ch1RaR => .bus ⟨.read, 0xFFFDC054#32, 4, 0#32⟩
  | .tcb1Ch1RaW v => .bus ⟨.write, 0xFFFDC054#32, 4, v⟩
  | .tcb1Ch1RbR => .bus ⟨.read, 0xFFFDC058#32, 4, 0#32⟩
  | .tcb1Ch1RbW v => .bus ⟨.write, 0xFFFDC058#32, 4, v⟩
  | .tcb1Ch1RcR => .bus ⟨.read, 0xFFFDC05C#32, 4, 0#32⟩
  | .tcb1Ch1RcW v => .bus ⟨.write, 0xFFFDC05C#32, 4, v⟩
  | .tcb1Ch1SrR => .bus ⟨.read, 0xFFFDC060#32, 4, 0#32⟩
  | .tcb1Ch1IerW v => .bus ⟨.write, 0xFFFDC064#32, 4, v⟩
  | .tcb1Ch1IdrW v => .bus ⟨.write, 0xFFFDC068#32, 4, v⟩
  | .tcb1Ch1ImrR => .bus ⟨.read, 0xFFFDC06C#32, 4, 0#32⟩
  | .tcb1Ch2CcrW v => .bus ⟨.write, 0xFFFDC080#32, 4, v⟩
  | .tcb1Ch2CmrR => .bus ⟨.read, 0xFFFDC084#32, 4, 0#32⟩
  | .tcb1Ch2CmrW v => .bus ⟨.write, 0xFFFDC084#32, 4, v⟩
  | .tcb1Ch2CvR => .bus ⟨.read, 0xFFFDC090#32, 4, 0#32⟩
  | .tcb1Ch2RaR => .bus ⟨.read, 0xFFFDC094#32, 4, 0#32⟩
  | .tcb1Ch2RaW v => .bus ⟨.write, 0xFFFDC094#32, 4, v⟩
  | .tcb1Ch2RbR => .bus ⟨.read, 0xFFFDC098#32, 4, 0#32⟩
  | .tcb1Ch2RbW v => .bus ⟨.write, 0xFFFDC098#32, 4, v⟩
  | .tcb1Ch2RcR => .bus ⟨.read, 0xFFFDC09C#32, 4, 0#32⟩
  | .tcb1Ch2RcW v => .bus ⟨.write, 0xFFFDC09C#32, 4, v⟩
  | .tcb1Ch2SrR => .bus ⟨.read, 0xFFFDC0A0#32, 4, 0#32⟩
  | .tcb1Ch2IerW v => .bus ⟨.write, 0xFFFDC0A4#32, 4, v⟩
  | .tcb1Ch2IdrW v => .bus ⟨.write, 0xFFFDC0A8#32, 4, v⟩
  | .tcb1Ch2ImrR => .bus ⟨.read, 0xFFFDC0AC#32, 4, 0#32⟩
  | .tcb1BcrW v => .bus ⟨.write, 0xFFFDC0C0#32, 4, v⟩
  | .tcb1BmrR => .bus ⟨.read, 0xFFFDC0C4#32, 4, 0#32⟩
  | .tcb1BmrW v => .bus ⟨.write, 0xFFFDC0C4#32, 4, v⟩
  | .pitMrR => .bus ⟨.read, 0xFFFFFD30#32, 4, 0#32⟩
  | .pitMrW v => .bus ⟨.write, 0xFFFFFD30#32, 4, v⟩
  | .pitSrR => .bus ⟨.read, 0xFFFFFD34#32, 4, 0#32⟩
  | .pitPivrR => .bus ⟨.read, 0xFFFFFD38#32, 4, 0#32⟩
  | .pitPiirR => .bus ⟨.read, 0xFFFFFD3C#32, 4, 0#32⟩
  | .rttMrR => .bus ⟨.read, 0xFFFFFD20#32, 4, 0#32⟩
  | .rttMrW v => .bus ⟨.write, 0xFFFFFD20#32, 4, v⟩
  | .rttArR => .bus ⟨.read, 0xFFFFFD24#32, 4, 0#32⟩
  | .rttArW v => .bus ⟨.write, 0xFFFFFD24#32, 4, v⟩
  | .rttVrR => .bus ⟨.read, 0xFFFFFD28#32, 4, 0#32⟩
  | .rttSrR => .bus ⟨.read, 0xFFFFFD2C#32, 4, 0#32⟩
  | .dbguCrW v => .bus ⟨.write, 0xFFFFF200#32, 4, v⟩
  | .dbguMrR => .bus ⟨.read, 0xFFFFF204#32, 4, 0#32⟩
  | .dbguMrW v => .bus ⟨.write, 0xFFFFF204#32, 4, v⟩
  | .dbguIerW v => .bus ⟨.write, 0xFFFFF208#32, 4, v⟩
  | .dbguIdrW v => .bus ⟨.write, 0xFFFFF20C#32, 4, v⟩
  | .dbguImrR => .bus ⟨.read, 0xFFFFF210#32, 4, 0#32⟩
  | .dbguSrR => .bus ⟨.read, 0xFFFFF214#32, 4, 0#32⟩
  | .dbguRhrR => .bus ⟨.read, 0xFFFFF218#32, 4, 0#32⟩
  | .dbguThrW v => .bus ⟨.write, 0xFFFFF21C#32, 4, v⟩
  | .dbguBrgrR => .bus ⟨.read, 0xFFFFF220#32, 4, 0#32⟩
  | .dbguBrgrW v => .bus ⟨.write, 0xFFFFF220#32, 4, v⟩
  | .dbguCidrR => .bus ⟨.read, 0xFFFFF240#32, 4, 0#32⟩
  | .dbguExidR => .bus ⟨.read, 0xFFFFF244#32, 4, 0#32⟩
  | .pioaPerW v => .bus ⟨.write, 0xFFFFF400#32, 4, v⟩
  | .pioaPdrW v => .bus ⟨.write, 0xFFFFF404#32, 4, v⟩
  | .pioaPsrR => .bus ⟨.read, 0xFFFFF408#32, 4, 0#32⟩
  | .pioaOerW v => .bus ⟨.write, 0xFFFFF410#32, 4, v⟩
  | .pioaOdrW v => .bus ⟨.write, 0xFFFFF414#32, 4, v⟩
  | .pioaOsrR => .bus ⟨.read, 0xFFFFF418#32, 4, 0#32⟩
  | .pioaIferW v => .bus ⟨.write, 0xFFFFF420#32, 4, v⟩
  | .pioaIfdrW v => .bus ⟨.write, 0xFFFFF424#32, 4, v⟩
  | .pioaIfsrR => .bus ⟨.read, 0xFFFFF428#32, 4, 0#32⟩
  | .pioaSodrW v => .bus ⟨.write, 0xFFFFF430#32, 4, v⟩
  | .pioaCodrW v => .bus ⟨.write, 0xFFFFF434#32, 4, v⟩
  | .pioaOdsrR => .bus ⟨.read, 0xFFFFF438#32, 4, 0#32⟩
  | .pioaOdsrW v => .bus ⟨.write, 0xFFFFF438#32, 4, v⟩
  | .pioaPdsrR => .bus ⟨.read, 0xFFFFF43C#32, 4, 0#32⟩
  | .pioaIerW v => .bus ⟨.write, 0xFFFFF440#32, 4, v⟩
  | .pioaIdrW v => .bus ⟨.write, 0xFFFFF444#32, 4, v⟩
  | .pioaImrR => .bus ⟨.read, 0xFFFFF448#32, 4, 0#32⟩
  | .pioaIsrR => .bus ⟨.read, 0xFFFFF44C#32, 4, 0#32⟩
  | .pioaMderW v => .bus ⟨.write, 0xFFFFF450#32, 4, v⟩
  | .pioaMddrW v => .bus ⟨.write, 0xFFFFF454#32, 4, v⟩
  | .pioaMdsrR => .bus ⟨.read, 0xFFFFF458#32, 4, 0#32⟩
  | .pioaPudrW v => .bus ⟨.write, 0xFFFFF460#32, 4, v⟩
  | .pioaPuerW v => .bus ⟨.write, 0xFFFFF464#32, 4, v⟩
  | .pioaPusrR => .bus ⟨.read, 0xFFFFF468#32, 4, 0#32⟩
  | .pioaAsrW v => .bus ⟨.write, 0xFFFFF470#32, 4, v⟩
  | .pioaBsrW v => .bus ⟨.write, 0xFFFFF474#32, 4, v⟩
  | .pioaAbsrR => .bus ⟨.read, 0xFFFFF478#32, 4, 0#32⟩
  | .pioaOwerW v => .bus ⟨.write, 0xFFFFF4A0#32, 4, v⟩
  | .pioaOwdrW v => .bus ⟨.write, 0xFFFFF4A4#32, 4, v⟩
  | .pioaOwsrR => .bus ⟨.read, 0xFFFFF4A8#32, 4, 0#32⟩
  | .piobPerW v => .bus ⟨.write, 0xFFFFF600#32, 4, v⟩
  | .piobPdrW v => .bus ⟨.write, 0xFFFFF604#32, 4, v⟩
  | .piobPsrR => .bus ⟨.read, 0xFFFFF608#32, 4, 0#32⟩
  | .piobOerW v => .bus ⟨.write, 0xFFFFF610#32, 4, v⟩
  | .piobOdrW v => .bus ⟨.write, 0xFFFFF614#32, 4, v⟩
  | .piobOsrR => .bus ⟨.read, 0xFFFFF618#32, 4, 0#32⟩
  | .piobIferW v => .bus ⟨.write, 0xFFFFF620#32, 4, v⟩
  | .piobIfdrW v => .bus ⟨.write, 0xFFFFF624#32, 4, v⟩
  | .piobIfsrR => .bus ⟨.read, 0xFFFFF628#32, 4, 0#32⟩
  | .piobSodrW v => .bus ⟨.write, 0xFFFFF630#32, 4, v⟩
  | .piobCodrW v => .bus ⟨.write, 0xFFFFF634#32, 4, v⟩
  | .piobOdsrR => .bus ⟨.read, 0xFFFFF638#32, 4, 0#32⟩
  | .piobOdsrW v => .bus ⟨.write, 0xFFFFF638#32, 4, v⟩
  | .piobPdsrR => .bus ⟨.read, 0xFFFFF63C#32, 4, 0#32⟩
  | .piobIerW v => .bus ⟨.write, 0xFFFFF640#32, 4, v⟩
  | .piobIdrW v => .bus ⟨.write, 0xFFFFF644#32, 4, v⟩
  | .piobImrR => .bus ⟨.read, 0xFFFFF648#32, 4, 0#32⟩
  | .piobIsrR => .bus ⟨.read, 0xFFFFF64C#32, 4, 0#32⟩
  | .piobMderW v => .bus ⟨.write, 0xFFFFF650#32, 4, v⟩
  | .piobMddrW v => .bus ⟨.write, 0xFFFFF654#32, 4, v⟩
  | .piobMdsrR => .bus ⟨.read, 0xFFFFF658#32, 4, 0#32⟩
  | .piobPudrW v => .bus ⟨.write, 0xFFFFF660#32, 4, v⟩
  | .piobPuerW v => .bus ⟨.write, 0xFFFFF664#32, 4, v⟩
  | .piobPusrR => .bus ⟨.read, 0xFFFFF668#32, 4, 0#32⟩
  | .piobAsrW v => .bus ⟨.write, 0xFFFFF670#32, 4, v⟩
  | .piobBsrW v => .bus ⟨.write, 0xFFFFF674#32, 4, v⟩
  | .piobAbsrR => .bus ⟨.read, 0xFFFFF678#32, 4, 0#32⟩
  | .piobOwerW v => .bus ⟨.write, 0xFFFFF6A0#32, 4, v⟩
  | .piobOwdrW v => .bus ⟨.write, 0xFFFFF6A4#32, 4, v⟩
  | .piobOwsrR => .bus ⟨.read, 0xFFFFF6A8#32, 4, 0#32⟩
  | .piocPerW v => .bus ⟨.write, 0xFFFFF800#32, 4, v⟩
  | .piocPdrW v => .bus ⟨.write, 0xFFFFF804#32, 4, v⟩
  | .piocPsrR => .bus ⟨.read, 0xFFFFF808#32, 4, 0#32⟩
  | .piocOerW v => .bus ⟨.write, 0xFFFFF810#32, 4, v⟩
  | .piocOdrW v => .bus ⟨.write, 0xFFFFF814#32, 4, v⟩
  | .piocOsrR => .bus ⟨.read, 0xFFFFF818#32, 4, 0#32⟩
  | .piocIferW v => .bus ⟨.write, 0xFFFFF820#32, 4, v⟩
  | .piocIfdrW v => .bus ⟨.write, 0xFFFFF824#32, 4, v⟩
  | .piocIfsrR => .bus ⟨.read, 0xFFFFF828#32, 4, 0#32⟩
  | .piocSodrW v => .bus ⟨.write, 0xFFFFF830#32, 4, v⟩
  | .piocCodrW v => .bus ⟨.write, 0xFFFFF834#32, 4, v⟩
  | .piocOdsrR => .bus ⟨.read, 0xFFFFF838#32, 4, 0#32⟩
  | .piocOdsrW v => .bus ⟨.write, 0xFFFFF838#32, 4, v⟩
  | .piocPdsrR => .bus ⟨.read, 0xFFFFF83C#32, 4, 0#32⟩
  | .piocIerW v => .bus ⟨.write, 0xFFFFF840#32, 4, v⟩
  | .piocIdrW v => .bus ⟨.write, 0xFFFFF844#32, 4, v⟩
  | .piocImrR => .bus ⟨.read, 0xFFFFF848#32, 4, 0#32⟩
  | .piocIsrR => .bus ⟨.read, 0xFFFFF84C#32, 4, 0#32⟩
  | .piocMderW v => .bus ⟨.write, 0xFFFFF850#32, 4, v⟩
  | .piocMddrW v => .bus ⟨.write, 0xFFFFF854#32, 4, v⟩
  | .piocMdsrR => .bus ⟨.read, 0xFFFFF858#32, 4, 0#32⟩
  | .piocPudrW v => .bus ⟨.write, 0xFFFFF860#32, 4, v⟩
  | .piocPuerW v => .bus ⟨.write, 0xFFFFF864#32, 4, v⟩
  | .piocPusrR => .bus ⟨.read, 0xFFFFF868#32, 4, 0#32⟩
  | .piocAsrW v => .bus ⟨.write, 0xFFFFF870#32, 4, v⟩
  | .piocBsrW v => .bus ⟨.write, 0xFFFFF874#32, 4, v⟩
  | .piocAbsrR => .bus ⟨.read, 0xFFFFF878#32, 4, 0#32⟩
  | .piocOwerW v => .bus ⟨.write, 0xFFFFF8A0#32, 4, v⟩
  | .piocOwdrW v => .bus ⟨.write, 0xFFFFF8A4#32, 4, v⟩
  | .piocOwsrR => .bus ⟨.read, 0xFFFFF8A8#32, 4, 0#32⟩
  | .pmcScerW v => .bus ⟨.write, 0xFFFFFC00#32, 4, v⟩
  | .pmcScdrW v => .bus ⟨.write, 0xFFFFFC04#32, 4, v⟩
  | .pmcScsrR => .bus ⟨.read, 0xFFFFFC08#32, 4, 0#32⟩
  | .pmcPcerW v => .bus ⟨.write, 0xFFFFFC10#32, 4, v⟩
  | .pmcPcdrW v => .bus ⟨.write, 0xFFFFFC14#32, 4, v⟩
  | .pmcPcsrR => .bus ⟨.read, 0xFFFFFC18#32, 4, 0#32⟩
  | .pmcCkgrMorR => .bus ⟨.read, 0xFFFFFC20#32, 4, 0#32⟩
  | .pmcCkgrMorW v => .bus ⟨.write, 0xFFFFFC20#32, 4, v⟩
  | .pmcCkgrMcfrR => .bus ⟨.read, 0xFFFFFC24#32, 4, 0#32⟩
  | .pmcCkgrPllarR => .bus ⟨.read, 0xFFFFFC28#32, 4, 0#32⟩
  | .pmcCkgrPllarW v => .bus ⟨.write, 0xFFFFFC28#32, 4, v⟩
  | .pmcCkgrPllbrR => .bus ⟨.read, 0xFFFFFC2C#32, 4, 0#32⟩
  | .pmcCkgrPllbrW v => .bus ⟨.write, 0xFFFFFC2C#32, 4, v⟩
  | .pmcMckrR => .bus ⟨.read, 0xFFFFFC30#32, 4, 0#32⟩
  | .pmcMckrW v => .bus ⟨.write, 0xFFFFFC30#32, 4, v⟩
  | .pmcPck0R => .bus ⟨.read, 0xFFFFFC40#32, 4, 0#32⟩
  | .pmcPck0W v => .bus ⟨.write, 0xFFFFFC40#32, 4, v⟩
  | .pmcPck1R => .bus ⟨.read, 0xFFFFFC44#32, 4, 0#32⟩
  | .pmcPck1W v => .bus ⟨.write, 0xFFFFFC44#32, 4, v⟩
  | .pmcIerW v => .bus ⟨.write, 0xFFFFFC60#32, 4, v⟩
  | .pmcIdrW v => .bus ⟨.write, 0xFFFFFC64#32, 4, v⟩
  | .pmcSrR => .bus ⟨.read, 0xFFFFFC68#32, 4, 0#32⟩
  | .pmcImrR => .bus ⟨.read, 0xFFFFFC6C#32, 4, 0#32⟩
  | .pmcPllicprR => .bus ⟨.read, 0xFFFFFC80#32, 4, 0#32⟩
  | .pmcPllicprW v => .bus ⟨.write, 0xFFFFFC80#32, 4, v⟩
  | .matrixMcfg0R => .bus ⟨.read, 0xFFFFEE00#32, 4, 0#32⟩
  | .matrixMcfg0W v => .bus ⟨.write, 0xFFFFEE00#32, 4, v⟩
  | .matrixMcfg1R => .bus ⟨.read, 0xFFFFEE04#32, 4, 0#32⟩
  | .matrixMcfg1W v => .bus ⟨.write, 0xFFFFEE04#32, 4, v⟩
  | .matrixMcfg2R => .bus ⟨.read, 0xFFFFEE08#32, 4, 0#32⟩
  | .matrixMcfg2W v => .bus ⟨.write, 0xFFFFEE08#32, 4, v⟩
  | .matrixMcfg3R => .bus ⟨.read, 0xFFFFEE0C#32, 4, 0#32⟩
  | .matrixMcfg3W v => .bus ⟨.write, 0xFFFFEE0C#32, 4, v⟩
  | .matrixMcfg4R => .bus ⟨.read, 0xFFFFEE10#32, 4, 0#32⟩
  | .matrixMcfg4W v => .bus ⟨.write, 0xFFFFEE10#32, 4, v⟩
  | .matrixMcfg5R => .bus ⟨.read, 0xFFFFEE14#32, 4, 0#32⟩
  | .matrixMcfg5W v => .bus ⟨.write, 0xFFFFEE14#32, 4, v⟩
  | .matrixScfg0R => .bus ⟨.read, 0xFFFFEE40#32, 4, 0#32⟩
  | .matrixScfg0W v => .bus ⟨.write, 0xFFFFEE40#32, 4, v⟩
  | .matrixScfg1R => .bus ⟨.read, 0xFFFFEE44#32, 4, 0#32⟩
  | .matrixScfg1W v => .bus ⟨.write, 0xFFFFEE44#32, 4, v⟩
  | .matrixScfg2R => .bus ⟨.read, 0xFFFFEE48#32, 4, 0#32⟩
  | .matrixScfg2W v => .bus ⟨.write, 0xFFFFEE48#32, 4, v⟩
  | .matrixScfg3R => .bus ⟨.read, 0xFFFFEE4C#32, 4, 0#32⟩
  | .matrixScfg3W v => .bus ⟨.write, 0xFFFFEE4C#32, 4, v⟩
  | .matrixScfg4R => .bus ⟨.read, 0xFFFFEE50#32, 4, 0#32⟩
  | .matrixScfg4W v => .bus ⟨.write, 0xFFFFEE50#32, 4, v⟩
  | .matrixPras0R => .bus ⟨.read, 0xFFFFEE80#32, 4, 0#32⟩
  | .matrixPras0W v => .bus ⟨.write, 0xFFFFEE80#32, 4, v⟩
  | .matrixPras1R => .bus ⟨.read, 0xFFFFEE88#32, 4, 0#32⟩
  | .matrixPras1W v => .bus ⟨.write, 0xFFFFEE88#32, 4, v⟩
  | .matrixPras2R => .bus ⟨.read, 0xFFFFEE90#32, 4, 0#32⟩
  | .matrixPras2W v => .bus ⟨.write, 0xFFFFEE90#32, 4, v⟩
  | .matrixPras3R => .bus ⟨.read, 0xFFFFEE98#32, 4, 0#32⟩
  | .matrixPras3W v => .bus ⟨.write, 0xFFFFEE98#32, 4, v⟩
  | .matrixPras4R => .bus ⟨.read, 0xFFFFEEA0#32, 4, 0#32⟩
  | .matrixPras4W v => .bus ⟨.write, 0xFFFFEEA0#32, 4, v⟩
  | .matrixMrcrR => .bus ⟨.read, 0xFFFFEF00#32, 4, 0#32⟩
  | .matrixMrcrW v => .bus ⟨.write, 0xFFFFEF00#32, 4, v⟩
  | .matrixEbiCsaR => .bus ⟨.read, 0xFFFFEF1C#32, 4, 0#32⟩
  | .matrixEbiCsaW v => .bus ⟨.write, 0xFFFFEF1C#32, 4, v⟩
  | .rstcCrW v => .bus ⟨.write, 0xFFFFFD00#32, 4, v⟩
  | .rstcSrR => .bus ⟨.read, 0xFFFFFD04#32, 4, 0#32⟩
  | .rstcMrR => .bus ⟨.read, 0xFFFFFD08#32, 4, 0#32⟩
  | .rstcMrW v => .bus ⟨.write, 0xFFFFFD08#32, 4, v⟩
  | .sdramcMrR => .bus ⟨.read, 0xFFFFEA00#32, 4, 0#32⟩
  | .sdramcMrW v => .bus ⟨.write, 0xFFFFEA00#32, 4, v⟩
  | .sdramcTrR => .bus ⟨.read, 0xFFFFEA04#32, 4, 0#32⟩
  | .sdramcTrW v => .bus ⟨.write, 0xFFFFEA04#32, 4, v⟩
  | .sdramcCrR => .bus ⟨.read, 0xFFFFEA08#32, 4, 0#32⟩
  | .sdramcCrW v => .bus ⟨.write, 0xFFFFEA08#32, 4, v⟩
  | .sdramcLprR => .bus ⟨.read, 0xFFFFEA10#32, 4, 0#32⟩
  | .sdramcLprW v => .bus ⟨.write, 0xFFFFEA10#32, 4, v⟩
  | .sdramcIerW v => .bus ⟨.write, 0xFFFFEA14#32, 4, v⟩
  | .sdramcIdrW v => .bus ⟨.write, 0xFFFFEA18#32, 4, v⟩
  | .sdramcImrR => .bus ⟨.read, 0xFFFFEA1C#32, 4, 0#32⟩
  | .sdramcIsrR => .bus ⟨.read, 0xFFFFEA20#32, 4, 0#32⟩
  | .sdramcMdrR => .bus ⟨.read, 0xFFFFEA24#32, 4, 0#32⟩
  | .sdramcMdrW v => .bus ⟨.write, 0xFFFFEA24#32, 4, v⟩
  | .usartDataIn u seq payload => .frameIn (.usart u) ⟨seq, 1#8, 1#8, payload⟩
  | .usartDataOut u payload => .frameOut (.usart u) 1#8 2#8 payload
  | .usartFaultOvre u seq payload => .frameIn (.usart u) ⟨seq, 2#8, 1#8, payload⟩
  | .usartFaultFrame u seq payload => .frameIn (.usart u) ⟨seq, 2#8, 2#8, payload⟩
  | .usartFaultPare u seq payload => .frameIn (.usart u) ⟨seq, 2#8, 3#8, payload⟩
  | .usartFaultTimeout u seq payload => .frameIn (.usart u) ⟨seq, 2#8, 4#8, payload⟩
  | .spiDataIn u seq payload => .frameIn (.spi u) ⟨seq, 1#8, 1#8, payload⟩
  | .spiDataOut u payload => .frameOut (.spi u) 1#8 2#8 payload
  | .spiFaultModf u seq payload => .frameIn (.spi u) ⟨seq, 2#8, 1#8, payload⟩
  | .spiFaultOvres u seq payload => .frameIn (.spi u) ⟨seq, 2#8, 2#8, payload⟩
  | .twiDataIn seq payload => .frameIn .twi ⟨seq, 1#8, 1#8, payload⟩
  | .twiDataOut payload => .frameOut .twi 1#8 2#8 payload
  | .twiCtrlStart => .frameOut .twi 1#8 3#8 []
  | .twiCtrlStop => .frameOut .twi 1#8 4#8 []
  | .twiFaultOvre seq payload => .frameIn .twi ⟨seq, 2#8, 1#8, payload⟩
  | .twiFaultNack seq payload => .frameIn .twi ⟨seq, 2#8, 2#8, payload⟩
  | .twiFaultArblst seq payload => .frameIn .twi ⟨seq, 2#8, 3#8, payload⟩
  | .pioPinstateEnable p seq payload => .frameIn (.pio p) ⟨seq, 1#8, 1#8, payload⟩
  | .pioPinstateDisable p seq payload => .frameIn (.pio p) ⟨seq, 1#8, 2#8, payload⟩
  | .pioPinstateOut p => .frameOut (.pio p) 1#8 3#8 []
  | .pioPinstateGet p seq payload => .frameIn (.pio p) ⟨seq, 1#8, 4#8, payload⟩
  | .sdramcFaultRes seq payload => .frameIn .sdramc ⟨seq, 2#8, 1#8, payload⟩

/-! ### The words of the opcode table -/

/-- The bus transaction a table word stands for. The table numbers the 32 address bits; above them stand, in this
model's numbering, the direction (bit 32), the size (bits 34:33, 0 for a word access, 1 for a byte, 2 for a halfword)
and the datum (bits 66:35). -/
def busOfTableWord (w : Nat) : BusTxn where
  dir := if w.testBit 32 then .write else .read
  addr := BitVec.ofNat 32 w
  size :=
    match (w >>> 33) % 4 with
    | 0 => 4
    | 1 => 1
    | 2 => 2
    | _ => 3
  wdata := BitVec.ofNat 32 (w >>> 35)

/-- The frame ops a 16-bit table word may stand for, the owner kinds in the table's order, a client's frame before
the owner's (R133: the codes are the same on several kinds of link, and the table word does not name the owner). -/
def framesOfTableWord (w : Nat) : List Op :=
  let cat := BitVec.ofNat 8 (w >>> 8)
  let id := BitVec.ofNat 8 w
  [LinkId.usart 0, LinkId.spi 0, LinkId.twi, LinkId.pio 0, LinkId.sdramc].flatMap
    fun l => [Op.frameIn l ⟨0#8, cat, id, []⟩, Op.frameOut l cat id []]

/-- The first op of a list that the decoder accepts, with the sizes the table is written for (R6). -/
def firstDecoded : List Op → Option (Op × Instr)
  | [] => none
  | op :: ops =>
    match decode .iobc op with
    | .ok i => some (op, i)
    | .reject _ => firstDecoded ops

/-- The operation a table word stands for, with its instruction. The table gives no bit to the direction, so a word
that selects a write-only register is its write. A word of at most 16 bits, or one that is no bus transaction, is
read as a frame. -/
def opOfTableWord (nbits w : Nat) : Option (Op × Instr) :=
  let t := busOfTableWord w
  let frames := framesOfTableWord w
  if nbits ≤ 16 then firstDecoded frames
  else firstDecoded ([Op.bus t, Op.bus { t with dir := .write }] ++ (if w < 65536 then frames else []))

/-- The instruction the decoder reads from a word of the opcode table. -/
def decodeTableWord (nbits w : Nat) : Option Instr := (opOfTableWord nbits w).map Prod.snd

end

end Sys2Proof
end

