-- ==== Sys2Proof/Machine/State.lean ====
section
/-! DEFINITION. The state of the block as plain data (R20 to R36, R60 to R78, R84), the reasons a step stops (R771),
and the machine as constructed (R821). Each register and each piece of hidden state has one field. Where a register
is a word of fields, the field holds the word under its layout mask (R164); where two addresses show one field
(`BLKLEN`, R483), it is stored once. -/

namespace Sys2Proof.Machine

/-! ### Faults and refusals -/

/-- The underlying error of an `A_DMA`, which R12 and R95 have the abort carry ("abort with the underlying error"). -/
inductive DmaError where
  /-- The transfer touched a byte of no memory-backed region (R95, R273). Raised by the transfers. Safe. -/
  | notMemory
  /-- The `A_ROM_WRITE` of R85: the transfer would write a byte of ROM or NOR, at `addr` after R154. Raised by the
  transfers that write. Safe. -/
  | romWrite (addr wdata : Word)
  deriving DecidableEq, Repr

/-- The cause codes of R771 with what their diagnostic names. Each is raised by the operation the code's row cites, and
the machine that raised one takes no further step (R770). All are safe: the hardware described stops there too. -/
inductive Fault where
  /-- `A_RESERVED`: an access to an address no region covers; raised by the step and by the bootmem rows (R158), where
  `redirected` is the address after R154, and by the memory rows when an access runs past the end of its region (R8),
  where `redirected` is its first byte outside. -/
  | reserved (addr redirected : Word) (dir : Dir) (size : Nat) (wdata : Word)
  /-- `A_ACCESS_SIZE`: a wrong size or alignment; raised by the step and by the bootmem rows (R93, R94). -/
  | accessSize (addr : Word) (size : Nat)
  /-- `A_UNDEF_OFFSET`: no register at this offset of an implemented window; raised by the step (R162). -/
  | undefOffset (p : Peripheral) (off : Nat) (dir : Dir) (wdata : Word)
  /-- `A_ACCESS_DIR`: the register does not allow this direction; raised by the step under `ACCESS_STRICT` (R163). -/
  | accessDir (p : Peripheral) (off : Nat) (dir : Dir) (wdata : Word)
  /-- `A_ROM_WRITE`: a CPU write to ROM or NOR, raised by the memory rows and the bootmem rows (R85). A DMA write to
  them raises it as the underlying error of its `A_DMA`. -/
  | romWrite (addr wdata : Word)
  /-- `A_UNIMPL`: an access to an unimplemented window under the policy flags; raised by its rows (R160). -/
  | unimpl (w : UnimplWindow) (off : Nat) (dir : Dir) (wdata : Word)
  /-- `A_DMA`: a PDC transfer touched a byte that is not memory-backed, or would write one of ROM or NOR; raised by
  the transfers (R95, R273). `addr` is the start of the access and `error` says which of the two it was (R12, R85). -/
  | dma (h : PdcHost) (addr : Word) (error : DmaError)
  /-- `A_IOX_IO`: the link reported an error; raised by the link's ERROR step (R727). -/
  | ioxIo (l : LinkId) (error : Nat)
  /-- `A_AIC_STACK`: an acknowledge with the in-service stack full; raised by `IVR` (R212). -/
  | aicStack (depth : Nat)
  /-- `A_SPI_SLAVE`: a transfer started with `MR.MSTR` = 0 (R371). -/
  | spiSlave (u : Fin 2)
  /-- `A_SPI_BITS`: `CSR[k]` written with `BITS` > 8 (R374). -/
  | spiBits (u : Fin 2) (off : Nat) (wdata : Word)
  /-- `A_SPI_PCS`: a transfer with no chip select (R378). -/
  | spiPcs (u : Fin 2) (pcs : BitVec 4)
  /-- `A_TWI_SLAVE`: `CR.SVEN` (R432). -/
  | twiSlave (wdata : Word)
  /-- `A_TWI_MODE`: `CR.SVEN` in master mode with TXCOMP = 0 (R432). -/
  | twiMode (wdata : Word)
  /-- `A_MCI_CMDR`: a reserved `RSPTYP` or `TRCMD` (R487). -/
  | mciCmdr (wdata : Word)
  /-- `A_MCI_TRTYP`: a transfer start with `TRTYP` 3, 6 or 7 (R487). -/
  | mciTrtyp (wdata : Word)
  /-- `A_MCI_STREAM`: a transfer start with `TRTYP` = 2 (R487). -/
  | mciStream (wdata : Word)
  /-- `A_MCI_BLKLEN`: PDC mode in words and a block length that is no multiple of 4 (R492). -/
  | mciBlklen (blk : Nat)
  /-- `A_MCI_RSPR`: more `RSPR` reads than response words (R490). -/
  | mciRspr (off : Nat)
  /-- `A_MCI_TDR`: `TDR` written with no write transfer active (R502). -/
  | mciTdr (wdata : Word)
  /-- `A_TC_BURST`: `CMR.BURST` ≠ 0 (R553). -/
  | tcBurst (channel : Fin 6) (wdata : Word)
  /-- `A_TC_CLOCK`: `CMR.TCCLKS` ≥ 5 (R553). -/
  | tcClock (channel : Fin 6) (wdata : Word)
  deriving DecidableEq, Repr

/-- Why a step has no outcome. -/
inductive Refusal where
  /-- The instruction has no meaning yet; raised by the dispatcher alone. Safe. -/
  | notModelled (mnemonic : String)
  /-- A read of a write-only register with `ACCESS_STRICT` false: no value may be assumed (R163); raised by the
  step. Safe. -/
  | writeOnlyRead (p : Peripheral) (off : Nat)
  deriving DecidableEq, Repr

/-! ### Components -/

/-- The live target of the bootmem window (R23, R153). -/
inductive BootTarget where
  | rom
  | sram0
  | ebiNcs0
  deriving DecidableEq, Repr, Inhabited

/-- An entry of the AIC's in-service stack (R25): a line and a priority 0 to 8. -/
structure AicEntry where
  irq : Fin 32
  prio : Nat
  deriving DecidableEq, Repr, Inhabited

/-- The AIC (R24, R25). Bit n of `line`, `latch`, `imr` and `ffsr` is line n; the top of `stack` is its last entry. -/
structure Aic where
  smr : Vector Word 32
  svr : Vector Word 32
  spu : Word
  dcr : Word
  imr : Word
  ffsr : Word
  line : Word
  latch : Word
  stack : List AicEntry
  nirq : Bool
  nfiq : Bool
  deriving DecidableEq, Repr

/-- One PDC instance (R27) with the four flags it keeps in its host's status register (R28). -/
structure Pdc where
  rpr : Word
  rcr : BitVec 16
  tpr : Word
  tcr : BitVec 16
  rnpr : Word
  rncr : BitVec 16
  tnpr : Word
  tncr : BitVec 16
  rxten : Bool
  txten : Bool
  endrx : Bool
  endtx : Bool
  rxbuff : Bool
  txbufe : Bool
  deriving DecidableEq, Repr

/-- One USART (R29, R30). `ifr` is the register `IF`. -/
structure Usart where
  mr : Word
  brgr : Word
  rtor : Word
  ttgr : Word
  fidi : Word
  ifr : Word
  man : Word
  imr : Word
  rxEnabled : Bool
  txEnabled : Bool
  rxq : List (BitVec 9)
  rhr : BitVec 9
  rxrdy : Bool
  ovre : Bool
  frame : Bool
  pare : Bool
  timeout : Bool
  baud : Nat
  deriving DecidableEq, Repr

/-- One SPI (R31, R32). -/
structure Spi where
  mr : Word
  csr : Vector Word 4
  imr : Word
  enabled : Bool
  rdrData : BitVec 16
  rdrPcs : BitVec 4
  rdrf : Bool
  ovres : Bool
  modf : Bool
  rxq : List (BitVec 16)
  awaiting : Option Nat
  echoAcc : List Byte
  lastPcs : BitVec 4
  lastBits : Nat
  deriving DecidableEq, Repr

/-- The modes of the TWI (R34, R431). -/
inductive TwiMode where
  | offline
  | master
  | slave
  deriving DecidableEq, Repr, Inhabited

/-- The TWI (R33, R34). -/
structure Twi where
  mmr : Word
  smr : Word
  iadr : Word
  cwgr : Word
  imr : Word
  mode : TwiMode
  txcomp : Bool
  rxrdy : Bool
  ovre : Bool
  nack : Bool
  arblst : Bool
  rhr : Byte
  rxq : List Byte
  txbuf : List Byte
  debounceArmed : Bool
  started : Bool
  clockHz : Nat
  deriving DecidableEq, Repr

/-- Direction of an MCI data transfer (R36). -/
inductive MciDir where
  | read
  | write
  deriving DecidableEq, Repr, Inhabited

/-- Bytes left in an MCI transfer (R36): a number, or the sentinel of an unbounded transfer. -/
inductive MciRemaining where
  | bytes (n : Nat)
  | infinite
  deriving DecidableEq, Repr, Inhabited

/-- The MCI's data transfer (R36). -/
inductive MciXfer where
  | idle
  | active (dir : MciDir) (remaining : MciRemaining) (blkPos blkSize : Nat)
  deriving DecidableEq, Repr, Inhabited

/-- The MCI (R35, R36). `mrLow` is `MR[15:0]`; `blklen` is the one `BLKLEN` of `MR` and `BLKR` (R483). -/
structure Mci where
  mrLow : BitVec 16
  blklen : BitVec 16
  bcnt : BitVec 16
  dtor : Word
  sdcr : Word
  argr : Word
  rspr : Vector Word 4
  rdr : Word
  imr : Word
  enabled : Bool
  selectedCard : Fin 2
  rspWords : Nat
  rspIdx : Nat
  xfer : MciXfer
  cmdrdy : Bool
  blke : Bool
  rtoe : Bool
  rinde : Bool
  rdire : Bool
  rcrce : Bool
  rende : Bool
  dcrce : Bool
  dtoe : Bool
  ovre : Bool
  unre : Bool
  deriving DecidableEq, Repr

/-- One TC channel (R60, R61). `latches` are the bits [7:0] of `SR`. -/
structure TcChannel where
  cmr : Word
  cv : BitVec 16
  ra : BitVec 16
  rb : BitVec 16
  rc : BitVec 16
  latches : BitVec 8
  imr : BitVec 8
  clkEnabled : Bool
  running : Bool
  down : Bool
  freqHz : Nat
  deriving DecidableEq, Repr

/-- The PIT (R62, R63). `freqHz` is the nominal rate of its tick (R551): informational. -/
structure Pit where
  mr : Word
  cpiv : BitVec 20
  picnt : BitVec 12
  pits : Bool
  running : Bool
  freqHz : Nat
  deriving DecidableEq, Repr

/-- The RTT (R64, R65). `mr` holds bits [17:0]; `freqHz` is the nominal rate of its tick (R551): informational. -/
structure Rtt where
  mr : Word
  ar : Word
  crtv : Word
  alms : Bool
  rttinc : Bool
  freqHz : Nat
  deriving DecidableEq, Repr

/-- The DBGU (R66, R67). -/
structure Dbgu where
  mr : Word
  brgr : Word
  imr : Word
  rhr : Byte
  rxrdy : Bool
  ovre : Bool
  deriving DecidableEq, Repr

/-- One PIO (R68, R69), one bit per pin. -/
structure Pio where
  psr : Word
  osr : Word
  ifsr : Word
  odsr : Word
  pdsr : Word
  imr : Word
  isr : Word
  mdsr : Word
  pusr : Word
  absr : Word
  owsr : Word
  extLevel : Word
  deriving DecidableEq, Repr

/-- The PMC (R70, R71). `mclkChanges` counts the calls of `mclk_changed`, the only observable of the callback
(R682). -/
structure Pmc where
  scsr : Word
  pcsr : Word
  mor : Word
  pllar : Word
  pllbr : Word
  mckr : Word
  pck0 : Word
  pck1 : Word
  pllicpr : Word
  imr : Word
  moscs : Bool
  locka : Bool
  lockb : Bool
  mckrdy : Bool
  pllaHz : Nat
  pllbHz : Nat
  mclkHz : Nat
  mclkChanges : Nat
  deriving DecidableEq, Repr

/-- The bus matrix (R72). -/
structure Matrix where
  mcfg : Vector Word 6
  scfg : Vector Word 5
  pras : Vector Word 5
  mrcr : Word
  ebiCsa : Word
  deriving DecidableEq, Repr

/-- The reset controller (R73, R74). -/
structure Rstc where
  mr : Word
  rsttyp : BitVec 3
  deriving DecidableEq, Repr

/-- The SDRAM controller (R75, R76). -/
structure Sdramc where
  mr : Word
  tr : Word
  cr : Word
  lpr : Word
  mdr : Word
  imr : Bool
  res : Bool
  deriving DecidableEq, Repr

/-- One IOX server (R78). `client` is whether a client is connected. -/
structure Iox where
  client : Bool
  inbuf : List Byte
  seq : BitVec 7
  outq : List Frame
  deriving DecidableEq, Repr

/-- A call the MCI has made on the SD bus (R481). -/
inductive SdCall where
  | command (cmd : BitVec 6) (arg : Word)
  | readData
  | writeData (b : Byte)
  deriving DecidableEq, Repr

/-- What the environment has said one card will answer, and the calls the card has seen, oldest first (R11, R481).
The card is not part of the block: an answer nobody gave is a free value. -/
structure SdCard where
  responses : List SdResponse
  readBytes : List Byte
  ready : Option Bool
  calls : List SdCall
  deriving DecidableEq, Repr

/-- The SD bus (R481). `asks` counts the `data_ready` questions, so that two unscripted answers may differ. -/
structure SdBus where
  cards : Vector SdCard 2
  asks : Nat
  deriving DecidableEq, Repr

/-! ### Agents' steps -/

/-- What an agent may do next (R9, R10). `transmit` is the block's own transmission of a frame, for the outbound rows
of the table (R133); the three `sd` inputs are the answers of the agent `SdBus`. -/
inductive Input where
  /-- A bus transaction of the CPU (R120). -/
  | bus (t : BusTxn)
  /-- Bytes from the client of a link (R723). -/
  | bytes (l : LinkId) (bs : List Byte)
  /-- The owner of a link sends a frame (R730, R732). -/
  | transmit (l : LinkId) (cat id : Byte) (data : List Byte)
  /-- A client connects (R721). -/
  | connect (l : LinkId)
  /-- The client disconnects (R722). -/
  | disconnect (l : LinkId)
  /-- The client takes the oldest outbound frame (R733). -/
  | take (l : LinkId)
  /-- The link reports an I/O error (R727). -/
  | linkError (l : LinkId) (error : Nat)
  /-- One tick of a counter's clock (R550). -/
  | tick (c : ClockId)
  /-- The TWI transmit debounce timer expires (R442). -/
  | twiFlush
  /-- One input byte for the DBGU (R637). -/
  | console (b : Byte)
  /-- An external interrupt line changes (R222); only lines 0, 29, 30 and 31 are pins. -/
  | pin (n : Fin 32) (level : Bool)
  /-- How a card will answer its next command that has no answer yet (R481). -/
  | sdResponse (card : Fin 2) (r : SdResponse)
  /-- The next data bytes a card will give (R481). -/
  | sdData (card : Fin 2) (bs : List Byte)
  /-- What a card's `data_ready` answers from now on (R481). -/
  | sdReady (card : Fin 2) (ready : Bool)
  /-- The host resets the SoC (R820). -/
  | socReset
  deriving DecidableEq, Repr

/-- The state of the block. `params` are the parameters of R6, which no step changes. `inputs`, `rdata`, `sd` and
`consoleOut` are the model's own: the agents' steps still to come in their total order (R9), the result of the last
completed read (R120), the answers of the SD bus and the console's output. -/
structure State where
  params : Params
  inputs : List Input
  rdata : Word
  fault : Option Fault
  mem : List Host.Cell
  bootTarget : BootTarget
  aic : Aic
  stubIn : Word
  pdcs : Vector Pdc 10
  usarts : Vector Usart 6
  spis : Vector Spi 2
  twi : Twi
  mci : Mci
  tcs : Vector TcChannel 6
  tcBmr : Vector Word 2
  pit : Pit
  rtt : Rtt
  dbgu : Dbgu
  consoleOut : List Byte
  pios : Vector Pio 3
  pmc : Pmc
  matrix : Matrix
  rstc : Rstc
  sdramc : Sdramc
  links : Vector Iox 13
  sd : SdBus
  deriving DecidableEq, Repr

/-! ### Reset values (R24 to R36, R60 to R76) -/

/-- R24, R25. -/
def Aic.reset : Aic where
  smr := Vector.replicate 32 0
  svr := Vector.replicate 32 0
  spu := 0
  dcr := 0
  imr := 0
  ffsr := 0
  line := 0
  latch := 0
  stack := []
  nirq := false
  nfiq := false

/-- R27, R274: the ten registers and the four flags are 0. -/
def Pdc.reset : Pdc where
  rpr := 0
  rcr := 0
  tpr := 0
  tcr := 0
  rnpr := 0
  rncr := 0
  tnpr := 0
  tncr := 0
  rxten := false
  txten := false
  endrx := false
  endtx := false
  rxbuff := false
  txbufe := false

/-- R29, R30. -/
def Usart.reset : Usart where
  mr := 0
  brgr := 0
  rtor := 0
  ttgr := 0
  fidi := 0x174
  ifr := 0
  man := 0x30011004
  imr := 0
  rxEnabled := false
  txEnabled := false
  rxq := []
  rhr := 0
  rxrdy := false
  ovre := false
  frame := false
  pare := false
  timeout := false
  baud := 0

/-- R31, R32. -/
def Spi.reset : Spi where
  mr := 0
  csr := Vector.replicate 4 0
  imr := 0
  enabled := false
  rdrData := 0
  rdrPcs := 0
  rdrf := false
  ovres := false
  modf := false
  rxq := []
  awaiting := none
  echoAcc := []
  lastPcs := 0
  lastBits := 8

/-- R33, R34. `clockHz` is R435's formula at the reset values and the reset master clock: 32768 / (0 + 8). -/
def Twi.reset : Twi where
  mmr := 0
  smr := 0
  iadr := 0
  cwgr := 0
  imr := 0
  mode := .offline
  txcomp := true
  rxrdy := false
  ovre := false
  nack := false
  arblst := false
  rhr := 0
  rxq := []
  txbuf := []
  debounceArmed := false
  started := false
  clockHz := 4096

/-- R35, R36, for the card a pin selects. -/
def Mci.resetWith (card : Fin 2) : Mci where
  mrLow := 0
  blklen := 0
  bcnt := 0
  dtor := 0
  sdcr := 0
  argr := 0
  rspr := Vector.replicate 4 0
  rdr := 0
  imr := 0
  enabled := false
  selectedCard := card
  rspWords := 0
  rspIdx := 0
  xfer := .idle
  cmdrdy := true
  blke := false
  rtoe := false
  rinde := false
  rdire := false
  rcrce := false
  rende := false
  dcrce := false
  dtoe := false
  ovre := false
  unre := false

/-- R60, R61. -/
def TcChannel.reset : TcChannel where
  cmr := 0
  cv := 0
  ra := 0
  rb := 0
  rc := 0
  latches := 0
  imr := 0
  clkEnabled := false
  running := false
  down := false
  freqHz := 0

/-- R62, R63. `freqHz` is R551's rate at the reset master clock: 32768 / 16. -/
def Pit.reset : Pit where
  mr := 0x000FFFFF
  cpiv := 0
  picnt := 0
  pits := false
  running := false
  freqHz := 2048

/-- R64, R65. `freqHz` is R551's rate at the reset prescaler (R594): 32768 / 0x8000. -/
def Rtt.reset : Rtt where
  mr := 0x00008000
  ar := 0xFFFFFFFF
  crtv := 0
  alms := false
  rttinc := false
  freqHz := 1

/-- R66, R67. -/
def Dbgu.reset : Dbgu where
  mr := 0
  brgr := 0
  imr := 0
  rhr := 0
  rxrdy := false
  ovre := false

/-- R68, R69, R664: with `osr` = 0 the recomputed `pdsr` is `ext_level`. -/
def Pio.resetWith (extLevel : Word) : Pio where
  psr := 0xFFFFFFFF
  osr := 0
  ifsr := 0
  odsr := 0
  pdsr := extLevel
  imr := 0
  isr := 0
  mdsr := 0
  pusr := 0
  absr := 0
  owsr := 0
  extLevel := extLevel

/-- R70, R71. `mclkChanges` is not a register: it counts from the construction of the machine. -/
def Pmc.reset : Pmc where
  scsr := 0x00000001
  pcsr := 0
  mor := 0
  pllar := 0x00003F00
  pllbr := 0x00003F00
  mckr := 0
  pck0 := 0
  pck1 := 0
  pllicpr := 0
  imr := 0
  moscs := false
  locka := false
  lockb := false
  mckrdy := true
  pllaHz := 0
  pllbHz := 0
  mclkHz := 32768
  mclkChanges := 0

/-- R72. -/
def Matrix.reset : Matrix where
  mcfg := Vector.replicate 6 0
  scfg := Vector.replicate 5 0x00000010
  pras := Vector.replicate 5 0
  mrcr := 0
  ebiCsa := 0x00010000

/-- R73, R74: `rsttyp` = 0 when the machine is constructed. -/
def Rstc.reset : Rstc where
  mr := 0
  rsttyp := 0

/-- R75, R76. -/
def Sdramc.reset : Sdramc where
  mr := 0
  tr := 0
  cr := 0x852372C0
  lpr := 0
  mdr := 0
  imr := false
  res := false

/-- R78: no client, nothing buffered, the sequence counter at 0. -/
def Iox.reset : Iox where
  client := false
  inbuf := []
  seq := 0
  outq := []

/-- No card has been given an answer or seen a call. -/
def SdBus.reset : SdBus where
  cards := Vector.replicate 2 ⟨[], [], none, []⟩
  asks := 0

/-- The machine as constructed (R821), with the parameters of the iOBC board (R6): `BMS` = 0 makes the bootmem target
the chip select of the NOR flash, no image is loaded, and PIOB pin 7 at level 0 selects card 0. -/
def State.reset : State where
  params := Params.iobc
  inputs := []
  rdata := 0
  fault := none
  mem := []
  bootTarget := .ebiNcs0
  aic := Aic.reset
  stubIn := 0
  pdcs := Vector.replicate 10 Pdc.reset
  usarts := Vector.replicate 6 Usart.reset
  spis := Vector.replicate 2 Spi.reset
  twi := Twi.reset
  mci := Mci.resetWith 0
  tcs := Vector.replicate 6 TcChannel.reset
  tcBmr := Vector.replicate 2 0
  pit := Pit.reset
  rtt := Rtt.reset
  dbgu := Dbgu.reset
  consoleOut := []
  pios := Vector.replicate 3 (Pio.resetWith 0)
  pmc := Pmc.reset
  matrix := Matrix.reset
  rstc := Rstc.reset
  sdramc := Sdramc.reset
  links := Vector.replicate 13 Iox.reset
  sd := SdBus.reset

/-! ### Access to the components

Every operation reads and writes the state through the accessors and setters below. -/

/-- Where the PDC of a host stands in `State.pdcs`. -/
def pdcIndex : PdcHost → Fin 10
  | .usart u => ⟨u.val, by omega⟩
  | .spi u => ⟨6 + u.val, by omega⟩
  | .twi => 8
  | .mci => 9

/-- Where the server of a link stands in `State.links`. -/
def linkIndex : LinkId → Fin 13
  | .usart u => ⟨u.val, by omega⟩
  | .spi u => ⟨6 + u.val, by omega⟩
  | .twi => 8
  | .pio p => ⟨9 + p.val, by omega⟩
  | .sdramc => 12

/-- The PDC of a host (R28). -/
def State.pdc (s : State) (h : PdcHost) : Pdc := s.pdcs[(pdcIndex h).val]

/-- The PDC of a host (R28), replaced. -/
def State.setPdc (s : State) (h : PdcHost) (y : Pdc) : State :=
  { s with pdcs := s.pdcs.set (pdcIndex h).val y }

/-- A USART (R30). -/
def State.usart (s : State) (u : Fin 6) : Usart := s.usarts[u.val]

/-- A USART (R30), replaced. -/
def State.setUsart (s : State) (u : Fin 6) (y : Usart) : State :=
  { s with usarts := s.usarts.set u.val y }

/-- An SPI (R32). -/
def State.spi (s : State) (u : Fin 2) : Spi := s.spis[u.val]

/-- An SPI (R32), replaced. -/
def State.setSpi (s : State) (u : Fin 2) (y : Spi) : State :=
  { s with spis := s.spis.set u.val y }

/-- A TC channel, numbered over both blocks (R61). -/
def State.tc (s : State) (c : Fin 6) : TcChannel := s.tcs[c.val]

/-- A TC channel, numbered over both blocks (R61), replaced. -/
def State.setTc (s : State) (c : Fin 6) (y : TcChannel) : State :=
  { s with tcs := s.tcs.set c.val y }

/-- The `BMR` of a TC block (R60). -/
def State.bmr (s : State) (b : Fin 2) : Word := s.tcBmr[b.val]

/-- The `BMR` of a TC block (R60), replaced. -/
def State.setBmr (s : State) (b : Fin 2) (y : Word) : State :=
  { s with tcBmr := s.tcBmr.set b.val y }

/-- A PIO (R69). -/
def State.pio (s : State) (p : Fin 3) : Pio := s.pios[p.val]

/-- A PIO (R69), replaced. -/
def State.setPio (s : State) (p : Fin 3) (y : Pio) : State :=
  { s with pios := s.pios.set p.val y }

/-- The IOX server of a link (R78). -/
def State.link (s : State) (l : LinkId) : Iox := s.links[(linkIndex l).val]

/-- The IOX server of a link (R78), replaced. -/
def State.setLink (s : State) (l : LinkId) (y : Iox) : State :=
  { s with links := s.links.set (linkIndex l).val y }

/-- `inputs`, replaced. -/
def State.setInputs (s : State) (y : List Input) : State := { s with inputs := y }

/-- `rdata`, replaced. -/
def State.setRdata (s : State) (y : Word) : State := { s with rdata := y }

/-- `fault`, replaced. -/
def State.setFault (s : State) (y : Option Fault) : State := { s with fault := y }

/-- `mem`, replaced. -/
def State.setMem (s : State) (y : List Host.Cell) : State := { s with mem := y }

/-- `bootTarget`, replaced. -/
def State.setBootTarget (s : State) (y : BootTarget) : State := { s with bootTarget := y }

/-- `aic`, replaced. -/
def State.setAic (s : State) (y : Aic) : State := { s with aic := y }

/-- `stubIn`, replaced. -/
def State.setStubIn (s : State) (y : Word) : State := { s with stubIn := y }

/-- `twi`, replaced. -/
def State.setTwi (s : State) (y : Twi) : State := { s with twi := y }

/-- `mci`, replaced. -/
def State.setMci (s : State) (y : Mci) : State := { s with mci := y }

/-- `pit`, replaced. -/
def State.setPit (s : State) (y : Pit) : State := { s with pit := y }

/-- `rtt`, replaced. -/
def State.setRtt (s : State) (y : Rtt) : State := { s with rtt := y }

/-- `dbgu`, replaced. -/
def State.setDbgu (s : State) (y : Dbgu) : State := { s with dbgu := y }

/-- `consoleOut`, replaced. -/
def State.setConsoleOut (s : State) (y : List Byte) : State := { s with consoleOut := y }

/-- `pmc`, replaced. -/
def State.setPmc (s : State) (y : Pmc) : State := { s with pmc := y }

/-- `matrix`, replaced. -/
def State.setMatrix (s : State) (y : Matrix) : State := { s with matrix := y }

/-- `rstc`, replaced. -/
def State.setRstc (s : State) (y : Rstc) : State := { s with rstc := y }

/-- `sdramc`, replaced. -/
def State.setSdramc (s : State) (y : Sdramc) : State := { s with sdramc := y }

/-- `sd`, replaced. -/
def State.setSd (s : State) (y : SdBus) : State := { s with sd := y }

/-- A client is connected to the server of the link (R721). -/
def State.clientConnected (s : State) (l : LinkId) : Bool := (s.link l).client

end Sys2Proof.Machine
end

