-- ==== Sys2Proof/Machine/Operands.lean ====
section
/-! DEFINITION. The operand forms: the bits and fields of a datum (R7, R124, R125), little-endian bytes (R90, R130), the
layout masks of the registers (R164), and the bootmem redirection of an address (R154). -/

namespace Sys2Proof.Machine

/-! ### Bits and fields -/

/-- `v[i]` (R7). -/
def bit (v : Word) (i : Nat) : Bool := v.getLsbD i

/-- `v[hi:lo]` as a number (R7). -/
def field (v : Word) (hi lo : Nat) : Nat := (v.extractLsb hi lo).toNat

/-- A word whose bit i is `b` and whose other bits are 0. -/
def bitAt (b : Bool) (i : Nat) : Word := if b then 1#32 <<< i else 0#32

/-- `w` with bit i at `b`. -/
def putBit (w : Word) (i : Nat) (b : Bool) : Word :=
  if b then w ||| (1#32 <<< i) else w &&& ~~~(1#32 <<< i)

/-- The word of `n` bits whose bit i is `f i`. -/
def bitsOf : (n : Nat) → (Nat → Bool) → BitVec n
  | 0, _ => 0#0
  | n + 1, f => BitVec.cons (f n) (bitsOf n f)

/-- A set register's write (R125): the bits that are 1 in `v` are set. -/
def setBits (w v : Word) : Word := w ||| v

/-- A clear register's write (R125): the bits that are 1 in `v` are cleared. -/
def clearBits (w v : Word) : Word := w &&& ~~~v

/-! ### Little-endian bytes -/

/-- The `n` low bytes of a word, least significant first (R90). -/
def leBytes (n : Nat) (v : Word) : List Byte := (List.range n).map fun i => (v >>> (8 * i)).setWidth 8

/-- The number a byte sequence stands for, least significant first (R90). -/
def leNat : List Byte → Nat
  | [] => 0
  | b :: bs => b.toNat + 256 * leNat bs

/-- The word a byte sequence stands for. -/
def leWord (bs : List Byte) : Word := BitVec.ofNat 32 (leNat bs)

/-- Four bytes, most significant first (R487). -/
def beWord (b0 b1 b2 b3 : Byte) : Word := b0 ++ b1 ++ b2 ++ b3

/-- A byte sequence cut into consecutive groups of `n`; `fuel` bounds the number of groups. -/
def groupsOf (n : Nat) : Nat → List Byte → List (List Byte)
  | 0, _ => []
  | _ + 1, [] => []
  | fuel + 1, b :: bs => (b :: bs).take n :: groupsOf n fuel ((b :: bs).drop n)

/-! ### Layout masks (R164): the bits a register's row lists -/

def smrMask : Word := 0x00000067#32
def dcrMask : Word := 0x00000003#32
def ffsrMask : Word := 0xFFFFFFFE#32
def usartMrMask : Word := 0xF73FFFFF#32
def usartImrMask : Word := 0x01FF3FFF#32
def usartBrgrMask : Word := 0x0007FFFF#32
def usartRtorMask : Word := 0x0000FFFF#32
def usartTtgrMask : Word := 0x000000FF#32
def usartFidiMask : Word := 0x000007FF#32
def usartIfMask : Word := 0x000000FF#32
def spiMrMask : Word := 0xFF0F0097#32
def spiCsrMask : Word := 0xFFFFFFFB#32
def spiImrMask : Word := 0x000003FF#32
def twiMmrMask : Word := 0x007F1300#32
def twiSmrMask : Word := 0x007F0000#32
def twiIadrMask : Word := 0x00FFFFFF#32
def twiCwgrMask : Word := 0x0007FFFF#32
def twiImrMask : Word := 0x0000FF7F#32
def mciDtorMask : Word := 0x0000007F#32
def mciSdcrMask : Word := 0x00000083#32
def mciImrMask : Word := 0xC07FC3FF#32
def tcbBmrMask : Word := 0x0000003F#32
def pitMrMask : Word := 0x030FFFFF#32
def rttMrMask : Word := 0x0003FFFF#32
def dbguMrMask : Word := 0x0000CE00#32
def dbguBrgrMask : Word := 0x0000FFFF#32
def dbguImrMask : Word := 0xC0001AFB#32
def pmcScsrMask : Word := 0x000003C1#32
def pmcPcsrMask : Word := 0xFFFFFFFC#32
def pmcMorMask : Word := 0x0000FF01#32
def pmcPllarMask : Word := 0x27FFFFFF#32
def pmcPllbrMask : Word := 0x37FFFFFF#32
def pmcMckrMask : Word := 0x0000131F#32
def pmcPckMask : Word := 0x0000001F#32
def pmcImrMask : Word := 0x0000030F#32
def matrixMcfgMask : Word := 0x00000007#32
def matrixMrcrMask : Word := 0x00000003#32
def rstcMrMask : Word := 0x00000FFF#32
def sdramcMrMask : Word := 0x00000007#32
def sdramcTrMask : Word := 0x00000FFF#32
def sdramcMdrMask : Word := 0x00000003#32

/-! ### Addresses -/

/-- `TARGET_BASE` (R153). -/
def bootBase : BootTarget → Word
  | .rom => 0x00100000#32
  | .sram0 => 0x00200000#32
  | .ebiNcs0 => 0x10000000#32

/-- The address lies in the bootmem window (R153). -/
def inBootWindow (addr : Word) : Bool := decide (addr.toNat < 0x00100000)

/-- `redirect` (R154); an address outside the window stays. -/
def State.redirect (s : State) (addr : Word) : Word :=
  if inBootWindow addr then bootBase s.bootTarget + addr else addr

/-- The bootmem target the remap bits and the boot-mode pin select (R155). -/
def bootSelect (bms : Bool) (mrcr : Word) : BootTarget :=
  if mrcr &&& 3#32 ≠ 0#32 then .sram0 else if bms then .rom else .ebiNcs0

/-- The memory-backed region an address lies in (R84). -/
def memoryAt (z : MemSizes) (addr : Word) : Option MemRegion :=
  match regionOf z addr with
  | some r =>
    match r.kind with
    | .memory m => some m
    | _ => none
  | none => none

/-- A byte a DMA read may touch (R95). -/
def dmaReadable (z : MemSizes) (addr : Word) : Bool := (memoryAt z addr).isSome

/-- A byte of a `rom` region (R85). -/
def inRom (z : MemSizes) (addr : Word) : Bool :=
  match memoryAt z addr with
  | some .rom => true
  | some .nor => true
  | _ => false

/-- A byte a DMA write may touch (R95). -/
def dmaWritable (z : MemSizes) (addr : Word) : Bool :=
  match memoryAt z addr with
  | some .rom => false
  | some .nor => false
  | some _ => true
  | none => false

end Sys2Proof.Machine
end

