-- ==== Sys2Proof/Machine/Ops.lean ====
section
/-! DEFINITION. The operations every meaning shares: memory (R90, R95), the abort (R770), the order of sub-actions (R9),
the fabric's gate (R150), the outbound side of a link (R730 to R735), and the AIC, with its half of interrupt entry and
return (R200 to R225, R783, R784). -/

namespace Sys2Proof.Machine

/-! ### Memory -/

/-- The byte at an address; an unlisted address reads 0 (R821: every byte not loaded is 0). -/
def Memory.read : List Host.Cell → Nat → Byte
  | [], _ => 0#8
  | (x, b) :: m, a => if a = x then b else if a < x then 0#8 else Memory.read m a

/-- One byte stored, in canonical form: storing the value an unlisted address reads as removes the entry. -/
def Memory.write : List Host.Cell → Nat → Byte → List Host.Cell
  | [], a, v => if v = 0#8 then [] else [(a, v)]
  | (x, b) :: m, a, v =>
    if a = x then (if v = 0#8 then m else (a, v) :: m)
    else if a < x then (if v = 0#8 then (x, b) :: m else (a, v) :: (x, b) :: m)
    else (x, b) :: Memory.write m a v

/-- Canonical from an address on: addresses rise strictly and no entry is 0. -/
def Memory.wfFrom : Nat → List Host.Cell → Bool
  | _, [] => true
  | lo, (x, b) :: m => decide (lo ≤ x) && decide (b ≠ 0#8) && Memory.wfFrom (x + 1) m

/-- The canonical form of memory. -/
def Memory.wf (m : List Host.Cell) : Bool := Memory.wfFrom 0 m

/-- The byte the state holds at a (redirected) address. -/
def State.byteAt (s : State) (a : Word) : Byte := Memory.read s.mem a.toNat

/-- `MemReadBytes` (R8): `n` bytes upwards from `p`, addresses modulo 2^32, each through the bootmem alias (R95). -/
def State.loadBytes (s : State) : Word → Nat → List Byte
  | _, 0 => []
  | p, n + 1 => s.byteAt (s.redirect p) :: s.loadBytes (p + 1#32) n

/-- `MemWriteBytes` (R8): the counterpart. -/
def State.storeBytes (s : State) : Word → List Byte → State
  | _, [] => s
  | p, b :: bs => State.storeBytes (s.setMem (Memory.write s.mem (s.redirect p).toNat b)) (p + 1#32) bs

/-- Every byte of a DMA access passes a test (R95). -/
def State.dmaAll (s : State) (test : Word → Bool) : Word → Nat → Bool
  | _, 0 => true
  | p, n + 1 => test (s.redirect p) && s.dmaAll test (p + 1#32) n

/-! ### The abort and the order of sub-actions -/

/-- `raise Abort(code, info)` (R770): the machine enters the terminal fault state; what was changed before stays. -/
def State.raise (s : State) (f : Fault) : State := s.setFault (some f)

/-- The next sub-action of a rule (R9, R770): it does not happen after an abort. -/
def State.andThen (s : State) (f : State → State) : State := if s.fault.isSome then s else f s

/-- The result of a read (R120). -/
def State.returns (s : State) (v : Word) : State := s.setRdata v

/-- A register read with no side effect. -/
def readPlain (get : State → Word) (s : State) : State := s.returns (get s)

/-- Some SPI awaits an echo, so no CPU step is enabled (R390). -/
def State.held (s : State) : Bool := (s.spi 0).awaiting.isSome || (s.spi 1).awaiting.isSome

/-- A bus transaction's gate (R150): an aborted machine answers nothing and stays aborted (R770), a held transaction
waits (R390), any other has its effect. -/
def runBus (f : State → State) (s : State) : Host.Outcome State Fault Refusal :=
  match s.fault with
  | some e => .fault e
  | none => if s.held then .next s else .next (f s)

/-- The gate of every other agent's step: only an abort stops it (R390, R770). -/
def runAgent (f : State → State) (s : State) : Host.Outcome State Fault Refusal :=
  match s.fault with
  | some e => .fault e
  | none => .next (f s)

/-! ### The outbound side of a link -/

/-- `emit` (R730, R731): one unsolicited frame; with no client it is dropped and `seq` stays. -/
def emit (l : LinkId) (cat id : Byte) (payload : List Byte) (s : State) : State :=
  let x := s.link l
  if x.client then
    s.setLink l { x with
      seq := x.seq + 1#7
      outq := x.outq ++ [⟨0x80#8 ||| x.seq.setWidth 8, cat, id, payload⟩] }
  else s

/-- The pieces of a transmission (R732): 255 bytes each, the last one 1 to 255, one empty piece for nothing. `fuel`
bounds the number of cuts. -/
def chunks : Nat → List Byte → List (List Byte)
  | 0, bs => [bs]
  | fuel + 1, bs =>
    if bs.length ≤ Config.ioxMaxPayload then [bs]
    else bs.take Config.ioxMaxPayload :: chunks fuel (bs.drop Config.ioxMaxPayload)

/-- The payloads of the frames of one transmission, with the optional empty terminator (R732). -/
def framePayloads (terminator : Bool) (bs : List Byte) : List (List Byte) :=
  chunks bs.length bs ++
    (if terminator && !bs.isEmpty && bs.length % Config.ioxMaxPayload == 0 then [[]] else [])

/-- `emit_data` (R732): one DATA/DATA_OUT transmission, its frames sharing a sequence number. -/
def emitData (l : LinkId) (bs : List Byte) (s : State) : State :=
  let x := s.link l
  if x.client then
    s.setLink l { x with
      seq := x.seq + 1#7
      outq := x.outq ++ (framePayloads s.params.multiframeTerminator bs).map
        fun c => ⟨0x80#8 ||| x.seq.setWidth 8, 1#8, 2#8, c⟩ }
  else s

/-- A frame with a request's own sequence byte (R735, R663): the counter is not used. -/
def respond (l : LinkId) (seq cat id : Byte) (payload : List Byte) (s : State) : State :=
  let x := s.link l
  s.setLink l { x with outq := x.outq ++ [⟨seq, cat, id, payload⟩] }

/-- `reply` (R735) to a DATA_IN frame: the 32-bit status. -/
def reply (l : LinkId) (seq : Byte) (status : Word) (s : State) : State :=
  respond l seq 1#8 1#8 (leBytes 4 status) s

/-! ### The AIC -/

/-- The source types (R24). -/
inductive SrcType where
  | levelLow
  | edgeFalling
  | levelHigh
  | edgeRising
  deriving DecidableEq, Repr

/-- `eff_type` (R201): lines 1 to 28 are high or rising whatever software wrote. -/
def Aic.effType (a : Aic) (n : Fin 32) : SrcType :=
  if 1 ≤ n.val ∧ n.val ≤ 28 then (if bit a.smr[n.val] 5 then .edgeRising else .levelHigh)
  else
    match field a.smr[n.val] 6 5 with
    | 0 => .levelLow
    | 1 => .edgeFalling
    | 2 => .levelHigh
    | _ => .edgeRising

/-- `is_edge` (R201). -/
def Aic.isEdge (a : Aic) (n : Fin 32) : Bool :=
  match a.effType n with
  | .edgeFalling => true
  | .edgeRising => true
  | _ => false

/-- `pending` (R202). -/
def Aic.pending (a : Aic) (n : Fin 32) : Bool :=
  match a.effType n with
  | .edgeFalling => bit a.latch n.val
  | .edgeRising => bit a.latch n.val
  | .levelHigh => bit a.line n.val
  | .levelLow => !bit a.line n.val

/-- `IPR` (R207). -/
def Aic.ipr (a : Aic) : Word := bitsOf 32 fun n => a.pending (Fin.ofNat 32 n)

/-- The word of the lines that are edge lines, for `ISCR` and `ICCR` (R209). -/
def Aic.edgeLines (a : Aic) : Word := bitsOf 32 fun n => a.isEdge (Fin.ofNat 32 n)

/-- `SMR[n].PRIOR` (R203). -/
def Aic.prio (a : Aic) (n : Fin 32) : Nat := field a.smr[n.val] 2 0

/-- `n` is in `cand` (R211). -/
def Aic.cand (a : Aic) (n : Fin 32) : Bool :=
  decide (n.val ≠ 0) && a.pending n && bit a.imr n.val && !bit a.ffsr n.val

/-- One more line considered for selection: a candidate replaces the best so far only if its priority is greater. -/
def Aic.better (a : Aic) (best : Option (Fin 32)) (n : Fin 32) : Option (Fin 32) :=
  if a.cand n then
    match best with
    | none => some n
    | some m => if a.prio m < a.prio n then some n else some m
  else best

/-- `select` (R211): greatest priority, and among those the smallest line. -/
def Aic.select (a : Aic) : Option (Fin 32) := (List.finRange 32).foldl a.better none

/-- A priority is above the one in service (R217): with an empty stack every priority is. -/
def Aic.aboveCurrent (a : Aic) (p : Nat) : Bool :=
  match a.stack.getLast? with
  | none => true
  | some e => decide (e.prio < p)

/-- `DCR.GMSK` (R206). -/
def Aic.masked (a : Aic) : Bool := bit a.dcr 1

/-- `DCR.PROT` (R206). -/
def Aic.protect (a : Aic) : Bool := bit a.dcr 0

/-- `nIRQ` (R217). -/
def Aic.nirqLevel (a : Aic) : Bool :=
  !a.masked && (List.finRange 32).any fun n => a.cand n && a.aboveCurrent (a.prio n)

/-- `nFIQ` (R218). -/
def Aic.nfiqLevel (a : Aic) : Bool :=
  !a.masked && (List.finRange 32).any fun n =>
    a.pending n && bit a.imr n.val && (decide (n.val = 0) || bit a.ffsr n.val)

/-- Both outputs recomputed (R217, R218). -/
def Aic.update (a : Aic) : Aic := { a with nirq := a.nirqLevel, nfiq := a.nfiqLevel }

/-- `aic_update` on the state (R99). -/
def aicUpdate (s : State) : State := s.setAic s.aic.update

/-- A register of the AIC changes and the outputs follow (R217). -/
def aicChange (f : Aic → Aic) (s : State) : State := s.setAic (f s.aic).update

/-- The edge latch of a line after its level goes to `b` (R222). -/
def Aic.latchAfter (a : Aic) (n : Fin 32) (b : Bool) : Word :=
  match a.effType n with
  | .edgeRising => if b then putBit a.latch n.val true else a.latch
  | .edgeFalling => if b then a.latch else putBit a.latch n.val true
  | _ => a.latch

/-- Input line change (R222); the level it already has changes nothing. -/
def driveLine (n : Fin 32) (b : Bool) (s : State) : State :=
  if bit s.aic.line n.val = b then s
  else aicChange (fun a => { a with line := putBit a.line n.val b, latch := a.latchAfter n b }) s

/-- Stub input change (R224): the OR of the inputs drives line 1. -/
def driveStub (k : Fin 32) (b : Bool) (s : State) : State :=
  let stub := putBit s.stubIn k.val b
  driveLine 1 (decide (stub ≠ 0#32)) (s.setStubIn stub)

/-- The acknowledge of R212, the AIC's part of interrupt entry (R783): the in-service stack takes the selected line and
its priority, or the sentinel (0, 8); an edge latch is cleared; the outputs follow. A full stack aborts. -/
def aicAcknowledge (s : State) : State :=
  if s.aic.stack.length = Config.aicStackDepth then s.raise (.aicStack s.aic.stack.length)
  else
    match s.aic.select with
    | some n =>
      aicChange (fun a =>
        { a with
          stack := a.stack ++ [⟨n, a.prio n⟩]
          latch := if a.isEdge n then putBit a.latch n.val false else a.latch }) s
    | none => aicChange (fun a => { a with stack := a.stack ++ [⟨0, 8⟩] }) s

/-- The end of interrupt of R216, the AIC's part of interrupt return (R784): the stack loses its top. -/
def aicEndOfInterrupt (s : State) : State := aicChange (fun a => { a with stack := a.stack.dropLast }) s

/-- The vector a read of `IVR` returns (R212, R214). -/
def Aic.vector (a : Aic) : Word :=
  match a.select with
  | some n => a.svr[n.val]
  | none => a.spu

end Sys2Proof.Machine
end

