-- ==== Sys2Proof/Machine/Flags.lean ====
section
/-! DEFINITION. Every status word the block computes (R22) and every interrupt output, which is a function of a status
word and a mask (R778), with the AIC line or stub input it drives (R780, R781). -/

namespace Sys2Proof.Machine

/-! ### USART -/

/-- `CSR` (R306). -/
def State.usartCsr (s : State) (u : Fin 6) : Word :=
  let x := s.usart u
  let p := s.pdc (.usart u)
  bitAt (x.rxrdy && x.rxEnabled) 0 ||| bitAt x.txEnabled 1 ||| bitAt p.endrx 3 ||| bitAt p.endtx 4
    ||| bitAt x.ovre 5 ||| bitAt x.frame 6 ||| bitAt x.pare 7 ||| bitAt x.timeout 8 ||| bitAt x.txEnabled 9
    ||| bitAt p.txbufe 11 ||| bitAt p.rxbuff 12

/-- The AIC line of a USART (R780). -/
def usartLine (u : Fin 6) : Fin 32 :=
  match u with
  | 0 => 6
  | 1 => 7
  | 2 => 8
  | 3 => 23
  | 4 => 24
  | 5 => 25

/-- `update_irq` of a USART (R307). -/
def usartUpdateIrq (u : Fin 6) (s : State) : State :=
  driveLine (usartLine u) (decide (s.usartCsr u &&& (s.usart u).imr ≠ 0#32)) s

/-! ### SPI -/

/-- `SR` (R375), before the read clears anything. -/
def State.spiSr (s : State) (u : Fin 2) : Word :=
  let x := s.spi u
  let p := s.pdc (.spi u)
  bitAt x.rdrf 0 ||| bitAt x.enabled 1 ||| bitAt x.modf 2 ||| bitAt x.ovres 3 ||| bitAt p.endrx 4
    ||| bitAt p.endtx 5 ||| bitAt p.rxbuff 6 ||| bitAt p.txbufe 7 ||| bitAt x.enabled 9 ||| bitAt x.enabled 16

/-- The AIC line of an SPI (R780). -/
def spiLine (u : Fin 2) : Fin 32 :=
  match u with
  | 0 => 12
  | 1 => 13

/-- `update_irq` of an SPI (R377). -/
def spiUpdateIrq (u : Fin 2) (s : State) : State :=
  driveLine (spiLine u) (decide (s.spiSr u &&& (s.spi u).imr ≠ 0#32)) s

/-! ### TWI -/

/-- `SR` (R436), before the read clears anything. -/
def State.twiSr (s : State) : Word :=
  let x := s.twi
  let p := s.pdc .twi
  bitAt x.txcomp 0 ||| bitAt x.rxrdy 1 ||| bitAt (decide (x.mode = .master)) 2 ||| bitAt x.ovre 6
    ||| bitAt x.nack 8 ||| bitAt x.arblst 9 ||| bitAt p.endrx 12 ||| bitAt p.endtx 13 ||| bitAt p.rxbuff 14
    ||| bitAt p.txbufe 15

/-- `update_irq` of the TWI (R438), AIC line 11 (R780). -/
def twiUpdateIrq (s : State) : State := driveLine 11 (decide (s.twiSr &&& s.twi.imr ≠ 0#32)) s

/-! ### MCI -/

/-- `MR.PDCMODE` (R35). -/
def Mci.pdcMode (x : Mci) : Bool := x.mrLow.getLsbD 15

/-- `MR.PDCFBYTE` (R35). -/
def Mci.pdcForceByte (x : Mci) : Bool := x.mrLow.getLsbD 13

/-- `SdBus.data_ready` (R481): what the environment said, or a free value. -/
def State.sdDataReady (s : State) (card : Fin 2) : Bool :=
  match s.sd.cards[card.val].ready with
  | some b => b
  | none => Config.sdReady s.sd.asks card

/-- A number of bytes is left. -/
def MciRemaining.nonzero : MciRemaining → Bool
  | .bytes n => decide (n ≠ 0)
  | .infinite => true

/-- `SR.RXRDY` (R485). -/
def State.mciRxrdy (s : State) : Bool :=
  match s.mci.xfer with
  | .active .read rem _ _ => rem.nonzero && !s.mci.pdcMode && s.sdDataReady s.mci.selectedCard
  | _ => false

/-- `SR` (R485), before the read clears anything. -/
def State.mciSr (s : State) : Word :=
  let x := s.mci
  let p := s.pdc .mci
  bitAt x.cmdrdy 0 ||| bitAt s.mciRxrdy 1 ||| bitAt true 2 ||| bitAt x.blke 3
    ||| bitAt (decide (x.xfer ≠ .idle)) 4 ||| bitAt true 5 ||| bitAt p.endrx 6 ||| bitAt p.endtx 7
    ||| bitAt p.rxbuff 14 ||| bitAt p.txbufe 15 ||| bitAt x.rinde 16 ||| bitAt x.rdire 17 ||| bitAt x.rcrce 18
    ||| bitAt x.rende 19 ||| bitAt x.rtoe 20 ||| bitAt x.dcrce 21 ||| bitAt x.dtoe 22 ||| bitAt x.ovre 30
    ||| bitAt x.unre 31

/-- `update_irq` of the MCI (R486), AIC line 9 (R780). It may ask the card whether data is ready, so the count of
questions moves on. -/
def mciUpdateIrq (s : State) : State :=
  let s' := driveLine 9 (decide (s.mciSr &&& s.mci.imr ≠ 0#32)) s
  s'.setSd { s'.sd with asks := s'.sd.asks + 1 }

/-- `update_irq` of the host of a PDC (R260). -/
def pdcUpdateIrq (h : PdcHost) (s : State) : State :=
  match h with
  | .usart u => usartUpdateIrq u s
  | .spi u => spiUpdateIrq u s
  | .twi => twiUpdateIrq s
  | .mci => mciUpdateIrq s

/-! ### Timers -/

/-- `SR` of a TC channel (R556), before the read clears anything. -/
def State.tcSr (s : State) (c : Fin 6) : Word :=
  let x := s.tc c
  x.latches.setWidth 32 ||| bitAt x.clkEnabled 16

/-- The AIC line of a TC channel (R780). -/
def tcLine (c : Fin 6) : Fin 32 :=
  match c with
  | 0 => 17
  | 1 => 18
  | 2 => 19
  | 3 => 26
  | 4 => 27
  | 5 => 28

/-- `update_irq` of a TC channel (R557). -/
def tcUpdateIrq (c : Fin 6) (s : State) : State :=
  driveLine (tcLine c) (decide ((s.tc c).latches &&& (s.tc c).imr ≠ 0#8)) s

/-- `PIVR` and `PIIR` (R582, R583). -/
def Pit.value (x : Pit) : Word := x.picnt ++ x.cpiv

/-- `update_irq` of the PIT (R585), stub input 0 (R781). -/
def pitUpdateIrq (s : State) : State := driveStub 0 (s.pit.pits && bit s.pit.mr 25) s

/-- `SR` of the RTT (R593). -/
def Rtt.sr (x : Rtt) : Word := bitAt x.alms 0 ||| bitAt x.rttinc 1

/-- `update_irq` of the RTT (R595), stub input 1 (R781). -/
def rttUpdateIrq (s : State) : State :=
  driveStub 1 ((s.rtt.alms && bit s.rtt.mr 16) || (s.rtt.rttinc && bit s.rtt.mr 17)) s

/-! ### DBGU, PIO, PMC, SDRAMC -/

/-- `SR` of the DBGU (R634): TXRDY and TXEMPTY are constant. -/
def Dbgu.sr (x : Dbgu) : Word := bitAt x.rxrdy 0 ||| bitAt true 1 ||| bitAt x.ovre 5 ||| bitAt true 9

/-- `update_irq` of the DBGU (R640), stub input 2 (R781). -/
def dbguUpdateIrq (s : State) : State := driveStub 2 (decide (s.dbgu.sr &&& s.dbgu.imr ≠ 0#32)) s

/-- The AIC line of a PIO (R780). -/
def pioLine (p : Fin 3) : Fin 32 :=
  match p with
  | 0 => 2
  | 1 => 3
  | 2 => 4

/-- `update_irq` of a PIO (R662). -/
def pioUpdateIrq (p : Fin 3) (s : State) : State :=
  driveLine (pioLine p) (decide ((s.pio p).isr &&& (s.pio p).imr ≠ 0#32)) s

/-- `SR` of the PMC (R680, R678). -/
def Pmc.sr (x : Pmc) : Word :=
  bitAt x.moscs 0 ||| bitAt x.locka 1 ||| bitAt x.lockb 2 ||| bitAt x.mckrdy 3 ||| bitAt (bit x.scsr 8) 8
    ||| bitAt (bit x.scsr 9) 9

/-- `CKGR_MCFR` (R674). -/
def Pmc.mcfr (x : Pmc) : Word :=
  if bit x.mor 0 then BitVec.ofNat 32 (Config.mainckHz * 16 / Config.slckHz) ||| bitAt true 16 else 0#32

/-- `update_irq` of the PMC (R680), stub input 3 (R781). -/
def pmcUpdateIrq (s : State) : State := driveStub 3 (decide (s.pmc.sr &&& s.pmc.imr ≠ 0#32)) s

/-- `update_irq` of the SDRAMC (R175), stub input 4 (R781). -/
def sdramcUpdateIrq (s : State) : State := driveStub 4 (s.sdramc.res && s.sdramc.imr) s

/-- `RSTC_SR` (R171). -/
def Rstc.sr (x : Rstc) : Word := (x.rsttyp.setWidth 32 <<< 8) ||| bitAt true 16

/-- `ISR` of the AIC (R220): the line on top of the stack, 0 if it is empty. -/
def Aic.isr (a : Aic) : Word :=
  match a.stack.getLast? with
  | some e => BitVec.ofNat 32 e.irq.val
  | none => 0#32

/-- `CISR` (R221). -/
def Aic.cisr (a : Aic) : Word := bitAt a.nfiq 0 ||| bitAt a.nirq 1

/-- `PTSR` (R267). -/
def Pdc.ptsr (p : Pdc) : Word := bitAt p.rxten 0 ||| bitAt p.txten 8

end Sys2Proof.Machine
end

