-- ==== Sys2Proof/Machine/Access.lean ====
section
/-! DEFINITION. CPU accesses to the regions that hold no registers: memory (R90, R85), the bootmem alias (R154) and the
unimplemented windows (R160). -/

namespace Sys2Proof.Machine

/-- The first of `n` bytes upwards from `p` that lies outside every memory-backed region (R8). -/
def State.firstOutside (s : State) : Word → Nat → Option Word
  | _, 0 => none
  | p, n + 1 =>
    if (memoryAt s.params.sizes (s.redirect p)).isSome then s.firstOutside (p + 1#32) n else some (s.redirect p)

/-- The check that `MemRead` and `MemWrite` begin with (R8): an access with a byte outside every memory-backed region
aborts before anything moves. That byte is at a reserved address (R87), so the cause is `A_RESERVED` (R158, R771);
DEDUCED, log entry 34. -/
def memAccess (dir : Dir) (addr : Word) (size : AccessSize) (v : Word) (f : State → State) (s : State) : State :=
  match s.firstOutside addr size.bytes with
  | some a => s.raise (.reserved addr a dir size.bytes v)
  | none => f s

/-- `MemRead` (R8, R90): the bytes assembled little-endian, zero-extended. -/
def memRead (addr : Word) (size : AccessSize) (s : State) : State :=
  memAccess .read addr size 0 (fun t => t.returns (leWord (t.loadBytes addr size.bytes))) s

/-- `MemWrite` (R8, R90): the low bytes of the datum, least significant first. -/
def memWrite (addr : Word) (size : AccessSize) (v : Word) (s : State) : State :=
  memAccess .write addr size v (fun t => t.storeBytes addr (leBytes size.bytes v)) s

/-- A write to ROM or NOR (R85). -/
def romWrite (addr v : Word) (s : State) : State := s.raise (.romWrite addr v)

/-- An access redirected to where no memory answers (R154): the size is checked first (R152, R774). -/
def bootReserved (dir : Dir) (addr : Word) (size : AccessSize) (v : Word) (s : State) : State :=
  if size = .word then s.raise (.reserved addr (s.redirect addr) dir size.bytes v)
  else s.raise (.accessSize (s.redirect addr) size.bytes)

/-- A read through the bootmem window (R154). -/
def bootRead (addr : Word) (size : AccessSize) (s : State) : State :=
  match memoryAt s.params.sizes (s.redirect addr) with
  | some _ => memRead (s.redirect addr) size s
  | none => bootReserved .read addr size 0 s

/-- A write through the bootmem window (R154): ROM and NOR abort, SRAM0 takes it. -/
def bootWrite (addr : Word) (size : AccessSize) (v : Word) (s : State) : State :=
  match memoryAt s.params.sizes (s.redirect addr) with
  | some .rom => romWrite (s.redirect addr) v s
  | some .nor => romWrite (s.redirect addr) v s
  | some _ => memWrite (s.redirect addr) size v s
  | none => bootReserved .write addr size v s

/-- The base of an unimplemented window (R86). -/
def unimplBase : UnimplWindow → Word
  | .uhp => 0x00500000#32
  | .udp => 0xFFFA4000#32
  | .ssc => 0xFFFBC000#32
  | .isi => 0xFFFC0000#32
  | .emac => 0xFFFC4000#32
  | .adc => 0xFFFE0000#32
  | .ecc => 0xFFFFE800#32
  | .smc => 0xFFFFEC00#32
  | .shdwc => 0xFFFFFD10#32
  | .wdt => 0xFFFFFD40#32
  | .gpbr => 0xFFFFFD50#32

/-- A read of an unimplemented window (R160): 0, or the abort its flag asks for. -/
def unimplRead (w : UnimplWindow) (addr : Word) (s : State) : State :=
  if s.params.unimplReadAbort then s.raise (.unimpl w (addr - unimplBase w).toNat .read 0) else s.returns 0

/-- A write to an unimplemented window (R160): discarded, or the abort its flag asks for. -/
def unimplWrite (w : UnimplWindow) (addr v : Word) (s : State) : State :=
  if s.params.unimplWriteAbort then s.raise (.unimpl w (addr - unimplBase w).toNat .write v) else s

end Sys2Proof.Machine
end

