-- ==== Sys2Proof/Machine/ExecAccess.lean ====
section
/-! DEFINITION. The meanings of the rows of memory, bootmem and unimplemented windows (R90, R85, R154, R160): one definition per row, over the shared operations. -/

namespace Sys2Proof.Machine

/-- `BOOTMEM.R` (R154). -/
def execBootmemR (addr : Word) (size : AccessSize) (s : State) : Host.Outcome State Fault Refusal :=
  runBus (bootRead addr size) s

/-- `BOOTMEM.W` (R154). -/
def execBootmemW (addr : Word) (size : AccessSize) (v : Word) (s : State) : Host.Outcome State Fault Refusal :=
  runBus (bootWrite addr size v) s

/-- `ROM.R` (R90). -/
def execRomR (addr : Word) (size : AccessSize) (s : State) : Host.Outcome State Fault Refusal :=
  runBus (memRead addr size) s

/-- `ROM.W` (R85). -/
def execRomW (addr : Word) (_size : AccessSize) (v : Word) (s : State) : Host.Outcome State Fault Refusal :=
  runBus (romWrite addr v) s

/-- `SRAM0.R` (R90). -/
def execSram0R (addr : Word) (size : AccessSize) (s : State) : Host.Outcome State Fault Refusal :=
  runBus (memRead addr size) s

/-- `SRAM0.W` (R90). -/
def execSram0W (addr : Word) (size : AccessSize) (v : Word) (s : State) : Host.Outcome State Fault Refusal :=
  runBus (memWrite addr size v) s

/-- `SRAM1.R` (R90). -/
def execSram1R (addr : Word) (size : AccessSize) (s : State) : Host.Outcome State Fault Refusal :=
  runBus (memRead addr size) s

/-- `SRAM1.W` (R90). -/
def execSram1W (addr : Word) (size : AccessSize) (v : Word) (s : State) : Host.Outcome State Fault Refusal :=
  runBus (memWrite addr size v) s

/-- `NOR.R` (R90). -/
def execNorR (addr : Word) (size : AccessSize) (s : State) : Host.Outcome State Fault Refusal :=
  runBus (memRead addr size) s

/-- `NOR.W` (R85). -/
def execNorW (addr : Word) (_size : AccessSize) (v : Word) (s : State) : Host.Outcome State Fault Refusal :=
  runBus (romWrite addr v) s

/-- `SDRAM.R` (R90). -/
def execSdramR (addr : Word) (size : AccessSize) (s : State) : Host.Outcome State Fault Refusal :=
  runBus (memRead addr size) s

/-- `SDRAM.W` (R90). -/
def execSdramW (addr : Word) (size : AccessSize) (v : Word) (s : State) : Host.Outcome State Fault Refusal :=
  runBus (memWrite addr size v) s

/-- `UNIMPL_UHP.R` (R160). -/
def execUnimplUhpR (addr : Word) (s : State) : Host.Outcome State Fault Refusal :=
  runBus (unimplRead .uhp addr) s

/-- `UNIMPL_UHP.W` (R160). -/
def execUnimplUhpW (addr v : Word) (s : State) : Host.Outcome State Fault Refusal :=
  runBus (unimplWrite .uhp addr v) s

/-- `UNIMPL_UDP.R` (R160). -/
def execUnimplUdpR (addr : Word) (s : State) : Host.Outcome State Fault Refusal :=
  runBus (unimplRead .udp addr) s

/-- `UNIMPL_UDP.W` (R160). -/
def execUnimplUdpW (addr v : Word) (s : State) : Host.Outcome State Fault Refusal :=
  runBus (unimplWrite .udp addr v) s

/-- `UNIMPL_SSC.R` (R160). -/
def execUnimplSscR (addr : Word) (s : State) : Host.Outcome State Fault Refusal :=
  runBus (unimplRead .ssc addr) s

/-- `UNIMPL_SSC.W` (R160). -/
def execUnimplSscW (addr v : Word) (s : State) : Host.Outcome State Fault Refusal :=
  runBus (unimplWrite .ssc addr v) s

/-- `UNIMPL_ISI.R` (R160). -/
def execUnimplIsiR (addr : Word) (s : State) : Host.Outcome State Fault Refusal :=
  runBus (unimplRead .isi addr) s

/-- `UNIMPL_ISI.W` (R160). -/
def execUnimplIsiW (addr v : Word) (s : State) : Host.Outcome State Fault Refusal :=
  runBus (unimplWrite .isi addr v) s

/-- `UNIMPL_EMAC.R` (R160). -/
def execUnimplEmacR (addr : Word) (s : State) : Host.Outcome State Fault Refusal :=
  runBus (unimplRead .emac addr) s

/-- `UNIMPL_EMAC.W` (R160). -/
def execUnimplEmacW (addr v : Word) (s : State) : Host.Outcome State Fault Refusal :=
  runBus (unimplWrite .emac addr v) s

/-- `UNIMPL_ADC.R` (R160). -/
def execUnimplAdcR (addr : Word) (s : State) : Host.Outcome State Fault Refusal :=
  runBus (unimplRead .adc addr) s

/-- `UNIMPL_ADC.W` (R160). -/
def execUnimplAdcW (addr v : Word) (s : State) : Host.Outcome State Fault Refusal :=
  runBus (unimplWrite .adc addr v) s

/-- `UNIMPL_ECC.R` (R160). -/
def execUnimplEccR (addr : Word) (s : State) : Host.Outcome State Fault Refusal :=
  runBus (unimplRead .ecc addr) s

/-- `UNIMPL_ECC.W` (R160). -/
def execUnimplEccW (addr v : Word) (s : State) : Host.Outcome State Fault Refusal :=
  runBus (unimplWrite .ecc addr v) s

/-- `UNIMPL_SMC.R` (R160). -/
def execUnimplSmcR (addr : Word) (s : State) : Host.Outcome State Fault Refusal :=
  runBus (unimplRead .smc addr) s

/-- `UNIMPL_SMC.W` (R160). -/
def execUnimplSmcW (addr v : Word) (s : State) : Host.Outcome State Fault Refusal :=
  runBus (unimplWrite .smc addr v) s

/-- `UNIMPL_SHDWC.R` (R160). -/
def execUnimplShdwcR (addr : Word) (s : State) : Host.Outcome State Fault Refusal :=
  runBus (unimplRead .shdwc addr) s

/-- `UNIMPL_SHDWC.W` (R160). -/
def execUnimplShdwcW (addr v : Word) (s : State) : Host.Outcome State Fault Refusal :=
  runBus (unimplWrite .shdwc addr v) s

/-- `UNIMPL_WDT.R` (R160). -/
def execUnimplWdtR (addr : Word) (s : State) : Host.Outcome State Fault Refusal :=
  runBus (unimplRead .wdt addr) s

/-- `UNIMPL_WDT.W` (R160). -/
def execUnimplWdtW (addr v : Word) (s : State) : Host.Outcome State Fault Refusal :=
  runBus (unimplWrite .wdt addr v) s

/-- `UNIMPL_GPBR.R` (R160). -/
def execUnimplGpbrR (addr : Word) (s : State) : Host.Outcome State Fault Refusal :=
  runBus (unimplRead .gpbr addr) s

/-- `UNIMPL_GPBR.W` (R160). -/
def execUnimplGpbrW (addr v : Word) (s : State) : Host.Outcome State Fault Refusal :=
  runBus (unimplWrite .gpbr addr v) s

end Sys2Proof.Machine
end

