-- ==== Sys2Proof/Machine/AicRegs.lean ====
section
/-! DEFINITION. The AIC's registers (R203 to R221); the controller itself is in `Ops.lean`. -/

namespace Sys2Proof.Machine

/-- `SMR[n]` write (R203). -/
def aicWriteSmr (n : Fin 32) (v : Word) (s : State) : State :=
  aicChange (fun a => { a with smr := a.smr.set n.val (v &&& smrMask) }) s

/-- `SVR[n]` write (R204). -/
def aicWriteSvr (n : Fin 32) (v : Word) (s : State) : State :=
  s.setAic { s.aic with svr := s.aic.svr.set n.val v }

/-- `SPU` write (R205). -/
def aicWriteSpu (v : Word) (s : State) : State := s.setAic { s.aic with spu := v }

/-- `DCR` write (R206). -/
def aicWriteDcr (v : Word) (s : State) : State := aicChange (fun a => { a with dcr := v &&& dcrMask }) s

/-- `IECR` write (R208). -/
def aicWriteIecr (v : Word) (s : State) : State := aicChange (fun a => { a with imr := setBits a.imr v }) s

/-- `IDCR` write (R208). -/
def aicWriteIdcr (v : Word) (s : State) : State := aicChange (fun a => { a with imr := clearBits a.imr v }) s

/-- `ISCR` write (R209): only edge lines have a latch to set. -/
def aicWriteIscr (v : Word) (s : State) : State :=
  aicChange (fun a => { a with latch := setBits a.latch (v &&& a.edgeLines) }) s

/-- `ICCR` write (R209). -/
def aicWriteIccr (v : Word) (s : State) : State :=
  aicChange (fun a => { a with latch := clearBits a.latch (v &&& a.edgeLines) }) s

/-- `FFER` write (R210): bit 0 cannot be set. -/
def aicWriteFfer (v : Word) (s : State) : State :=
  aicChange (fun a => { a with ffsr := setBits a.ffsr (v &&& ffsrMask) }) s

/-- `FFDR` write (R210). -/
def aicWriteFfdr (v : Word) (s : State) : State := aicChange (fun a => { a with ffsr := clearBits a.ffsr v }) s

/-- `IVR` read (R212, R214): the vector; outside protect mode the read acknowledges. -/
def aicReadIvr (s : State) : State :=
  let v := s.aic.vector
  if s.aic.protect then s.returns v else (aicAcknowledge s).andThen fun t => t.returns v

/-- `IVR` write (R215): it acknowledges in protect mode and does nothing outside it; the datum is ignored. -/
def aicWriteIvr (s : State) : State := if s.aic.protect then aicAcknowledge s else s

/-- `FVR` read (R219): the FIQ vector; an edge latch of line 0 is cleared. -/
def aicReadFvr (s : State) : State :=
  let v := s.aic.svr[0]
  (aicChange (fun a => { a with latch := if a.isEdge 0 then putBit a.latch 0 false else a.latch }) s).returns v

end Sys2Proof.Machine
end

