-- ==== Sys2Proof/Machine/ExecAic.lean ====
section
/-! DEFINITION. The meanings of the rows of the AIC (R203 to R221): one definition per row, over the shared operations. -/

namespace Sys2Proof.Machine

/-- `AIC_SMR[n].R` (R203). -/
def execAicSmrR (n : Fin 32) (s : State) : Host.Outcome State Fault Refusal :=
  runBus (readPlain (fun s => s.aic.smr[n.val])) s

/-- `AIC_SMR[n].W` (R203). -/
def execAicSmrW (n : Fin 32) (v : Word) (s : State) : Host.Outcome State Fault Refusal :=
  runBus (aicWriteSmr n v) s

/-- `AIC_SVR[n].R` (R204). -/
def execAicSvrR (n : Fin 32) (s : State) : Host.Outcome State Fault Refusal :=
  runBus (readPlain (fun s => s.aic.svr[n.val])) s

/-- `AIC_SVR[n].W` (R204). -/
def execAicSvrW (n : Fin 32) (v : Word) (s : State) : Host.Outcome State Fault Refusal :=
  runBus (aicWriteSvr n v) s

/-- `AIC_IVR.R` (R212). -/
def execAicIvrR (s : State) : Host.Outcome State Fault Refusal :=
  runBus aicReadIvr s

/-- `AIC_IVR.W` (R215). -/
def execAicIvrW (_v : Word) (s : State) : Host.Outcome State Fault Refusal :=
  runBus aicWriteIvr s

/-- `AIC_FVR.R` (R219). -/
def execAicFvrR (s : State) : Host.Outcome State Fault Refusal :=
  runBus aicReadFvr s

/-- `AIC_ISR.R` (R220). -/
def execAicIsrR (s : State) : Host.Outcome State Fault Refusal :=
  runBus (readPlain (fun s => s.aic.isr)) s

/-- `AIC_IPR.R` (R207). -/
def execAicIprR (s : State) : Host.Outcome State Fault Refusal :=
  runBus (readPlain (fun s => s.aic.ipr)) s

/-- `AIC_IMR.R` (R208). -/
def execAicImrR (s : State) : Host.Outcome State Fault Refusal :=
  runBus (readPlain (fun s => s.aic.imr)) s

/-- `AIC_CISR.R` (R221). -/
def execAicCisrR (s : State) : Host.Outcome State Fault Refusal :=
  runBus (readPlain (fun s => s.aic.cisr)) s

/-- `AIC_IECR.W` (R208). -/
def execAicIecrW (v : Word) (s : State) : Host.Outcome State Fault Refusal :=
  runBus (aicWriteIecr v) s

/-- `AIC_IDCR.W` (R208). -/
def execAicIdcrW (v : Word) (s : State) : Host.Outcome State Fault Refusal :=
  runBus (aicWriteIdcr v) s

/-- `AIC_ICCR.W` (R209). -/
def execAicIccrW (v : Word) (s : State) : Host.Outcome State Fault Refusal :=
  runBus (aicWriteIccr v) s

/-- `AIC_ISCR.W` (R209). -/
def execAicIscrW (v : Word) (s : State) : Host.Outcome State Fault Refusal :=
  runBus (aicWriteIscr v) s

/-- `AIC_EOICR.W` (R216). -/
def execAicEoicrW (_v : Word) (s : State) : Host.Outcome State Fault Refusal :=
  runBus aicEndOfInterrupt s

/-- `AIC_SPU.R` (R205). -/
def execAicSpuR (s : State) : Host.Outcome State Fault Refusal :=
  runBus (readPlain (fun s => s.aic.spu)) s

/-- `AIC_SPU.W` (R205). -/
def execAicSpuW (v : Word) (s : State) : Host.Outcome State Fault Refusal :=
  runBus (aicWriteSpu v) s

/-- `AIC_DCR.R` (R206). -/
def execAicDcrR (s : State) : Host.Outcome State Fault Refusal :=
  runBus (readPlain (fun s => s.aic.dcr)) s

/-- `AIC_DCR.W` (R206). -/
def execAicDcrW (v : Word) (s : State) : Host.Outcome State Fault Refusal :=
  runBus (aicWriteDcr v) s

/-- `AIC_FFER.W` (R210). -/
def execAicFferW (v : Word) (s : State) : Host.Outcome State Fault Refusal :=
  runBus (aicWriteFfer v) s

/-- `AIC_FFDR.W` (R210). -/
def execAicFfdrW (v : Word) (s : State) : Host.Outcome State Fault Refusal :=
  runBus (aicWriteFfdr v) s

/-- `AIC_FFSR.R` (R210). -/
def execAicFfsrR (s : State) : Host.Outcome State Fault Refusal :=
  runBus (readPlain (fun s => s.aic.ffsr)) s

end Sys2Proof.Machine
end

