-- ==== Sys2Proof/Machine/Pdc.lean ====
section
/-! DEFINITION. The PDC transfers (R270 to R273) and the flag rule (R268), for any host. The registers' rows are in
`PdcRegs.lean`, after the hosts whose procedures they call. -/

namespace Sys2Proof.Machine

/-- `pdc_rx_active` (R271). -/
def Pdc.rxActive (p : Pdc) : Bool := p.rxten && (decide (p.rcr ≠ 0#16) || decide (p.rncr ≠ 0#16))

/-- `pdc_tx_active` (R271). -/
def Pdc.txActive (p : Pdc) : Bool := p.txten && (decide (p.tcr ≠ 0#16) || decide (p.tncr ≠ 0#16))

/-- RXBUFF recomputed (R268, R270). -/
def Pdc.withRxbuff (p : Pdc) : Pdc :=
  { p with rxbuff := decide (p.rcr = 0#16) && decide (p.rncr = 0#16) && p.rxten }

/-- TXBUFE recomputed (R268, R272). -/
def Pdc.withTxbufe (p : Pdc) : Pdc :=
  { p with txbufe := decide (p.tcr = 0#16) && decide (p.tncr = 0#16) && p.txten }

/-- `pdc_flags_after_write` for RX (R268); `w` is the count just written, if one was. -/
def Pdc.rxFlagsAfterWrite (w : Option (BitVec 16)) (p : Pdc) : Pdc :=
  let endrx :=
    match w with
    | some v => if v ≠ 0#16 then false else if p.rcr = 0#16 ∧ p.rxten then true else p.endrx
    | none => if p.rcr = 0#16 ∧ p.rxten then true else p.endrx
  ({ p with endrx := endrx }).withRxbuff

/-- `pdc_flags_after_write` for TX (R268). -/
def Pdc.txFlagsAfterWrite (w : Option (BitVec 16)) (p : Pdc) : Pdc :=
  let endtx :=
    match w with
    | some v => if v ≠ 0#16 then false else if p.tcr = 0#16 ∧ p.txten then true else p.endtx
    | none => if p.tcr = 0#16 ∧ p.txten then true else p.endtx
  ({ p with endtx := endtx }).withTxbufe

/-- The receive pair rolls over (R270): the next pair becomes current when the current count is 0. -/
def Pdc.rxRollOver (p : Pdc) : Pdc :=
  if p.rcr = 0#16 ∧ p.rncr ≠ 0#16 then { p with rpr := p.rnpr, rcr := p.rncr, rncr := 0#16 } else p

/-- The transmit pair rolls over (R272). -/
def Pdc.txRollOver (p : Pdc) : Pdc :=
  if p.tcr = 0#16 ∧ p.tncr ≠ 0#16 then { p with tpr := p.tnpr, tcr := p.tncr, tncr := 0#16 } else p

/-- `k` units received (R270). -/
def Pdc.rxAdvance (k unit : Nat) (p : Pdc) : Pdc :=
  let rcr := p.rcr - BitVec.ofNat 16 k
  { p with
    rpr := p.rpr + BitVec.ofNat 32 (k * unit)
    rcr := rcr
    endrx := p.endrx || decide (rcr = 0#16) }

/-- `k` units read for transmission (R272). -/
def Pdc.txAdvance (k unit : Nat) (p : Pdc) : Pdc :=
  let tcr := p.tcr - BitVec.ofNat 16 k
  { p with
    tpr := p.tpr + BitVec.ofNat 32 (k * unit)
    tcr := tcr
    endtx := p.endtx || decide (tcr = 0#16) }

/-- The underlying error of a DMA write that may not happen, by the first byte that may not be written: the `A_ROM_WRITE`
of R85 for a byte of a `rom` region, else that there is no memory (R95). -/
def State.dmaWriteError (s : State) : Word → List Byte → DmaError
  | _, [] => .notMemory
  | p, b :: bs =>
    let a := s.redirect p
    if dmaWritable s.params.sizes a then s.dmaWriteError (p + 1#32) bs
    else if inRom s.params.sizes a then .romWrite a (b.setWidth 32)
    else .notMemory

/-- `MemWriteBytes` of a DMA (R95, R273): every byte must be writable memory, or the machine aborts with `A_DMA` and the
underlying error (R12). -/
def dmaStore (h : PdcHost) (p : Word) (bs : List Byte) (s : State) : State :=
  if s.dmaAll (dmaWritable s.params.sizes) p bs.length then s.storeBytes p bs
  else s.raise (.dma h p (s.dmaWriteError p bs))

/-- The rounds of `pdc_rx` (R270). A round fills the current buffer; the counts of both pairs are used up after two
rounds, so the third only finds that nothing is left. The answer is the number of units consumed. -/
def pdcRxRounds (h : PdcHost) (unit : Nat) : Nat → List (List Byte) → Nat → State → Nat × State
  | 0, _, done, s => (done, s)
  | fuel + 1, us, done, s =>
    let p := (s.pdc h).rxRollOver
    if p.rcr = 0#16 then (done, s)
    else
      let s1 := s.setPdc h p
      if us.isEmpty then (done, s1)
      else
        let k := min p.rcr.toNat us.length
        let s2 := dmaStore h p.rpr (us.take k).flatten s1
        if s2.fault.isSome then (done, s2)
        else pdcRxRounds h unit fuel (us.drop k) (done + k) (s2.setPdc h (p.rxAdvance k unit))

/-- `pdc_rx` (R270): units into memory, then RXBUFF, then the host's interrupt output. -/
def pdcRx (h : PdcHost) (unit : Nat) (us : List (List Byte)) (s : State) : Nat × State :=
  let r := pdcRxRounds h unit 3 us 0 s
  (r.1, r.2.andThen fun t => pdcUpdateIrq h (t.setPdc h (t.pdc h).withRxbuff))

/-- The units a transmit round may still take (R272): all, or what the host's limit leaves. -/
def withinLimit (limit : Option Nat) (n : Nat) : Nat :=
  match limit with
  | none => n
  | some m => min n m

/-- The limit after `k` units. -/
def limitAfter (limit : Option Nat) (k : Nat) : Option Nat := limit.map (· - k)

/-- The rounds of `pdc_tx` (R272), each handing one buffer to the host's `send`. With a limit a round takes no more than
it allows and the transfer stops when it is used up. The answer is the number of bytes sent. -/
def pdcTxRounds (h : PdcHost) (unit : Nat) (send : List Byte → State → State) :
    Nat → Option Nat → Nat → State → Nat × State
  | 0, _, done, s => (done, s)
  | fuel + 1, limit, done, s =>
    if limit = some 0 then (done, s)
    else
      let p := (s.pdc h).txRollOver
      if p.tcr = 0#16 then (done, s)
      else
        let k := withinLimit limit p.tcr.toNat
        if s.dmaAll (dmaReadable s.params.sizes) p.tpr (k * unit) then
          let bs := s.loadBytes p.tpr (k * unit)
          let s1 := send bs (s.setPdc h (p.txAdvance k unit))
          if s1.fault.isSome then (done + k * unit, s1)
          else pdcTxRounds h unit send fuel (limitAfter limit k) (done + k * unit) s1
        else (done, (s.setPdc h p).raise (.dma h p.tpr .notMemory))

/-- `pdc_tx` (R272): buffers to the host's `send`, then TXBUFE, then the host's interrupt output. -/
def pdcTx (h : PdcHost) (unit : Nat) (send : List Byte → State → State) (limit : Option Nat) (s : State) :
    Nat × State :=
  let r := pdcTxRounds h unit send 3 limit 0 s
  (r.1, r.2.andThen fun t => pdcUpdateIrq h (t.setPdc h (t.pdc h).withTxbufe))

end Sys2Proof.Machine
end

