-- ==== Sys2Proof/Machine/Mci.lean ====
section
/-! DEFINITION. The MCI (R480 to R514) and the SD bus it calls (R481). -/

namespace Sys2Proof.Machine

/-! ### The SD bus -/

/-- A card, replaced. -/
def State.setSdCard (s : State) (c : Fin 2) (x : SdCard) : State :=
  s.setSd { s.sd with cards := s.sd.cards.set c.val x }

/-- `SdBus.do_command` (R481): the scripted answer, or a free value. -/
def sdCommand (c : Fin 2) (cmd : BitVec 6) (arg : Word) (s : State) : SdResponse × State :=
  let x := s.sd.cards[c.val]
  let calls := x.calls ++ [.command cmd arg]
  match x.responses with
  | r :: rs => (r, s.setSdCard c { x with responses := rs, calls := calls })
  | [] => (Config.sdResponse x.calls.length c cmd arg, s.setSdCard c { x with calls := calls })

/-- `SdBus.read_data` (R481): the scripted byte, or a free value. -/
def sdReadByte (c : Fin 2) (s : State) : Byte × State :=
  let x := s.sd.cards[c.val]
  let calls := x.calls ++ [.readData]
  match x.readBytes with
  | b :: bs => (b, s.setSdCard c { x with readBytes := bs, calls := calls })
  | [] => (Config.sdByte x.calls.length c, s.setSdCard c { x with calls := calls })

/-- `n` calls of `read_data`, in order. -/
def sdRead (c : Fin 2) : Nat → State → List Byte × State
  | 0, s => ([], s)
  | n + 1, s =>
    let r := sdReadByte c s
    let q := sdRead c n r.2
    (r.1 :: q.1, q.2)

/-- `SdBus.write_data` (R481). -/
def sdWriteByte (c : Fin 2) (b : Byte) (s : State) : State :=
  let x := s.sd.cards[c.val]
  s.setSdCard c { x with calls := x.calls ++ [.writeData b] }

/-- `write_data` for each byte, in order. -/
def sdWrite (c : Fin 2) : List Byte → State → State
  | [], s => s
  | b :: bs, s => sdWrite c bs (sdWriteByte c b s)

/-! ### Transfer arithmetic -/

/-- `n` units or bytes of what remains, at most. -/
def MciRemaining.atMost (rem : MciRemaining) (n : Nat) : Nat :=
  match rem with
  | .bytes r => min n r
  | .infinite => n

/-- What remains after `n` bytes. -/
def MciRemaining.after (rem : MciRemaining) (n : Nat) : MciRemaining :=
  match rem with
  | .bytes r => .bytes (r - n)
  | .infinite => .infinite

/-- The limit in units a transfer puts on a PDC write (R504). -/
def MciRemaining.units (rem : MciRemaining) (unit : Nat) : Option Nat :=
  match rem with
  | .bytes r => some (r / unit)
  | .infinite => none

/-- The position in the block after `n` more bytes (R36); no byte leaves it where it is. -/
def blockPos (pos n blk : Nat) : Nat := if n = 0 ∨ blk = 0 then pos + n else (pos + n) % blk

/-- The transfer after `n` more bytes, or finished: `mci_finish` sets BLKE (R497). -/
def Mci.advance (n : Nat) (x : Mci) : Mci :=
  match x.xfer with
  | .active dir rem pos blk =>
    if (rem.after n).nonzero then { x with xfer := .active dir (rem.after n) (blockPos pos n blk) blk }
    else { x with xfer := .idle, blke := true }
  | .idle => x

/-- `unit` of an MCI transfer (R495, R505). -/
def Mci.pdcUnit (x : Mci) : Nat := if x.pdcForceByte then 1 else 4

/-- The MCI's record changes. -/
def mciChange (f : Mci → Mci) (s : State) : State := s.setMci (f s.mci)

/-! ### Data path -/

/-- `mci_pdc_read` (R495): as many units as the buffers and the transfer allow come from the card and go through the
PDC. One pass uses up the buffers or leaves less than a unit. -/
def mciPdcRead (s : State) : State :=
  let x := s.mci
  let p := s.pdc .mci
  match x.xfer with
  | .active .read rem _ _ =>
    if rem.nonzero && p.rxActive then
      let n := match rem.units x.pdcUnit with
        | some m => min (p.rcr.toNat + p.rncr.toNat) m
        | none => p.rcr.toNat + p.rncr.toNat
      if n = 0 then mciUpdateIrq s
      else
        let r := sdRead x.selectedCard (n * x.pdcUnit) s
        (pdcRx .mci x.pdcUnit (groupsOf x.pdcUnit n r.1) r.2).2.andThen fun t =>
          mciUpdateIrq (mciChange (Mci.advance (n * x.pdcUnit)) t)
    else mciUpdateIrq s
  | _ => mciUpdateIrq s

/-- `mci_pdc_write` (R504). -/
def mciPdcWrite (s : State) : State :=
  let x := s.mci
  match x.xfer with
  | .active .write rem _ _ =>
    if rem.nonzero && (s.pdc .mci).txActive then
      let r := pdcTx .mci x.pdcUnit (sdWrite x.selectedCard) (rem.units x.pdcUnit) s
      r.2.andThen fun t => mciUpdateIrq (mciChange (Mci.advance r.1) t)
    else mciUpdateIrq s
  | _ => mciUpdateIrq s

/-- Total bytes and block size of a transfer (R492). -/
def Mci.transferSize (x : Mci) (trtyp : Nat) : MciRemaining × Nat :=
  let len := x.blklen.toNat
  let cnt := x.bcnt.toNat
  match trtyp with
  | 0 => (.bytes len, len)
  | 1 => if cnt = 0 then (.infinite, len) else (.bytes (len * cnt), len)
  | 4 => (.bytes cnt, cnt)
  | _ => (.bytes (len * cnt), len)

/-- `mci_start_transfer` (R492). -/
def mciStartTransfer (w : Word) (s : State) : State :=
  let x := s.mci
  let size := x.transferSize (field w 21 19)
  if x.pdcMode && !x.pdcForceByte && size.2 % 4 != 0 then s.raise (.mciBlklen size.2)
  else
    let dir := if bit w 18 then MciDir.read else MciDir.write
    let t := s.setMci { x with ovre := false, unre := false, xfer := .active dir size.1 0 size.2 }
    if !size.1.nonzero then t.setMci { t.mci with xfer := .idle, blke := true }
    else if x.pdcMode then
      match dir with
      | .read => mciPdcRead t
      | .write => mciPdcWrite t
    else t

/-! ### Command path -/

/-- The response expanded into `RSPR` (R487), most significant byte first, with RTOE for a missing one. -/
def Mci.respond (rsptyp : Nat) (r : SdResponse) (x : Mci) : Mci :=
  match r with
  | .none => { x with rspWords := 0, rtoe := x.rtoe || decide (rsptyp ≠ 0) }
  | .short b0 b1 b2 b3 => { x with rspr := x.rspr.set 0 (beWord b0 b1 b2 b3), rspWords := 1 }
  | .long v =>
    { x with
      rspr := #v[beWord v[0] v[1] v[2] v[3], beWord v[4] v[5] v[6] v[7], beWord v[8] v[9] v[10] v[11],
        beWord v[12] v[13] v[14] v[15]]
      rspWords := 4 }

/-- A new command clears the response errors (R487). -/
def Mci.clearErrors (x : Mci) : Mci :=
  { x with rtoe := false, rinde := false, rdire := false, rcrce := false, rende := false }

/-- The abort a `CMDR` value asks for (R487), if any; the unsupported stream transfer only under its flag (R773). -/
def cmdrFault (p : Params) (w : Word) : Option Fault :=
  let trcmd := field w 17 16
  let trtyp := field w 21 19
  if field w 7 6 = 3 ∨ trcmd = 3 then some (.mciCmdr w)
  else if trcmd = 1 ∧ (trtyp = 3 ∨ trtyp = 6 ∨ trtyp = 7) then some (.mciTrtyp w)
  else if trcmd = 1 ∧ trtyp = 2 ∧ p.abortMciStream then some (.mciStream w)
  else none

/-- The command and its response (R487). -/
def mciCommand (w : Word) (s : State) : State :=
  let x := s.mci.clearErrors
  let r := sdCommand x.selectedCard (w.extractLsb 5 0) x.argr (s.setMci x)
  r.2.setMci { Mci.respond (field w 7 6) r.1 r.2.mci with rspIdx := 0, cmdrdy := true }

/-- `TRCMD` after the response (R487): START starts a transfer unless the response is missing, STOP ends one. A stream
transfer that does not abort is not started (R773). -/
def mciTransferCommand (w : Word) (s : State) : State :=
  if field w 17 16 = 1 ∧ s.mci.rtoe = false ∧ field w 21 19 ≠ 2 then mciStartTransfer w s
  else if field w 17 16 = 2 then mciChange (fun x => { x with xfer := .idle }) s
  else s

/-- `CMDR` write (R487). -/
def mciWriteCmdr (w : Word) (s : State) : State :=
  match cmdrFault s.params w with
  | some f => s.raise f
  | none => (mciTransferCommand w (mciCommand w s)).andThen mciUpdateIrq

/-- `RSPR[k]` read (R490): one read port, most significant word first. -/
def mciReadRspr (k : Fin 4) (s : State) : State :=
  let x := s.mci
  if x.rspIdx ≥ x.rspWords then s.raise (.mciRspr (0x20 + 4 * k.val))
  else (s.setMci { x with rspIdx := x.rspIdx + 1 }).returns (x.rspr[x.rspIdx % 4]'(Nat.mod_lt _ (by decide)))

/-- `RDR` read (R499): up to four bytes of an active read, the first in bits 7:0; otherwise the last word again. -/
def mciReadRdr (s : State) : State :=
  let x := s.mci
  match x.xfer with
  | .active .read rem _ _ =>
    if rem.nonzero then
      let n := rem.atMost 4
      let r := sdRead x.selectedCard n s
      let t := r.2.setMci ({ r.2.mci with rdr := leWord r.1 }.advance n)
      (mciUpdateIrq t).returns t.mci.rdr
    else s.returns x.rdr
  | _ => s.returns x.rdr

/-- A block boundary falls within `n` more bytes of a block (R497). -/
def crossesBlock (pos n blk : Nat) : Bool := decide (blk ≠ 0) && decide (pos + n ≥ blk)

/-- The card clock (R512): `mclk / (2 (CLKDIV + 1))`, rounded down; informational, no rule reads it. -/
def State.mciClock (s : State) : Nat := s.pmc.mclkHz / (2 * ((s.mci.mrLow.extractLsb 7 0).toNat + 1))

/-- `TDR` write (R502): up to four bytes go to the card, the low byte first; outside PDC mode BLKE rises on each block
boundary (R497). -/
def mciWriteTdr (v : Word) (s : State) : State :=
  let x := s.mci
  match x.xfer with
  | .active .write rem pos blk =>
    let n := rem.atMost 4
    let t := sdWrite x.selectedCard (leBytes n v) s
    mciUpdateIrq (t.setMci ({ t.mci with blke := t.mci.blke || (!x.pdcMode && crossesBlock pos n blk) }.advance n))
  | _ => s.raise (.mciTdr v)

/-! ### Registers -/

/-- `mci_reset` (R511): the card stays selected and the PDC is not touched; the four flags ENDRX, ENDTX, RXBUFF and
TXBUFE, which R36 lists with the MCI and R28 with the PDC, stay with it (DEDUCED, log entry 31). -/
def mciReset (s : State) : State := s.setMci (Mci.resetWith s.mci.selectedCard)

/-- `CR` write (R482): a disable bit wins; `enabled` gates nothing. -/
def mciWriteCr (v : Word) (s : State) : State :=
  let t := if bit v 7 then mciReset s else s
  let e := (t.mci.enabled || bit v 0) && !bit v 1
  mciUpdateIrq (t.setMci { t.mci with enabled := e })

/-- `MR` (R35, R483). -/
def Mci.mr (x : Mci) : Word := x.blklen ++ x.mrLow

/-- `BLKR` (R35, R483). -/
def Mci.blkr (x : Mci) : Word := x.blklen ++ x.bcnt

/-- `MR` write (R483): `BLKLEN` is the one of `BLKR`. -/
def mciWriteMr (v : Word) (s : State) : State :=
  s.setMci { s.mci with mrLow := v.extractLsb 15 0, blklen := v.extractLsb 31 16 }

/-- `BLKR` write (R483). -/
def mciWriteBlkr (v : Word) (s : State) : State :=
  s.setMci { s.mci with bcnt := v.extractLsb 15 0, blklen := v.extractLsb 31 16 }

/-- `DTOR` write (R484). -/
def mciWriteDtor (v : Word) (s : State) : State := s.setMci { s.mci with dtor := v &&& mciDtorMask }

/-- `SDCR` write (R484). -/
def mciWriteSdcr (v : Word) (s : State) : State := s.setMci { s.mci with sdcr := v &&& mciSdcrMask }

/-- `ARGR` write (R484). -/
def mciWriteArgr (v : Word) (s : State) : State := s.setMci { s.mci with argr := v }

/-- `SR` read (R485): BLKE, DCRCE and DTOE are cleared by the read. -/
def mciReadSr (s : State) : State :=
  let v := s.mciSr
  (mciUpdateIrq (s.setMci { s.mci with blke := false, dcrce := false, dtoe := false })).returns v

/-- `IER` write (R486). -/
def mciWriteIer (v : Word) (s : State) : State :=
  mciUpdateIrq (s.setMci { s.mci with imr := setBits s.mci.imr (v &&& mciImrMask) })

/-- `IDR` write (R486). -/
def mciWriteIdr (v : Word) (s : State) : State :=
  mciUpdateIrq (s.setMci { s.mci with imr := clearBits s.mci.imr v })

/-- The card the level of PIOB pin 7 selects (R510). -/
def cardOf (polarity level : Bool) : Fin 2 := if level = polarity then 1 else 0

end Sys2Proof.Machine
end

