-- ==== Sys2Proof/Machine/Pio.lean ====
section
/-! DEFINITION. The PIO (R650 to R664), for any of the three instances. Every register write ends with `pioUpdate`. -/

namespace Sys2Proof.Machine

/-- The pin levels (R662): a pin the PIO drives shows its output latch, any other the level outside. -/
def Pio.pins (x : Pio) : Word := (x.psr &&& x.osr &&& x.odsr) ||| (~~~(x.psr &&& x.osr) &&& x.extLevel)

/-- PINSTATE/OUT (R663): the pin state, little-endian. -/
def pioEmitOut (p : Fin 3) (s : State) : State := emit (.pio p) 1#8 3#8 (leBytes 4 (s.pio p).pdsr) s

/-- The MCI's card follows PIOB pin 7 (R510). -/
def pioSelectCard (p : Fin 3) (s : State) : State :=
  if p.val = 1 then
    s.setMci { s.mci with selectedCard := cardOf s.params.mciCardPolarity (bit (s.pio 1).pdsr 7) }
  else s

/-- `pio_update` (R662): the pins recomputed, the changed ones accumulated in `ISR` and announced on the link. -/
def pioUpdate (p : Fin 3) (s : State) : State :=
  let x := s.pio p
  let changed := x.pins ^^^ x.pdsr
  let s1 := s.setPio p { x with pdsr := x.pins, isr := x.isr ||| changed }
  let s2 := if changed ≠ 0#32 then pioEmitOut p s1 else s1
  pioUpdateIrq p (pioSelectCard p s2)

/-- A register of the PIO changes and the pins follow (R650). -/
def pioChange (p : Fin 3) (f : Pio → Pio) (s : State) : State := pioUpdate p (s.setPio p (f (s.pio p)))

/-- `PER` write (R651). -/
def pioWritePer (p : Fin 3) (v : Word) (s : State) : State :=
  pioChange p (fun x => { x with psr := setBits x.psr v }) s

/-- `PDR` write (R651). -/
def pioWritePdr (p : Fin 3) (v : Word) (s : State) : State :=
  pioChange p (fun x => { x with psr := clearBits x.psr v }) s

/-- `OER` write (R652). -/
def pioWriteOer (p : Fin 3) (v : Word) (s : State) : State :=
  pioChange p (fun x => { x with osr := setBits x.osr v }) s

/-- `ODR` write (R652). -/
def pioWriteOdr (p : Fin 3) (v : Word) (s : State) : State :=
  pioChange p (fun x => { x with osr := clearBits x.osr v }) s

/-- `IFER` write (R653). -/
def pioWriteIfer (p : Fin 3) (v : Word) (s : State) : State :=
  pioChange p (fun x => { x with ifsr := setBits x.ifsr v }) s

/-- `IFDR` write (R653). -/
def pioWriteIfdr (p : Fin 3) (v : Word) (s : State) : State :=
  pioChange p (fun x => { x with ifsr := clearBits x.ifsr v }) s

/-- `SODR` write (R654). -/
def pioWriteSodr (p : Fin 3) (v : Word) (s : State) : State :=
  pioChange p (fun x => { x with odsr := setBits x.odsr v }) s

/-- `CODR` write (R654). -/
def pioWriteCodr (p : Fin 3) (v : Word) (s : State) : State :=
  pioChange p (fun x => { x with odsr := clearBits x.odsr v }) s

/-- `ODSR` write (R654): only the bits `OWSR` enables change. -/
def pioWriteOdsr (p : Fin 3) (v : Word) (s : State) : State :=
  pioChange p (fun x => { x with odsr := (x.odsr &&& ~~~x.owsr) ||| (v &&& x.owsr) }) s

/-- `IER` write (R656). -/
def pioWriteIer (p : Fin 3) (v : Word) (s : State) : State :=
  pioChange p (fun x => { x with imr := setBits x.imr v }) s

/-- `IDR` write (R656). -/
def pioWriteIdr (p : Fin 3) (v : Word) (s : State) : State :=
  pioChange p (fun x => { x with imr := clearBits x.imr v }) s

/-- `ISR` read (R657): cleared by the read. -/
def pioReadIsr (p : Fin 3) (s : State) : State :=
  let v := (s.pio p).isr
  (pioUpdateIrq p (s.setPio p { s.pio p with isr := 0 })).returns v

/-- `MDER` write (R658). -/
def pioWriteMder (p : Fin 3) (v : Word) (s : State) : State :=
  pioChange p (fun x => { x with mdsr := setBits x.mdsr v }) s

/-- `MDDR` write (R658). -/
def pioWriteMddr (p : Fin 3) (v : Word) (s : State) : State :=
  pioChange p (fun x => { x with mdsr := clearBits x.mdsr v }) s

/-- `PUDR` write (R659): it sets. -/
def pioWritePudr (p : Fin 3) (v : Word) (s : State) : State :=
  pioChange p (fun x => { x with pusr := setBits x.pusr v }) s

/-- `PUER` write (R659): it clears. -/
def pioWritePuer (p : Fin 3) (v : Word) (s : State) : State :=
  pioChange p (fun x => { x with pusr := clearBits x.pusr v }) s

/-- `ASR` write (R660): it clears. -/
def pioWriteAsr (p : Fin 3) (v : Word) (s : State) : State :=
  pioChange p (fun x => { x with absr := clearBits x.absr v }) s

/-- `BSR` write (R660): it sets. -/
def pioWriteBsr (p : Fin 3) (v : Word) (s : State) : State :=
  pioChange p (fun x => { x with absr := setBits x.absr v }) s

/-- `OWER` write (R661). -/
def pioWriteOwer (p : Fin 3) (v : Word) (s : State) : State :=
  pioChange p (fun x => { x with owsr := setBits x.owsr v }) s

/-- `OWDR` write (R661). -/
def pioWriteOwdr (p : Fin 3) (v : Word) (s : State) : State :=
  pioChange p (fun x => { x with owsr := clearBits x.owsr v }) s

/-- The pin mask of an ENABLE or DISABLE payload (R663): a payload shorter than four bytes has none. Of a longer one,
on which the spec is silent, the first four bytes count (DESIGN CHOICE, log entry 32). -/
def pinMask (payload : List Byte) : Option Word :=
  if payload.length < 4 then none else some (leWord (payload.take 4))

/-- Inbound PINSTATE/ENABLE (R663). -/
def pioEnableFrame (p : Fin 3) (payload : List Byte) (s : State) : State :=
  match pinMask payload with
  | some m => pioChange p (fun x => { x with extLevel := setBits x.extLevel m }) s
  | none => s

/-- Inbound PINSTATE/DISABLE (R663). -/
def pioDisableFrame (p : Fin 3) (payload : List Byte) (s : State) : State :=
  match pinMask payload with
  | some m => pioChange p (fun x => { x with extLevel := clearBits x.extLevel m }) s
  | none => s

/-- Inbound PINSTATE/GET (R663): answered with the request's `seq` and the pin state. -/
def pioGetFrame (p : Fin 3) (seq : Byte) (s : State) : State :=
  respond (.pio p) seq 1#8 4#8 (leBytes 4 (s.pio p).pdsr) s

end Sys2Proof.Machine
end

