-- ==== Sys2Proof/Machine/Timers.lean ====
section
/-! DEFINITION. The timers (R550 to R595): TC channels and blocks, PIT, RTT, with the tick of each clock. -/

namespace Sys2Proof.Machine

/-! ### Timer/Counter -/

/-- `CMR.WAVE` (R60). -/
def TcChannel.wave (x : TcChannel) : Bool := bit x.cmr 15

/-- `CMR.WAVSEL` (R60). -/
def TcChannel.wavsel (x : TcChannel) : Nat := field x.cmr 14 13

/-- `CMR.TCCLKS` (R60). -/
def tcClks (cmr : Word) : Nat := field cmr 2 0

/-- The frequency of the selected clock (R553): informational, the floor of each quotient. The external clocks never tick
(R773), so theirs is 0 (log entry 21). -/
def tcFreq (mclkHz : Nat) (cmr : Word) : Nat :=
  match tcClks cmr with
  | 0 => mclkHz / 2
  | 1 => mclkHz / 8
  | 2 => mclkHz / 32
  | 3 => mclkHz / 128
  | 4 => Config.slckHz
  | _ => 0

/-- `tc_trigger` (R552). -/
def TcChannel.trigger (x : TcChannel) : TcChannel := { x with cv := 0, down := false, running := true }

/-- The actions of `CCR` (R552): a disable bit wins. -/
def TcChannel.control (v : Word) (x : TcChannel) : TcChannel :=
  let x := if bit v 0 && !bit v 1 then { x with clkEnabled := true } else x
  let x := if bit v 1 then { x with clkEnabled := false, running := false } else x
  if bit v 2 && x.clkEnabled then x.trigger else x

/-- `CCR` write (R552). -/
def tcWriteCcr (c : Fin 6) (v : Word) (s : State) : State := s.setTc c ((s.tc c).control v)

/-- `CMR` write (R553), with the two unsupported features under their flags (R773). -/
def tcWriteCmr (c : Fin 6) (v : Word) (s : State) : State :=
  if field v 5 4 ≠ 0 ∧ s.params.abortTcBurst then s.raise (.tcBurst c v)
  else if tcClks v ≥ 5 ∧ s.params.abortTcClock then s.raise (.tcClock c v)
  else s.setTc c { s.tc c with cmr := v, freqHz := tcFreq s.pmc.mclkHz v }

/-- `RA` write (R555): ignored in capture mode. -/
def tcWriteRa (c : Fin 6) (v : Word) (s : State) : State :=
  if (s.tc c).wave then s.setTc c { s.tc c with ra := v.extractLsb 15 0 } else s

/-- `RB` write (R555): ignored in capture mode. -/
def tcWriteRb (c : Fin 6) (v : Word) (s : State) : State :=
  if (s.tc c).wave then s.setTc c { s.tc c with rb := v.extractLsb 15 0 } else s

/-- `RC` write (R555). -/
def tcWriteRc (c : Fin 6) (v : Word) (s : State) : State :=
  s.setTc c { s.tc c with rc := v.extractLsb 15 0 }

/-- `SR` read (R556): the eight latches are cleared by the read. -/
def tcReadSr (c : Fin 6) (s : State) : State :=
  let v := s.tcSr c
  (tcUpdateIrq c (s.setTc c { s.tc c with latches := 0 })).returns v

/-- `IER` write (R557). -/
def tcWriteIer (c : Fin 6) (v : Word) (s : State) : State :=
  tcUpdateIrq c (s.setTc c { s.tc c with imr := (s.tc c).imr ||| v.extractLsb 7 0 })

/-- `IDR` write (R557). -/
def tcWriteIdr (c : Fin 6) (v : Word) (s : State) : State :=
  tcUpdateIrq c (s.setTc c { s.tc c with imr := (s.tc c).imr &&& ~~~(v.extractLsb 7 0) })

/-- Channel `j` of a block (R60). -/
def tcOfBlock (b : Fin 2) (j : Fin 3) : Fin 6 := ⟨3 * b.val + j.val, by omega⟩

/-- A channel is triggered by the block if its clock is enabled (R558). -/
def tcSyncChannel (c : Fin 6) (s : State) : State :=
  if (s.tc c).clkEnabled then s.setTc c (s.tc c).trigger else s

/-- `BCR` write (R558). -/
def tcbWriteBcr (b : Fin 2) (v : Word) (s : State) : State :=
  if bit v 0 then
    tcSyncChannel (tcOfBlock b 2) (tcSyncChannel (tcOfBlock b 1) (tcSyncChannel (tcOfBlock b 0) s))
  else s

/-- `BMR` write (R559). -/
def tcbWriteBmr (b : Fin 2) (v : Word) (s : State) : State := s.setBmr b (v &&& tcbBmrMask)

/-- The latches with one more bit set. -/
def TcChannel.latch (i : Nat) (on : Bool) (x : TcChannel) : TcChannel :=
  if on then { x with latches := x.latches ||| (1#8 <<< i) } else x

/-- The count of a tick in the triangular shapes (R560). -/
def TcChannel.countTriangle (x : TcChannel) : TcChannel :=
  let top : BitVec 16 := if x.wavsel = 3 then x.rc else 0xFFFF#16
  if !x.down then
    (if x.cv = top then
      { x.latch 0 (decide (top = 0xFFFF#16)) with
        down := true
        cv := if top ≠ 0#16 then x.cv - 1#16 else x.cv }
    else { x with cv := x.cv + 1#16 })
  else if x.cv = 0#16 then { x with down := false, cv := if top ≠ 0#16 then x.cv + 1#16 else x.cv }
  else { x with cv := x.cv - 1#16 }

/-- The count of a tick in the sawtooth shapes and in capture mode (R560). -/
def TcChannel.countSawtooth (x : TcChannel) : TcChannel :=
  let rcTrg := if x.wave then decide (x.wavsel = 2) else bit x.cmr 14
  if rcTrg ∧ x.cv = x.rc then { x with cv := 0#16 }
  else if x.cv = 0xFFFF#16 then { x.latch 0 true with cv := 0#16 }
  else { x with cv := x.cv + 1#16 }

/-- The compares on the new value (R560): CPAS and CPBS in waveform mode, CPCS always, and the stop or disable on an RC
compare. -/
def TcChannel.compare (x : TcChannel) : TcChannel :=
  let y := (x.latch 2 (x.wave && decide (x.cv = x.ra))).latch 3 (x.wave && decide (x.cv = x.rb))
  if x.cv = x.rc then
    let y := y.latch 4 true
    let y := if x.wave && bit x.cmr 6 then { y with running := false } else y
    if x.wave && bit x.cmr 7 then { y with running := false, clkEnabled := false } else y
  else y

/-- One tick of a channel's clock (R560). -/
def TcChannel.tick (x : TcChannel) : TcChannel :=
  let triangle := x.wave && (decide (x.wavsel = 1) || decide (x.wavsel = 3))
  TcChannel.compare (if triangle then x.countTriangle else x.countSawtooth)

/-- The `Clock(TCk)` step (R560), enabled iff the channel runs and its clock is one that ticks (R773). -/
def tcTick (c : Fin 6) (s : State) : State :=
  if (s.tc c).running ∧ tcClks (s.tc c).cmr < 5 then tcUpdateIrq c (s.setTc c (s.tc c).tick) else s

/-! ### PIT -/

/-- `MR` write (R580): clearing `PITEN` does not stop the counter. -/
def pitWriteMr (v : Word) (s : State) : State :=
  pitUpdateIrq (s.setPit { s.pit with mr := v &&& pitMrMask, running := s.pit.running || bit v 24 })

/-- The nominal rate of the PIT's tick (R551): informational, rounded down. -/
def pitFreq (mclkHz : Nat) : Nat := mclkHz / 16

/-- The PIT re-derives its rate (R551). -/
def pitUpdateFreq (s : State) : State := s.setPit { s.pit with freqHz := pitFreq s.pmc.mclkHz }

/-- `SR` of the PIT (R584). -/
def Pit.sr (x : Pit) : Word := bitAt x.pits 0

/-- `PIVR` read (R582). -/
def pitReadPivr (s : State) : State :=
  let v := s.pit.value
  (pitUpdateIrq (s.setPit { s.pit with picnt := 0, pits := false })).returns v

/-- One tick of the PIT (R581). -/
def Pit.tick (x : Pit) : Pit :=
  if x.cpiv = x.mr.extractLsb 19 0 then
    { x with cpiv := 0, picnt := x.picnt + 1, pits := true, running := x.running && bit x.mr 24 }
  else { x with cpiv := x.cpiv + 1 }

/-- The `Clock(PIT)` step (R581), enabled iff `running`. -/
def pitTick (s : State) : State := if s.pit.running then pitUpdateIrq (s.setPit s.pit.tick) else s

/-! ### RTT -/

/-- The prescaler of `MR.RTPRES` (R590): 0 stands for 65536. -/
def rttPrescaler (mr : Word) : Nat := if field mr 15 0 = 0 then 65536 else field mr 15 0

/-- The nominal rate of the RTT's tick (R551, R594): informational, rounded down. -/
def rttFreq (mr : Word) : Nat := Config.slckHz / rttPrescaler mr

/-- `MR` write (R590): `RTTRST` zeroes the counter and is not stored; the nominal rate follows `RTPRES`. -/
def rttWriteMr (v : Word) (s : State) : State :=
  rttUpdateIrq (s.setRtt { s.rtt with
    mr := v &&& rttMrMask
    crtv := if bit v 18 then 0 else s.rtt.crtv
    freqHz := rttFreq v })

/-- `AR` write (R591). -/
def rttWriteAr (v : Word) (s : State) : State := s.setRtt { s.rtt with ar := v }

/-- `SR` read (R593): both latches are cleared by the read. -/
def rttReadSr (s : State) : State :=
  let v := s.rtt.sr
  (rttUpdateIrq (s.setRtt { s.rtt with alms := false, rttinc := false })).returns v

/-- One tick of the RTT (R594). -/
def Rtt.tick (x : Rtt) : Rtt :=
  { x with crtv := x.crtv + 1, rttinc := true, alms := x.alms || decide (x.crtv + 1 = x.ar + 1) }

/-- The `Clock(RTT)` step (R594), always enabled. -/
def rttTick (s : State) : State := rttUpdateIrq (s.setRtt s.rtt.tick)

end Sys2Proof.Machine
end

