-- ==== Sys2Proof/Machine/Twi.lean ====
section
/-! DEFINITION. The TWI (R430 to R453). -/

namespace Sys2Proof.Machine

/-- `twi_clock_hz` (R435): informational. -/
def twiClock (mclkHz : Nat) (cwgr : Word) : Nat :=
  mclkHz / ((field cwgr 7 0 + field cwgr 15 8) * 2 ^ field cwgr 18 16 + 8)

/-- The clock follows `CWGR` and the master clock (R435, R452). -/
def twiUpdateClock (s : State) : State :=
  s.setTwi { s.twi with clockHz := twiClock s.pmc.mclkHz s.twi.cwgr }

/-- `MMR.MREAD` (R33). -/
def Twi.readMode (x : Twi) : Bool := bit x.mmr 12

/-- Byte 0 of CTRL_START (R441): the parameter `TWI_START_DADR` gives its form. -/
def Twi.startDadr (fmt : TwiDadrFormat) (x : Twi) : Byte :=
  match fmt with
  | .low7 => BitVec.ofNat 8 (field x.mmr 22 16)
  | .shifted => BitVec.ofNat 8 (2 * field x.mmr 22 16 + (if x.readMode then 1 else 0))

/-- `start_payload` (R441): the registers sampled when the frame is emitted. -/
def Twi.startPayload (fmt : TwiDadrFormat) (x : Twi) : List Byte :=
  x.startDadr fmt :: BitVec.ofNat 8 (field x.mmr 9 8) :: leBytes 3 x.iadr

/-- CTRL_START (R441). -/
def twiEmitStart (s : State) : State :=
  emit .twi 1#8 3#8 (s.twi.startPayload s.params.twiStartDadr) s

/-- CTRL_STOP (R442, R448). -/
def twiEmitStop (s : State) : State := emit .twi 1#8 4#8 [] s

/-- `twi_flush` (R442): the accumulated bytes leave as one START/data/STOP burst. -/
def twiFlush (s : State) : State :=
  let t := if s.twi.txbuf.isEmpty then s else twiEmitStop (emitData .twi s.twi.txbuf (twiEmitStart s))
  twiUpdateIrq (t.setTwi { t.twi with txbuf := [], debounceArmed := false, txcomp := true })

/-- The DMA half of the receive pump (R446). -/
def twiPumpDma (s : State) : State :=
  if !s.twi.rxq.isEmpty && (s.pdc .twi).rxActive then
    let r := pdcRx .twi 1 (s.twi.rxq.map fun b => [b]) s
    r.2.andThen fun t => t.setTwi { t.twi with rxq := t.twi.rxq.drop r.1 }
  else s

/-- The register half of the receive pump (R446). -/
def twiPumpHold (s : State) : State :=
  if !(s.pdc .twi).rxActive && !s.twi.rxrdy then
    match s.twi.rxq with
    | [] => s
    | b :: bs => s.setTwi { s.twi with rhr := b, rxq := bs, rxrdy := true }
  else s

/-- `twi_rx_pump` (R446). -/
def twiRxPump (s : State) : State := (twiPumpDma s).andThen fun t => twiUpdateIrq (twiPumpHold t)

/-- `tx_start` (R450): bytes written through `THR` go out first, then the DMA buffers between one START and one
STOP. -/
def twiTxStart (s : State) : State :=
  if s.twi.mode ≠ .master then s
  else
    let s1 := if s.twi.txbuf.isEmpty then s else twiFlush s
    (pdcTx .twi 1 (emitData .twi) none (twiEmitStart s1)).2.andThen fun t =>
      let t := twiEmitStop t
      twiUpdateIrq (t.setTwi { t.twi with txcomp := true })

/-- `twi_reset` (R451), with the clock of the cleared `CWGR` (log entry 21). The PDC is not touched, and the four flags
ENDRX, ENDTX, RXBUFF and TXBUFE, which R34 lists with the TWI and R28 with the PDC, stay with it (DEDUCED, log entry
31). -/
def twiReset (s : State) : State := twiUpdateClock (s.setTwi Twi.reset)

/-- `SVEN` of `CR` (R432): a switch in mid-transaction is an error of its own; slave mode is unsupported (R773). -/
def twiSlaveRequest (v : Word) (s : State) : State :=
  if !bit v 4 then s
  else if s.twi.mode = .master ∧ s.twi.txcomp = false then s.raise (.twiMode v)
  else if s.params.abortTwiSlave then s.raise (.twiSlave v)
  else s

/-- `MSEN` and `MSDIS` of `CR` (R432): a disable bit wins. -/
def Twi.modeControl (v : Word) (x : Twi) : Twi :=
  let x := if bit v 2 && !bit v 3 then { x with mode := .master } else x
  if bit v 3 && decide (x.mode = .master) then { x with mode := .offline } else x

/-- `START` of `CR` (R432, R444): it opens a read transaction. -/
def twiOpenRead (v : Word) (s : State) : State :=
  if bit v 0 && decide (s.twi.mode = .master) && s.twi.readMode && !s.twi.started then
    let t := twiEmitStart s
    t.setTwi { t.twi with started := true, txcomp := false }
  else s

/-- `STOP` of `CR` (R432, R448): it closes a read transaction. -/
def twiCloseRead (v : Word) (s : State) : State :=
  if bit v 1 && s.twi.started then
    let t := twiEmitStop s
    t.setTwi { t.twi with started := false, txcomp := true }
  else s

/-- A DMA transmit armed while the TWI was offline starts (R432, R450). -/
def twiStartArmed (s : State) : State :=
  if decide (s.twi.mode = .master) && (s.pdc .twi).txActive then twiTxStart s else s

/-- `CR` write (R432). -/
def twiWriteCr (v : Word) (s : State) : State :=
  (twiSlaveRequest v (if bit v 7 then twiReset s else s)).andThen fun t =>
    (twiStartArmed (twiCloseRead v (twiOpenRead v (t.setTwi (t.twi.modeControl v))))).andThen twiUpdateIrq

/-- `MMR` write (R434). -/
def twiWriteMmr (v : Word) (s : State) : State := s.setTwi { s.twi with mmr := v &&& twiMmrMask }

/-- `SMR` write (R434). -/
def twiWriteSmr (v : Word) (s : State) : State := s.setTwi { s.twi with smr := v &&& twiSmrMask }

/-- `IADR` write (R434). -/
def twiWriteIadr (v : Word) (s : State) : State := s.setTwi { s.twi with iadr := v &&& twiIadrMask }

/-- `CWGR` write (R435). -/
def twiWriteCwgr (v : Word) (s : State) : State :=
  twiUpdateClock (s.setTwi { s.twi with cwgr := v &&& twiCwgrMask })

/-- `SR` read (R436): the three error latches are cleared by the read. -/
def twiReadSr (s : State) : State :=
  let v := s.twiSr
  (twiUpdateIrq (s.setTwi { s.twi with ovre := false, nack := false, arblst := false })).returns v

/-- `IER` write (R437). -/
def twiWriteIer (v : Word) (s : State) : State :=
  twiUpdateIrq (s.setTwi { s.twi with imr := setBits s.twi.imr (v &&& twiImrMask) })

/-- `IDR` write (R437). -/
def twiWriteIdr (v : Word) (s : State) : State :=
  twiUpdateIrq (s.setTwi { s.twi with imr := clearBits s.twi.imr v })

/-- `RHR` read (R447). -/
def twiReadRhr (s : State) : State :=
  let x := s.twi
  (twiRxPump (s.setTwi { x with rxrdy := false })).andThen fun t => t.returns (x.rhr.setWidth 32)

/-- `THR` write (R440): the byte waits for the debounce timer, which is started again. -/
def twiWriteThr (v : Word) (s : State) : State :=
  if s.twi.mode ≠ .master then s
  else
    twiUpdateIrq (s.setTwi { s.twi with
      txbuf := s.twi.txbuf ++ [v.setWidth 8]
      txcomp := false
      debounceArmed := true })

/-- Inbound DATA_IN (R445). -/
def twiDataInFrame (seq : Byte) (payload : List Byte) (s : State) : State :=
  (twiRxPump (s.setTwi { s.twi with
    ovre := s.twi.ovre || s.twi.rxrdy
    rxq := s.twi.rxq ++ payload })).andThen (reply .twi seq 0#32)

/-- Inbound FAULT/OVRE (R449). A payload is ignored (DESIGN CHOICE, log entry 30). -/
def twiFaultOvreFrame (s : State) : State := twiUpdateIrq (s.setTwi { s.twi with ovre := true })

/-- Inbound FAULT/NACK (R449). A payload is ignored (DESIGN CHOICE, log entry 30). -/
def twiFaultNackFrame (s : State) : State := twiUpdateIrq (s.setTwi { s.twi with nack := true })

/-- Inbound FAULT/ARBLST (R449). A payload is ignored (DESIGN CHOICE, log entry 30). -/
def twiFaultArblstFrame (s : State) : State := twiUpdateIrq (s.setTwi { s.twi with arblst := true })

end Sys2Proof.Machine
end

