-- ==== Sys2Proof/Machine/Usart.lean ====
section
/-! DEFINITION. The USART (R300 to R324): one operation per register rule and per link frame, for any of the six
instances. -/

namespace Sys2Proof.Machine

/-- The clock of the baud-rate generator: "MCK, or MCK/8 by `USCLKS`" (R318), a field R29 places in bits 5:4. Neither
rule gives its codes: that 0 selects MCK and 1 selects MCK/8 is PRESUMED from the AT91SAM9 family (log entry 21). Under
the two codes left, the external clock SCK among them (R773), the frequency is a free value. -/
def usartClock (u : Fin 6) (mclkHz : Nat) (mr : Word) : Nat :=
  match field mr 5 4 with
  | 0 => mclkHz
  | 1 => mclkHz / 8
  | code => Config.usartOtherClock u code

/-- `update_baud_rate` (R318): informational, the floor of each quotient (R176). What R318 leaves open is settled in log
entry 21: MCK/8 is rounded down before the formula's own division and an ISO7816 mode wins over `SYNC` (DESIGN CHOICE);
the codes 4 and 6 of the ISO7816 modes and the 0 for `FI_DI_RATIO` = 0 are the family's (PRESUMED). -/
def usartBaud (u : Fin 6) (mclkHz : Nat) (x : Usart) : Nat :=
  let clk := usartClock u mclkHz x.mr
  let cd := field x.brgr 15 0
  let fp := field x.brgr 18 16
  let mode := field x.mr 3 0
  let oversampling := if bit x.mr 19 then 1 else 0
  if cd = 0 then 0
  else if mode = 4 ∨ mode = 6 then
    (if field x.fidi 10 0 = 0 then 0 else clk / (cd * field x.fidi 10 0))
  else if bit x.mr 8 then clk / cd
  else clk / ((2 - oversampling) * (8 * cd + fp))

/-- The baud rate follows the registers and the master clock (R318, R323). -/
def usartUpdateBaud (u : Fin 6) (s : State) : State :=
  s.setUsart u { s.usart u with baud := usartBaud u s.pmc.mclkHz (s.usart u) }

/-- The DMA half of the receive pump (R310): the queue's low bytes go to the PDC and the consumed ones leave it. -/
def usartPumpDma (u : Fin 6) (s : State) : State :=
  let x := s.usart u
  if x.rxEnabled && !x.rxq.isEmpty && (s.pdc (.usart u)).rxActive then
    let r := pdcRx (.usart u) 1 (x.rxq.map fun c => [c.setWidth 8]) s
    r.2.andThen fun t => t.setUsart u { t.usart u with rxq := (t.usart u).rxq.drop r.1 }
  else s

/-- The register half of the receive pump (R310): one character moves to `RHR` and RXRDY rises. -/
def usartPumpHold (u : Fin 6) (s : State) : State :=
  let x := s.usart u
  if x.rxEnabled && !(s.pdc (.usart u)).rxActive && !x.rxrdy then
    match x.rxq with
    | [] => s
    | c :: cs => s.setUsart u { x with rhr := c, rxq := cs, rxrdy := true }
  else s

/-- `usart_rx_pump` (R310). -/
def usartRxPump (u : Fin 6) (s : State) : State :=
  (usartPumpDma u s).andThen fun t => usartUpdateIrq u (usartPumpHold u t)

/-- `rx_reset` (R304). -/
def Usart.rxReset (x : Usart) : Usart :=
  { x with rxEnabled := false, rxq := [], ovre := false, frame := false, pare := false, timeout := false }

/-- `tx_reset` (R304). -/
def Usart.txReset (x : Usart) : Usart := { x with txEnabled := false }

/-- The actions of `CR` on the channel, in their fixed order (R303). -/
def Usart.control (v : Word) (x : Usart) : Usart :=
  let x := if bit v 2 then x.rxReset else x
  let x := if bit v 3 then x.txReset else x
  let x := if bit v 4 then { x with rxEnabled := true } else x
  let x := if bit v 5 then { x with rxEnabled := false } else x
  let x := if bit v 6 then { x with txEnabled := true } else x
  let x := if bit v 7 then { x with txEnabled := false } else x
  let x := if bit v 8 then { x with ovre := false, frame := false, pare := false } else x
  if bit v 11 || bit v 15 then { x with timeout := false } else x

/-- `CR` write (R303). -/
def usartWriteCr (u : Fin 6) (v : Word) (s : State) : State :=
  (usartRxPump u (s.setUsart u ((s.usart u).control v))).andThen (usartUpdateIrq u)

/-- `MR` write (R302). -/
def usartWriteMr (u : Fin 6) (v : Word) (s : State) : State :=
  s.setUsart u { s.usart u with mr := v &&& usartMrMask }

/-- `IER` write (R305). -/
def usartWriteIer (u : Fin 6) (v : Word) (s : State) : State :=
  usartUpdateIrq u (s.setUsart u { s.usart u with imr := setBits (s.usart u).imr (v &&& usartImrMask) })

/-- `IDR` write (R305). -/
def usartWriteIdr (u : Fin 6) (v : Word) (s : State) : State :=
  usartUpdateIrq u (s.setUsart u { s.usart u with imr := clearBits (s.usart u).imr v })

/-- `RHR` read (R311): the result is the character held before the pump refills. -/
def usartReadRhr (u : Fin 6) (s : State) : State :=
  let x := s.usart u
  (usartRxPump u (s.setUsart u { x with rxrdy := false })).andThen fun t => t.returns (x.rhr.setWidth 32)

/-- `THR` write (R313). -/
def usartWriteThr (u : Fin 6) (v : Word) (s : State) : State :=
  if (s.usart u).txEnabled then emitData (.usart u) [v.setWidth 8] s else s

/-- `BRGR` write (R318). -/
def usartWriteBrgr (u : Fin 6) (v : Word) (s : State) : State :=
  usartUpdateBaud u (s.setUsart u { s.usart u with brgr := v &&& usartBrgrMask })

/-- `RTOR` write (R319). -/
def usartWriteRtor (u : Fin 6) (v : Word) (s : State) : State :=
  s.setUsart u { s.usart u with rtor := v &&& usartRtorMask }

/-- `TTGR` write (R319). -/
def usartWriteTtgr (u : Fin 6) (v : Word) (s : State) : State :=
  s.setUsart u { s.usart u with ttgr := v &&& usartTtgrMask }

/-- `FIDI` write (R319): it re-runs the informational baud computation. -/
def usartWriteFidi (u : Fin 6) (v : Word) (s : State) : State :=
  usartUpdateBaud u (s.setUsart u { s.usart u with fidi := v &&& usartFidiMask })

/-- `IF` write (R319). -/
def usartWriteIf (u : Fin 6) (v : Word) (s : State) : State :=
  s.setUsart u { s.usart u with ifr := v &&& usartIfMask }

/-- `MAN` write (R319). -/
def usartWriteMan (u : Fin 6) (v : Word) (s : State) : State := s.setUsart u { s.usart u with man := v }

/-- `tx_start` (R314, R322): not conditioned on the transmitter. -/
def usartTxStart (u : Fin 6) (s : State) : State := (pdcTx (.usart u) 1 (emitData (.usart u)) none s).2

/-- A character from a link byte (R301). -/
def usartChar (b : Byte) : BitVec 9 := b.setWidth 9

/-- Inbound DATA_IN (R308, R309): refused with ENXIO while the receiver is off; otherwise an overrun is judged once on
the state before the frame, the bytes are queued and the pump runs. -/
def usartDataInFrame (u : Fin 6) (seq : Byte) (payload : List Byte) (s : State) : State :=
  let x := s.usart u
  if x.rxEnabled then
    (usartRxPump u (s.setUsart u { x with
      ovre := x.ovre || x.rxrdy
      rxq := x.rxq ++ payload.map usartChar })).andThen (reply (.usart u) seq 0#32)
  else reply (.usart u) seq Config.enxio s

/-- Inbound FAULT/OVRE (R315). -/
def usartFaultOvreFrame (u : Fin 6) (s : State) : State :=
  usartUpdateIrq u (s.setUsart u { s.usart u with ovre := true })

/-- Inbound FAULT/FRAME (R315). -/
def usartFaultFrameFrame (u : Fin 6) (s : State) : State :=
  usartUpdateIrq u (s.setUsart u { s.usart u with frame := true })

/-- Inbound FAULT/PARE (R315). -/
def usartFaultPareFrame (u : Fin 6) (s : State) : State :=
  usartUpdateIrq u (s.setUsart u { s.usart u with pare := true })

/-- Inbound FAULT/TIMEOUT (R315, R316). -/
def usartFaultTimeoutFrame (u : Fin 6) (s : State) : State :=
  usartUpdateIrq u (s.setUsart u { s.usart u with timeout := true })

end Sys2Proof.Machine
end

