-- ==== Sys2Proof/Machine/Pmc.lean ====
section
/-! DEFINITION. The PMC (R670 to R684). Every register write ends with `pmcUpdate`. -/

namespace Sys2Proof.Machine

/-- A PLL's frequency (R675, R676). -/
def pllHz (locked : Bool) (v : Word) : Nat :=
  if locked then Config.mainckHz / field v 7 0 * (field v 26 16 + 1) else 0

/-- A PLL locks when divider and multiplier are non-zero (R675). -/
def pllLocks (v : Word) : Bool := decide (field v 7 0 ≠ 0) && decide (field v 26 16 ≠ 0)

/-- The source the master clock selects, with its readiness (R681). -/
def Pmc.source (x : Pmc) : Nat × Bool :=
  match field x.mckr 1 0 with
  | 0 => (Config.slckHz, true)
  | 1 => (Config.mainckHz, x.moscs)
  | 2 => (x.pllaHz, x.locka)
  | _ => (x.pllbHz, x.lockb)

/-- The divider of `MDIV` (R70, R681). -/
def mdivOf (mckr : Word) : Nat :=
  match field mckr 9 8 with
  | 0 => 1
  | 1 => 2
  | 2 => 4
  | _ => 6

/-- The selection is valid (R681). -/
def Pmc.valid (x : Pmc) : Bool := x.source.2 && decide (field x.mckr 4 2 ≠ 7)

/-- The master clock the registers select (R681). -/
def Pmc.newHz (x : Pmc) : Nat := x.source.1 / 2 ^ field x.mckr 4 2 / mdivOf x.mckr

/-- Every TC channel re-derives its frequency (R561). -/
def tcUpdateFreq (c : Fin 6) (s : State) : State :=
  s.setTc c { s.tc c with freqHz := tcFreq s.pmc.mclkHz (s.tc c).cmr }

/-- `mclk_changed` (R682): the consumers re-derive their informational clocks, in the order PIT, TWI, USARTs, SPIs, MCI,
TCs. The bit clocks of the SPIs and the card clock are functions of the state (`State.spiClock`, `State.mciClock`), so
with them nothing is left to store (R394, R512). -/
def mclkChanged (s : State) : State :=
  let s := pitUpdateFreq s
  let s := twiUpdateClock s
  let s := (List.finRange 6).foldl (fun t u => usartUpdateBaud u t) s
  (List.finRange 6).foldl (fun t c => tcUpdateFreq c t) s

/-- `pmc_update` (R681) and `update_irq` (R680). -/
def pmcUpdate (s : State) : State :=
  let x := s.pmc
  let s1 := s.setPmc { x with mckrdy := x.valid }
  let s2 :=
    if x.valid ∧ x.newHz ≠ x.mclkHz then
      mclkChanged (s1.setPmc { s1.pmc with mclkHz := x.newHz, mclkChanges := x.mclkChanges + 1 })
    else s1
  pmcUpdateIrq s2

/-- A register of the PMC changes and the clocks follow (R670). -/
def pmcChange (f : Pmc → Pmc) (s : State) : State := pmcUpdate (s.setPmc (f s.pmc))

/-- `SCER` write (R671). -/
def pmcWriteScer (v : Word) (s : State) : State :=
  pmcChange (fun x => { x with scsr := setBits x.scsr (v &&& pmcScsrMask) }) s

/-- `SCDR` write (R671). -/
def pmcWriteScdr (v : Word) (s : State) : State := pmcChange (fun x => { x with scsr := clearBits x.scsr v }) s

/-- `PCER` write (R672). -/
def pmcWritePcer (v : Word) (s : State) : State :=
  pmcChange (fun x => { x with pcsr := setBits x.pcsr (v &&& pmcPcsrMask) }) s

/-- `PCDR` write (R672). -/
def pmcWritePcdr (v : Word) (s : State) : State := pmcChange (fun x => { x with pcsr := clearBits x.pcsr v }) s

/-- `CKGR_MOR` write (R673). -/
def pmcWriteMor (v : Word) (s : State) : State :=
  pmcChange (fun x => { x with mor := v &&& pmcMorMask, moscs := bit v 0 }) s

/-- `CKGR_PLLAR` write (R675). -/
def pmcWritePllar (v : Word) (s : State) : State :=
  pmcChange (fun x => { x with pllar := v &&& pmcPllarMask, locka := pllLocks v, pllaHz := pllHz (pllLocks v) v }) s

/-- `CKGR_PLLBR` write (R676). -/
def pmcWritePllbr (v : Word) (s : State) : State :=
  pmcChange (fun x => { x with pllbr := v &&& pmcPllbrMask, lockb := pllLocks v, pllbHz := pllHz (pllLocks v) v }) s

/-- `MCKR` write (R677). -/
def pmcWriteMckr (v : Word) (s : State) : State := pmcChange (fun x => { x with mckr := v &&& pmcMckrMask }) s

/-- `PCK0` write (R678). -/
def pmcWritePck0 (v : Word) (s : State) : State := pmcChange (fun x => { x with pck0 := v &&& pmcPckMask }) s

/-- `PCK1` write (R678). -/
def pmcWritePck1 (v : Word) (s : State) : State := pmcChange (fun x => { x with pck1 := v &&& pmcPckMask }) s

/-- `IER` write (R679). -/
def pmcWriteIer (v : Word) (s : State) : State :=
  pmcChange (fun x => { x with imr := setBits x.imr (v &&& pmcImrMask) }) s

/-- `IDR` write (R679). -/
def pmcWriteIdr (v : Word) (s : State) : State := pmcChange (fun x => { x with imr := clearBits x.imr v }) s

/-- `PLLICPR` write (R683). -/
def pmcWritePllicpr (v : Word) (s : State) : State := pmcChange (fun x => { x with pllicpr := v }) s

end Sys2Proof.Machine
end

