-- ==== Sys2Proof/Machine/Reset.lean ====
section
/-! DEFINITION. The SoC reset (R820) in its two phases. -/

namespace Sys2Proof.Machine

/-- The AIC's registers (R820); every peripheral's interrupt output goes to 0, so only the external lines keep their
level. -/
def Aic.socReset (a : Aic) : Aic := { Aic.reset with line := a.line &&& 0xE0000001#32 }

/-- Phase 1 of R820: every register, enable, latch and mask at its reset value; the PDCs at 0; the bootmem target of the
boot-mode pin. The PIOs keep the level outside (R69) and the MCI its card until phase 2. The RSTC keeps its reset type,
which R820 leaves to the caller (log entry 23); the last read's result, the console's bytes and the count of announced
clock changes, fields of the model's own, stay too (log entry 3). -/
def resetRegisters (s : State) : State :=
  { s with
    bootTarget := if s.params.bms then .rom else .ebiNcs0
    aic := s.aic.socReset
    stubIn := 0
    pdcs := Vector.replicate 10 Pdc.reset
    usarts := Vector.replicate 6 Usart.reset
    spis := Vector.replicate 2 Spi.reset
    twi := Twi.reset
    mci := Mci.resetWith s.mci.selectedCard
    tcs := Vector.replicate 6 TcChannel.reset
    tcBmr := Vector.replicate 2 0
    pit := Pit.reset
    rtt := Rtt.reset
    dbgu := Dbgu.reset
    pios := s.pios.map fun x => Pio.resetWith x.extLevel
    pmc := { Pmc.reset with mclkChanges := s.pmc.mclkChanges }
    matrix := Matrix.reset
    rstc := { s.rstc with mr := 0 }
    sdramc := Sdramc.reset }

/-- `soc_reset` (R820). The buffers of phase 2 are cleared with the registers above; what is left of phase 2 is the pin
state each PIO announces whether or not it changed (R664), the card of PIOB pin 7 (R510), and the AIC's outputs. -/
def socReset (s : State) : State :=
  let s := resetRegisters s
  let s := pioEmitOut 2 (pioEmitOut 1 (pioEmitOut 0 s))
  aicUpdate (pioSelectCard 1 s)

/-! ### The host before the first step -/

/-- Bytes placed in memory upwards from an address. -/
def Memory.place : Nat → List Byte → List Host.Cell → List Host.Cell
  | _, [], m => m
  | a, b :: bs, m => Memory.place (a + 1) bs (Memory.write m a b)

/-- The memory with a NOR-flash image (R826): its bytes in NOR from offset 0 and the same bytes in SDRAM from offset 0,
every other byte 0. What of an image exceeds an array is left out (DESIGN CHOICE, log entry 33). -/
def imageMemory (z : MemSizes) (image : List Byte) : List Host.Cell :=
  Memory.place 0x20000000 (image.take z.sdram) (Memory.place 0x10000000 (image.take z.nor) [])

/-- The machine as the host builds it (R10, R821, R826): with the level of `BMS` and the other parameters, and with
initial memory contents. The pins are at 0, so PIOB pin 7 selects the card of level 0 (R510). -/
def State.construct (p : Params) (mem : List Host.Cell) : State :=
  { State.reset with
    params := p
    mem := mem
    bootTarget := if p.bms then .rom else .ebiNcs0
    mci := Mci.resetWith (cardOf p.mciCardPolarity false) }

/-- The machine with a NOR-flash image (R826). -/
def State.withImage (p : Params) (image : List Byte) : State := State.construct p (imageMemory p.sizes image)

end Sys2Proof.Machine
end

