-- ==== Sys2Proof/Machine/Misc.lean ====
section
/-! DEFINITION. The bus matrix (R166, R167), the reset controller (R170, R171) and the SDRAM controller (R172 to R175). -/

namespace Sys2Proof.Machine

/-- `MCFG[k]` write (R166). -/
def matrixWriteMcfg (k : Fin 6) (v : Word) (s : State) : State :=
  s.setMatrix { s.matrix with mcfg := s.matrix.mcfg.set k.val (v &&& matrixMcfgMask) }

/-- `SCFG[k]` write (R166). -/
def matrixWriteScfg (k : Fin 5) (v : Word) (s : State) : State :=
  s.setMatrix { s.matrix with scfg := s.matrix.scfg.set k.val v }

/-- `PRAS[k]` write (R166). -/
def matrixWritePras (k : Fin 5) (v : Word) (s : State) : State :=
  s.setMatrix { s.matrix with pras := s.matrix.pras.set k.val v }

/-- `EBI_CSA` write (R166). -/
def matrixWriteEbiCsa (v : Word) (s : State) : State := s.setMatrix { s.matrix with ebiCsa := v }

/-- `MRCR` write (R167): the bootmem target is selected again (R155). -/
def matrixWriteMrcr (v : Word) (s : State) : State :=
  let m := v &&& matrixMrcrMask
  (s.setMatrix { s.matrix with mrcr := m }).setBootTarget (bootSelect s.params.bms m)

/-- `RSTC_CR` write (R170): with the key, a processor or peripheral reset is a SoC reset of type "software". -/
def rstcWriteCr (v : Word) (s : State) : State :=
  if field v 31 24 = 0xA5 ∧ (bit v 0 ∨ bit v 2) then
    let t := socReset s
    t.setRstc { t.rstc with rsttyp := 3 }
  else s

/-- `RSTC_MR` write (R171): ignored without the key. -/
def rstcWriteMr (v : Word) (s : State) : State :=
  if field v 31 24 = 0xA5 then s.setRstc { s.rstc with mr := v &&& rstcMrMask } else s

/-- `SDRAMC_MR` write (R172). -/
def sdramcWriteMr (v : Word) (s : State) : State := s.setSdramc { s.sdramc with mr := v &&& sdramcMrMask }

/-- `SDRAMC_TR` write (R172). -/
def sdramcWriteTr (v : Word) (s : State) : State := s.setSdramc { s.sdramc with tr := v &&& sdramcTrMask }

/-- `SDRAMC_CR` write (R172). -/
def sdramcWriteCr (v : Word) (s : State) : State := s.setSdramc { s.sdramc with cr := v }

/-- `SDRAMC_LPR` write (R172). -/
def sdramcWriteLpr (v : Word) (s : State) : State := s.setSdramc { s.sdramc with lpr := v }

/-- `SDRAMC_MDR` write (R172). -/
def sdramcWriteMdr (v : Word) (s : State) : State := s.setSdramc { s.sdramc with mdr := v &&& sdramcMdrMask }

/-- `SDRAMC_IER` write (R174). -/
def sdramcWriteIer (v : Word) (s : State) : State :=
  sdramcUpdateIrq (s.setSdramc { s.sdramc with imr := s.sdramc.imr || bit v 0 })

/-- `SDRAMC_IDR` write (R174). -/
def sdramcWriteIdr (v : Word) (s : State) : State :=
  sdramcUpdateIrq (s.setSdramc { s.sdramc with imr := s.sdramc.imr && !bit v 0 })

/-- `SDRAMC_ISR` read (R174): cleared by the read. -/
def sdramcReadIsr (s : State) : State :=
  let v := bitAt s.sdramc.res 0
  (sdramcUpdateIrq (s.setSdramc { s.sdramc with res := false })).returns v

/-- Inbound FAULT/RES (R173). A payload is ignored (DESIGN CHOICE, log entry 30). -/
def sdramcFaultResFrame (s : State) : State := sdramcUpdateIrq (s.setSdramc { s.sdramc with res := true })

end Sys2Proof.Machine
end

