-- ==== Sys2Proof/Machine/Spi.lean ====
section
/-! DEFINITION. The SPI (R370 to R395), for either instance. -/

namespace Sys2Proof.Machine

/-! ### Fields and units -/

/-- `MR.MSTR` (R31). -/
def Spi.master (x : Spi) : Bool := bit x.mr 0

/-- `MR.PS` (R31). -/
def Spi.variablePs (x : Spi) : Bool := bit x.mr 1

/-- `MR.PCS` (R31). -/
def Spi.mrPcs (x : Spi) : BitVec 4 := x.mr.extractLsb 19 16

/-- The word width of a chip select (R374). -/
def Spi.bits (x : Spi) (k : Fin 4) : Nat := 8 + field x.csr[k.val] 7 4

/-- The bit clock of a chip select (R394): `mclk / CSR[k].SCBR`, rounded down; informational, no rule reads it. With
`SCBR` = 0 it is a free value. -/
def State.spiClock (s : State) (u : Fin 2) (k : Fin 4) : Nat :=
  let scbr := field (s.spi u).csr[k.val] 15 8
  if scbr = 0 then Config.spiClockUndivided s.pmc.mclkHz else s.pmc.mclkHz / scbr

/-- `spi_select` (R378): the chip-select number of the unit word and the `CSR` that gives the width. -/
def Spi.select (x : Spi) (pcs : BitVec 4) : Option (Nat × Fin 4) :=
  if bit x.mr 2 then
    (if pcs = 15#4 then none else some (pcs.toNat, Fin.ofNat 4 (pcs.toNat / 4)))
  else if pcs.getLsbD 0 = false then some (0, 0)
  else if pcs.getLsbD 1 = false then some (1, 1)
  else if pcs.getLsbD 2 = false then some (2, 2)
  else if pcs.getLsbD 3 = false then some (3, 3)
  else none

/-- One transferred unit (R379). -/
structure SpiUnit where
  pcnr : Nat
  bits : Nat
  data : BitVec 16
  deriving DecidableEq, Repr

/-- A unit of `td` on a chip select, masked to its width (R379). -/
def Spi.unitOf (x : Spi) (pcnr : Nat) (k : Fin 4) (td : BitVec 16) : SpiUnit :=
  ⟨pcnr, x.bits k, td &&& BitVec.ofNat 16 (2 ^ x.bits k - 1)⟩

/-- The unit word on the link (R379), least significant byte first. -/
def SpiUnit.wire (q : SpiUnit) : List Byte :=
  leBytes 4 ((BitVec.ofNat 32 q.pcnr <<< 24) ||| (BitVec.ofNat 32 (q.bits - 8) <<< 16) ||| q.data.setWidth 32)

/-- Bytes of memory per received word (R383, R386). -/
def Spi.rxUnitBytes (x : Spi) : Nat := if x.lastBits = 8 then 1 else 2

/-! ### Receive -/

/-- The DMA half of the pump (R383). -/
def spiPumpDma (u : Fin 2) (s : State) : State :=
  let x := s.spi u
  if !x.rxq.isEmpty && (s.pdc (.spi u)).rxActive then
    let w := x.rxUnitBytes
    let r := pdcRx (.spi u) w (x.rxq.map fun d => leBytes w (d.setWidth 32)) s
    r.2.andThen fun t => t.setSpi u { t.spi u with rxq := (t.spi u).rxq.drop r.1 }
  else s

/-- The register half of the pump (R383). -/
def spiPumpHold (u : Fin 2) (s : State) : State :=
  let x := s.spi u
  if !(s.pdc (.spi u)).rxActive && !x.rdrf then
    match x.rxq with
    | [] => s
    | d :: ds => s.setSpi u { x with rdrData := d, rxq := ds, rdrPcs := x.lastPcs, rdrf := true }
  else s

/-- `spi_rx_pump` (R383). -/
def spiRxPump (u : Fin 2) (s : State) : State :=
  (spiPumpDma u s).andThen fun t => spiUpdateIrq u (spiPumpHold u t)

/-- `spi_deliver` (R382, R385): an overrun is judged once, on the state before the delivery. -/
def spiDeliver (u : Fin 2) (ds : List (BitVec 16)) (s : State) : State :=
  let x := s.spi u
  spiRxPump u (s.setSpi u { x with ovres := x.ovres || (x.rdrf && !ds.isEmpty), rxq := x.rxq ++ ds })

/-! ### Transmit -/

/-- The number of units awaited after `n` more (R381). -/
def awaitMore (a : Option Nat) (n : Nat) : Option Nat :=
  match a with
  | some m => some (n + m)
  | none => some n

/-- The link half of R381: the units' bytes leave in one transmission and the channel awaits `n` units. -/
def spiSend (u : Fin 2) (bs : List Byte) (n : Nat) (s : State) : State :=
  let t := emitData (.spi u) bs s
  t.setSpi u { t.spi u with awaiting := awaitMore (t.spi u).awaiting n }

/-- `spi_transfer` (R381): to the client, or looped back when there is none. -/
def spiTransfer (u : Fin 2) (units : List SpiUnit) (s : State) : State :=
  if s.clientConnected (.spi u) then spiSend u (units.flatMap SpiUnit.wire) units.length s
  else spiDeliver u (units.map SpiUnit.data) s

/-- Select a chip for one datum (R380, R387): `last_pcs` and `last_bits` follow; with none the machine aborts. -/
def spiPrepare (u : Fin 2) (pcs : BitVec 4) (td : BitVec 16) (s : State) : Option SpiUnit × State :=
  let x := s.spi u
  match x.select pcs with
  | none => (none, s.raise (.spiPcs u pcs))
  | some (pcnr, k) =>
    (some (x.unitOf pcnr k td), s.setSpi u { x with lastPcs := pcs, lastBits := x.bits k })

/-- `TDR` write (R380). -/
def spiWriteTdr (u : Fin 2) (v : Word) (s : State) : State :=
  let x := s.spi u
  if !x.enabled then s
  else if !x.master then (if s.params.abortSpiSlave then s.raise (.spiSlave u) else s)
  else
    let pcs := if x.variablePs then v.extractLsb 19 16 else x.mrPcs
    match spiPrepare u pcs (v.extractLsb 15 0) s with
    | (none, t) => t
    | (some q, t) => spiTransfer u [q] t

/-- The chip select and the datum of one group of a DMA buffer (R387). -/
def Spi.groupOperands (x : Spi) (g : List Byte) : BitVec 4 × BitVec 16 :=
  let w := leWord g
  (if x.variablePs then w.extractLsb 19 16 else x.mrPcs, w.extractLsb 15 0)

/-- The units of a DMA buffer, group by group (R387); it stops at the first group with no chip select. -/
def spiPrepareAll (u : Fin 2) : List (List Byte) → List SpiUnit → State → List SpiUnit × State
  | [], qs, s => (qs, s)
  | g :: gs, qs, s =>
    let o := (s.spi u).groupOperands g
    match spiPrepare u o.1 o.2 s with
    | (none, t) => (qs, t)
    | (some q, t) => spiPrepareAll u gs (qs ++ [q]) t

/-- `send` of a DMA transmit (R387): one transmission per buffer. -/
def spiSendBuffer (u : Fin 2) (unit : Nat) (bs : List Byte) (s : State) : State :=
  let r := spiPrepareAll u (groupsOf unit bs.length bs) [] s
  r.2.andThen (spiTransfer u r.1)

/-- Bytes of memory per transmitted unit (R386); without variable PS the chip select of `MR.PCS` decides. -/
def Spi.txUnitBytes (x : Spi) : Option Nat :=
  if x.variablePs then some 4
  else (x.select x.mrPcs).map fun r => if x.bits r.2 = 8 then 1 else 2

/-- `tx_start` (R387). -/
def spiTxStart (u : Fin 2) (s : State) : State :=
  let x := s.spi u
  if !x.enabled then s
  else if !x.master then (if s.params.abortSpiSlave then s.raise (.spiSlave u) else s)
  else
    match x.txUnitBytes with
    | none => s.raise (.spiPcs u x.mrPcs)
    | some n => (pdcTx (.spi u) n (spiSendBuffer u n) none s).2

/-! ### Registers -/

/-- `SWRST` and the enables of `CR` (R372); the reset is that of R393, which leaves the PDC alone. -/
def Spi.control (v : Word) (x : Spi) : Spi :=
  let x := if bit v 7 then Spi.reset else x
  let x := if bit v 0 then { x with enabled := true } else x
  if bit v 1 then { x with enabled := false } else x

/-- A DMA transmit armed while the SPI was disabled starts (R372). -/
def spiStartArmed (u : Fin 2) (s : State) : State :=
  if (s.spi u).enabled && (s.pdc (.spi u)).txActive then spiTxStart u s else s

/-- `CR` write (R372). -/
def spiWriteCr (u : Fin 2) (v : Word) (s : State) : State :=
  (spiStartArmed u (s.setSpi u ((s.spi u).control v))).andThen (spiUpdateIrq u)

/-- `MR` write (R373). -/
def spiWriteMr (u : Fin 2) (v : Word) (s : State) : State :=
  s.setSpi u { s.spi u with mr := v &&& spiMrMask }

/-- `CSR[k]` write (R374). -/
def spiWriteCsr (u : Fin 2) (k : Fin 4) (v : Word) (s : State) : State :=
  if field v 7 4 > 8 then s.raise (.spiBits u (0x30 + 4 * k.val) v)
  else s.setSpi u { s.spi u with csr := (s.spi u).csr.set k.val (v &&& spiCsrMask) }

/-- `SR` read (R375): MODF and OVRES are cleared by the read. -/
def spiReadSr (u : Fin 2) (s : State) : State :=
  let v := s.spiSr u
  (spiUpdateIrq u (s.setSpi u { s.spi u with modf := false, ovres := false })).returns v

/-- `IER` write (R376). -/
def spiWriteIer (u : Fin 2) (v : Word) (s : State) : State :=
  spiUpdateIrq u (s.setSpi u { s.spi u with imr := setBits (s.spi u).imr (v &&& spiImrMask) })

/-- `IDR` write (R376). -/
def spiWriteIdr (u : Fin 2) (v : Word) (s : State) : State :=
  spiUpdateIrq u (s.setSpi u { s.spi u with imr := clearBits (s.spi u).imr v })

/-- `RDR` (R384). -/
def Spi.rdr (x : Spi) : Word := (x.rdrPcs.setWidth 32 <<< 16) ||| x.rdrData.setWidth 32

/-- `RDR` read (R384): the result is the word held before the pump refills. -/
def spiReadRdr (u : Fin 2) (s : State) : State :=
  let x := s.spi u
  (spiRxPump u (s.setSpi u { x with rdrf := false })).andThen fun t => t.returns x.rdr

/-! ### Link input -/

/-- The echoed words of the first `n` units (R388): a unit's low 16 bits. -/
def echoWords (unitBytes n : Nat) (bs : List Byte) : List (BitVec 16) :=
  (List.range n).map fun i => BitVec.ofNat 16 (leNat ((bs.drop (i * unitBytes)).take unitBytes))

/-- The awaiting half of DATA_IN (R388): the echo is complete when `n` units are there; the excess is dropped. -/
def spiEcho (u : Fin 2) (payload : List Byte) (s : State) : State :=
  let x := s.spi u
  match x.awaiting with
  | none => s
  | some n =>
    let acc := x.echoAcc ++ payload
    if acc.length ≥ n * s.params.spiInUnitBytes then
      spiDeliver u (echoWords s.params.spiInUnitBytes n acc) (s.setSpi u { x with awaiting := none, echoAcc := [] })
    else s.setSpi u { x with echoAcc := acc }

/-- Inbound DATA_IN (R388). -/
def spiDataInFrame (u : Fin 2) (seq : Byte) (payload : List Byte) (s : State) : State :=
  (spiEcho u payload s).andThen (reply (.spi u) seq 0#32)

/-- An outbound DATA_OUT by itself (R381): its units leave if a client is there, and the channel awaits their echo. A
transmission of no unit awaits nothing. -/
def spiDataOutFrame (u : Fin 2) (payload : List Byte) (s : State) : State :=
  if s.clientConnected (.spi u) then
    (if payload.length / 4 = 0 then emitData (.spi u) payload s else spiSend u payload (payload.length / 4) s)
  else s

/-- Inbound FAULT/MODF (R389). A payload is ignored (DESIGN CHOICE, log entry 30). -/
def spiFaultModfFrame (u : Fin 2) (s : State) : State :=
  spiUpdateIrq u (s.setSpi u { s.spi u with modf := true })

/-- Inbound FAULT/OVRES (R389). A payload is ignored (DESIGN CHOICE, log entry 30). -/
def spiFaultOvresFrame (u : Fin 2) (s : State) : State :=
  spiUpdateIrq u (s.setSpi u { s.spi u with ovres := true })

end Sys2Proof.Machine
end

