-- ==== Sys2Proof/Machine/PdcRegs.lean ====
section
/-! DEFINITION. The PDC's registers (R262 to R267) for each host, with the procedures the host gives it (R260, R322,
R392, R450, R505). `rx_stop` and `tx_stop` do nothing on every host. -/

namespace Sys2Proof.Machine

/-- `h.rx_start()` (R322, R392, R450, R505). -/
def pdcRxStart (h : PdcHost) (s : State) : State :=
  match h with
  | .usart u => usartRxPump u s
  | .spi u => spiRxPump u s
  | .twi => twiRxPump s
  | .mci => mciPdcRead s

/-- `h.tx_start()` (R314, R387, R450, R504). -/
def pdcTxStart (h : PdcHost) (s : State) : State :=
  match h with
  | .usart u => usartTxStart u s
  | .spi u => spiTxStart u s
  | .twi => twiTxStart s
  | .mci => mciPdcWrite s

/-- `half_duplex` (R261). -/
def halfDuplex : PdcHost → Bool
  | .usart _ => false
  | .spi _ => false
  | .twi => true
  | .mci => true

/-- `RPR` write (R262). -/
def pdcWriteRpr (h : PdcHost) (v : Word) (s : State) : State := s.setPdc h { s.pdc h with rpr := v }

/-- `TPR` write (R262). -/
def pdcWriteTpr (h : PdcHost) (v : Word) (s : State) : State := s.setPdc h { s.pdc h with tpr := v }

/-- `RNPR` write (R262). -/
def pdcWriteRnpr (h : PdcHost) (v : Word) (s : State) : State := s.setPdc h { s.pdc h with rnpr := v }

/-- `TNPR` write (R262). -/
def pdcWriteTnpr (h : PdcHost) (v : Word) (s : State) : State := s.setPdc h { s.pdc h with tnpr := v }

/-- `RCR` write (R263): the flags, then the start, then the interrupt output. -/
def pdcWriteRcr (h : PdcHost) (v : Word) (s : State) : State :=
  let n : BitVec 16 := v.extractLsb 15 0
  let s1 := s.setPdc h (Pdc.rxFlagsAfterWrite (some n) { s.pdc h with rcr := n })
  let s2 := if (s1.pdc h).rxten && decide (n ≠ 0#16) then pdcRxStart h s1 else s1
  s2.andThen (pdcUpdateIrq h)

/-- `TCR` write (R264). -/
def pdcWriteTcr (h : PdcHost) (v : Word) (s : State) : State :=
  let n : BitVec 16 := v.extractLsb 15 0
  let s1 := s.setPdc h (Pdc.txFlagsAfterWrite (some n) { s.pdc h with tcr := n })
  let s2 := if (s1.pdc h).txten && decide (n ≠ 0#16) then pdcTxStart h s1 else s1
  s2.andThen (pdcUpdateIrq h)

/-- `RNCR` write (R265): a next buffer written while the current one is exhausted is used at once. -/
def pdcWriteRncr (h : PdcHost) (v : Word) (s : State) : State :=
  let n : BitVec 16 := v.extractLsb 15 0
  let s1 := s.setPdc h (Pdc.rxFlagsAfterWrite (some n) { s.pdc h with rncr := n })
  let p := s1.pdc h
  let s2 := if p.rxten && decide (p.rcr = 0#16) && decide (p.rncr ≠ 0#16) then pdcRxStart h s1 else s1
  s2.andThen (pdcUpdateIrq h)

/-- `TNCR` write (R265). -/
def pdcWriteTncr (h : PdcHost) (v : Word) (s : State) : State :=
  let n : BitVec 16 := v.extractLsb 15 0
  let s1 := s.setPdc h (Pdc.txFlagsAfterWrite (some n) { s.pdc h with tncr := n })
  let p := s1.pdc h
  let s2 := if p.txten && decide (p.tcr = 0#16) && decide (p.tncr ≠ 0#16) then pdcTxStart h s1 else s1
  s2.andThen (pdcUpdateIrq h)

/-- The enables after a `PTCR` write (R266): a disable bit wins, and in a half-duplex instance the receiver has
priority. -/
def Pdc.enables (half : Bool) (v : Word) (p : Pdc) : Pdc :=
  let p := if bit v 0 then { p with rxten := true, txten := p.txten && !half } else p
  let p := if bit v 8 && !(half && p.rxten) then { p with txten := true } else p
  let p := if bit v 1 then { p with rxten := false } else p
  if bit v 9 then { p with txten := false } else p

/-- `PTCR` write (R266): the enables, the flags, then each enabled channel with a count starts. -/
def pdcWritePtcr (h : PdcHost) (v : Word) (s : State) : State :=
  let s1 := s.setPdc h (Pdc.txFlagsAfterWrite none (Pdc.rxFlagsAfterWrite none ((s.pdc h).enables (halfDuplex h) v)))
  let s2 := if (s1.pdc h).rxActive then pdcRxStart h s1 else s1
  let s3 := s2.andThen fun t => if (t.pdc h).txActive then pdcTxStart h t else t
  s3.andThen (pdcUpdateIrq h)

end Sys2Proof.Machine
end

