-- ==== Sys2Proof/Machine/ExecLinks.lean ====
section
/-! DEFINITION. The meanings of the rows of the link frames (R737, R730 to R735): one definition per row, over the shared operations. -/

namespace Sys2Proof.Machine

/-- `USART.DATA_IN` (R308). -/
def execUsartDataIn (u : Fin 6) (seq : Byte) (payload : List Byte) (s : State) : Host.Outcome State Fault Refusal :=
  runAgent (usartDataInFrame u seq payload) s

/-- `USART.DATA_OUT` (R313). -/
def execUsartDataOut (u : Fin 6) (payload : List Byte) (s : State) : Host.Outcome State Fault Refusal :=
  runAgent (emitData (.usart u) payload) s

/-- `USART.FAULT_OVRE` (R315). -/
def execUsartFaultOvre (u : Fin 6) (_seq : Byte) (_payload : List Byte) (s : State) : Host.Outcome State Fault Refusal :=
  runAgent (usartFaultOvreFrame u) s

/-- `USART.FAULT_FRAME` (R315). -/
def execUsartFaultFrame (u : Fin 6) (_seq : Byte) (_payload : List Byte) (s : State) : Host.Outcome State Fault Refusal :=
  runAgent (usartFaultFrameFrame u) s

/-- `USART.FAULT_PARE` (R315). -/
def execUsartFaultPare (u : Fin 6) (_seq : Byte) (_payload : List Byte) (s : State) : Host.Outcome State Fault Refusal :=
  runAgent (usartFaultPareFrame u) s

/-- `USART.FAULT_TIMEOUT` (R315). -/
def execUsartFaultTimeout (u : Fin 6) (_seq : Byte) (_payload : List Byte) (s : State) : Host.Outcome State Fault Refusal :=
  runAgent (usartFaultTimeoutFrame u) s

/-- `SPI.DATA_IN` (R388). -/
def execSpiDataIn (u : Fin 2) (seq : Byte) (payload : List Byte) (s : State) : Host.Outcome State Fault Refusal :=
  runAgent (spiDataInFrame u seq payload) s

/-- `SPI.DATA_OUT` (R381). -/
def execSpiDataOut (u : Fin 2) (payload : List Byte) (s : State) : Host.Outcome State Fault Refusal :=
  runAgent (spiDataOutFrame u payload) s

/-- `SPI.FAULT_MODF` (R389). -/
def execSpiFaultModf (u : Fin 2) (_seq : Byte) (_payload : List Byte) (s : State) : Host.Outcome State Fault Refusal :=
  runAgent (spiFaultModfFrame u) s

/-- `SPI.FAULT_OVRES` (R389). -/
def execSpiFaultOvres (u : Fin 2) (_seq : Byte) (_payload : List Byte) (s : State) : Host.Outcome State Fault Refusal :=
  runAgent (spiFaultOvresFrame u) s

/-- `TWI.DATA_IN` (R445). -/
def execTwiDataIn (seq : Byte) (payload : List Byte) (s : State) : Host.Outcome State Fault Refusal :=
  runAgent (twiDataInFrame seq payload) s

/-- `TWI.DATA_OUT` (R442). -/
def execTwiDataOut (payload : List Byte) (s : State) : Host.Outcome State Fault Refusal :=
  runAgent (emitData .twi payload) s

/-- `TWI.CTRL_START` (R441). -/
def execTwiCtrlStart (s : State) : Host.Outcome State Fault Refusal :=
  runAgent twiEmitStart s

/-- `TWI.CTRL_STOP` (R442). -/
def execTwiCtrlStop (s : State) : Host.Outcome State Fault Refusal :=
  runAgent twiEmitStop s

/-- `TWI.FAULT_OVRE` (R449). -/
def execTwiFaultOvre (_seq : Byte) (_payload : List Byte) (s : State) : Host.Outcome State Fault Refusal :=
  runAgent twiFaultOvreFrame s

/-- `TWI.FAULT_NACK` (R449). -/
def execTwiFaultNack (_seq : Byte) (_payload : List Byte) (s : State) : Host.Outcome State Fault Refusal :=
  runAgent twiFaultNackFrame s

/-- `TWI.FAULT_ARBLST` (R449). -/
def execTwiFaultArblst (_seq : Byte) (_payload : List Byte) (s : State) : Host.Outcome State Fault Refusal :=
  runAgent twiFaultArblstFrame s

/-- `PIO.PINSTATE_ENABLE` (R663). -/
def execPioPinstateEnable (p : Fin 3) (_seq : Byte) (payload : List Byte) (s : State) : Host.Outcome State Fault Refusal :=
  runAgent (pioEnableFrame p payload) s

/-- `PIO.PINSTATE_DISABLE` (R663). -/
def execPioPinstateDisable (p : Fin 3) (_seq : Byte) (payload : List Byte) (s : State) : Host.Outcome State Fault Refusal :=
  runAgent (pioDisableFrame p payload) s

/-- `PIO.PINSTATE_OUT` (R662). -/
def execPioPinstateOut (p : Fin 3) (s : State) : Host.Outcome State Fault Refusal :=
  runAgent (pioEmitOut p) s

/-- `PIO.PINSTATE_GET` (R663). -/
def execPioPinstateGet (p : Fin 3) (seq : Byte) (_payload : List Byte) (s : State) : Host.Outcome State Fault Refusal :=
  runAgent (pioGetFrame p seq) s

/-- `SDRAMC.FAULT_RES` (R173). -/
def execSdramcFaultRes (_seq : Byte) (_payload : List Byte) (s : State) : Host.Outcome State Fault Refusal :=
  runAgent sdramcFaultResFrame s

end Sys2Proof.Machine
end

