-- ==== Sys2Proof/Machine/ExecMci.lean ====
section
/-! DEFINITION. The meanings of the rows of the MCI and its PDC (R482 to R502, R262 to R267): one definition per row, over the shared operations. -/

namespace Sys2Proof.Machine

/-- `MCI_CR.W` (R482). -/
def execMciCrW (v : Word) (s : State) : Host.Outcome State Fault Refusal :=
  runBus (mciWriteCr v) s

/-- `MCI_MR.R` (R483). -/
def execMciMrR (s : State) : Host.Outcome State Fault Refusal :=
  runBus (readPlain (fun s => s.mci.mr)) s

/-- `MCI_MR.W` (R483). -/
def execMciMrW (v : Word) (s : State) : Host.Outcome State Fault Refusal :=
  runBus (mciWriteMr v) s

/-- `MCI_DTOR.R` (R484). -/
def execMciDtorR (s : State) : Host.Outcome State Fault Refusal :=
  runBus (readPlain (fun s => s.mci.dtor)) s

/-- `MCI_DTOR.W` (R484). -/
def execMciDtorW (v : Word) (s : State) : Host.Outcome State Fault Refusal :=
  runBus (mciWriteDtor v) s

/-- `MCI_SDCR.R` (R484). -/
def execMciSdcrR (s : State) : Host.Outcome State Fault Refusal :=
  runBus (readPlain (fun s => s.mci.sdcr)) s

/-- `MCI_SDCR.W` (R484). -/
def execMciSdcrW (v : Word) (s : State) : Host.Outcome State Fault Refusal :=
  runBus (mciWriteSdcr v) s

/-- `MCI_ARGR.R` (R484). -/
def execMciArgrR (s : State) : Host.Outcome State Fault Refusal :=
  runBus (readPlain (fun s => s.mci.argr)) s

/-- `MCI_ARGR.W` (R484). -/
def execMciArgrW (v : Word) (s : State) : Host.Outcome State Fault Refusal :=
  runBus (mciWriteArgr v) s

/-- `MCI_CMDR.W` (R487). -/
def execMciCmdrW (v : Word) (s : State) : Host.Outcome State Fault Refusal :=
  runBus (mciWriteCmdr v) s

/-- `MCI_BLKR.R` (R483). -/
def execMciBlkrR (s : State) : Host.Outcome State Fault Refusal :=
  runBus (readPlain (fun s => s.mci.blkr)) s

/-- `MCI_BLKR.W` (R483). -/
def execMciBlkrW (v : Word) (s : State) : Host.Outcome State Fault Refusal :=
  runBus (mciWriteBlkr v) s

/-- `MCI_RSPR[k].R` (R490). -/
def execMciRsprR (k : Fin 4) (s : State) : Host.Outcome State Fault Refusal :=
  runBus (mciReadRspr k) s

/-- `MCI_RDR.R` (R499). -/
def execMciRdrR (s : State) : Host.Outcome State Fault Refusal :=
  runBus mciReadRdr s

/-- `MCI_TDR.W` (R502). -/
def execMciTdrW (v : Word) (s : State) : Host.Outcome State Fault Refusal :=
  runBus (mciWriteTdr v) s

/-- `MCI_SR.R` (R485). -/
def execMciSrR (s : State) : Host.Outcome State Fault Refusal :=
  runBus mciReadSr s

/-- `MCI_IER.W` (R486). -/
def execMciIerW (v : Word) (s : State) : Host.Outcome State Fault Refusal :=
  runBus (mciWriteIer v) s

/-- `MCI_IDR.W` (R486). -/
def execMciIdrW (v : Word) (s : State) : Host.Outcome State Fault Refusal :=
  runBus (mciWriteIdr v) s

/-- `MCI_IMR.R` (R486). -/
def execMciImrR (s : State) : Host.Outcome State Fault Refusal :=
  runBus (readPlain (fun s => s.mci.imr)) s

/-- `MCI_RPR.R` (R262). -/
def execMciRprR (s : State) : Host.Outcome State Fault Refusal :=
  runBus (readPlain (fun s => (s.pdc .mci).rpr)) s

/-- `MCI_RPR.W` (R262). -/
def execMciRprW (v : Word) (s : State) : Host.Outcome State Fault Refusal :=
  runBus (pdcWriteRpr .mci v) s

/-- `MCI_RCR.R` (R263). -/
def execMciRcrR (s : State) : Host.Outcome State Fault Refusal :=
  runBus (readPlain (fun s => (s.pdc .mci).rcr.setWidth 32)) s

/-- `MCI_RCR.W` (R263). -/
def execMciRcrW (v : Word) (s : State) : Host.Outcome State Fault Refusal :=
  runBus (pdcWriteRcr .mci v) s

/-- `MCI_TPR.R` (R262). -/
def execMciTprR (s : State) : Host.Outcome State Fault Refusal :=
  runBus (readPlain (fun s => (s.pdc .mci).tpr)) s

/-- `MCI_TPR.W` (R262). -/
def execMciTprW (v : Word) (s : State) : Host.Outcome State Fault Refusal :=
  runBus (pdcWriteTpr .mci v) s

/-- `MCI_TCR.R` (R264). -/
def execMciTcrR (s : State) : Host.Outcome State Fault Refusal :=
  runBus (readPlain (fun s => (s.pdc .mci).tcr.setWidth 32)) s

/-- `MCI_TCR.W` (R264). -/
def execMciTcrW (v : Word) (s : State) : Host.Outcome State Fault Refusal :=
  runBus (pdcWriteTcr .mci v) s

/-- `MCI_RNPR.R` (R262). -/
def execMciRnprR (s : State) : Host.Outcome State Fault Refusal :=
  runBus (readPlain (fun s => (s.pdc .mci).rnpr)) s

/-- `MCI_RNPR.W` (R262). -/
def execMciRnprW (v : Word) (s : State) : Host.Outcome State Fault Refusal :=
  runBus (pdcWriteRnpr .mci v) s

/-- `MCI_RNCR.R` (R265). -/
def execMciRncrR (s : State) : Host.Outcome State Fault Refusal :=
  runBus (readPlain (fun s => (s.pdc .mci).rncr.setWidth 32)) s

/-- `MCI_RNCR.W` (R265). -/
def execMciRncrW (v : Word) (s : State) : Host.Outcome State Fault Refusal :=
  runBus (pdcWriteRncr .mci v) s

/-- `MCI_TNPR.R` (R262). -/
def execMciTnprR (s : State) : Host.Outcome State Fault Refusal :=
  runBus (readPlain (fun s => (s.pdc .mci).tnpr)) s

/-- `MCI_TNPR.W` (R262). -/
def execMciTnprW (v : Word) (s : State) : Host.Outcome State Fault Refusal :=
  runBus (pdcWriteTnpr .mci v) s

/-- `MCI_TNCR.R` (R265). -/
def execMciTncrR (s : State) : Host.Outcome State Fault Refusal :=
  runBus (readPlain (fun s => (s.pdc .mci).tncr.setWidth 32)) s

/-- `MCI_TNCR.W` (R265). -/
def execMciTncrW (v : Word) (s : State) : Host.Outcome State Fault Refusal :=
  runBus (pdcWriteTncr .mci v) s

/-- `MCI_PTCR.W` (R266). -/
def execMciPtcrW (v : Word) (s : State) : Host.Outcome State Fault Refusal :=
  runBus (pdcWritePtcr .mci v) s

/-- `MCI_PTSR.R` (R267). -/
def execMciPtsrR (s : State) : Host.Outcome State Fault Refusal :=
  runBus (readPlain (fun s => (s.pdc .mci).ptsr)) s

end Sys2Proof.Machine
end

