-- ==== Sys2Proof/Machine/ExecPio.lean ====
section
/-! DEFINITION. The meanings of the rows of the three PIOs (R651 to R661): one definition per row, over the shared operations. -/

namespace Sys2Proof.Machine

/-- `PIOA_PER.W` (R651). -/
def execPioaPerW (v : Word) (s : State) : Host.Outcome State Fault Refusal :=
  runBus (pioWritePer 0 v) s

/-- `PIOA_PDR.W` (R651). -/
def execPioaPdrW (v : Word) (s : State) : Host.Outcome State Fault Refusal :=
  runBus (pioWritePdr 0 v) s

/-- `PIOA_PSR.R` (R651). -/
def execPioaPsrR (s : State) : Host.Outcome State Fault Refusal :=
  runBus (readPlain (fun s => (s.pio 0).psr)) s

/-- `PIOA_OER.W` (R652). -/
def execPioaOerW (v : Word) (s : State) : Host.Outcome State Fault Refusal :=
  runBus (pioWriteOer 0 v) s

/-- `PIOA_ODR.W` (R652). -/
def execPioaOdrW (v : Word) (s : State) : Host.Outcome State Fault Refusal :=
  runBus (pioWriteOdr 0 v) s

/-- `PIOA_OSR.R` (R652). -/
def execPioaOsrR (s : State) : Host.Outcome State Fault Refusal :=
  runBus (readPlain (fun s => (s.pio 0).osr)) s

/-- `PIOA_IFER.W` (R653). -/
def execPioaIferW (v : Word) (s : State) : Host.Outcome State Fault Refusal :=
  runBus (pioWriteIfer 0 v) s

/-- `PIOA_IFDR.W` (R653). -/
def execPioaIfdrW (v : Word) (s : State) : Host.Outcome State Fault Refusal :=
  runBus (pioWriteIfdr 0 v) s

/-- `PIOA_IFSR.R` (R653). -/
def execPioaIfsrR (s : State) : Host.Outcome State Fault Refusal :=
  runBus (readPlain (fun s => (s.pio 0).ifsr)) s

/-- `PIOA_SODR.W` (R654). -/
def execPioaSodrW (v : Word) (s : State) : Host.Outcome State Fault Refusal :=
  runBus (pioWriteSodr 0 v) s

/-- `PIOA_CODR.W` (R654). -/
def execPioaCodrW (v : Word) (s : State) : Host.Outcome State Fault Refusal :=
  runBus (pioWriteCodr 0 v) s

/-- `PIOA_ODSR.R` (R654). -/
def execPioaOdsrR (s : State) : Host.Outcome State Fault Refusal :=
  runBus (readPlain (fun s => (s.pio 0).odsr)) s

/-- `PIOA_ODSR.W` (R654). -/
def execPioaOdsrW (v : Word) (s : State) : Host.Outcome State Fault Refusal :=
  runBus (pioWriteOdsr 0 v) s

/-- `PIOA_PDSR.R` (R655). -/
def execPioaPdsrR (s : State) : Host.Outcome State Fault Refusal :=
  runBus (readPlain (fun s => (s.pio 0).pdsr)) s

/-- `PIOA_IER.W` (R656). -/
def execPioaIerW (v : Word) (s : State) : Host.Outcome State Fault Refusal :=
  runBus (pioWriteIer 0 v) s

/-- `PIOA_IDR.W` (R656). -/
def execPioaIdrW (v : Word) (s : State) : Host.Outcome State Fault Refusal :=
  runBus (pioWriteIdr 0 v) s

/-- `PIOA_IMR.R` (R656). -/
def execPioaImrR (s : State) : Host.Outcome State Fault Refusal :=
  runBus (readPlain (fun s => (s.pio 0).imr)) s

/-- `PIOA_ISR.R` (R657). -/
def execPioaIsrR (s : State) : Host.Outcome State Fault Refusal :=
  runBus (pioReadIsr 0) s

/-- `PIOA_MDER.W` (R658). -/
def execPioaMderW (v : Word) (s : State) : Host.Outcome State Fault Refusal :=
  runBus (pioWriteMder 0 v) s

/-- `PIOA_MDDR.W` (R658). -/
def execPioaMddrW (v : Word) (s : State) : Host.Outcome State Fault Refusal :=
  runBus (pioWriteMddr 0 v) s

/-- `PIOA_MDSR.R` (R658). -/
def execPioaMdsrR (s : State) : Host.Outcome State Fault Refusal :=
  runBus (readPlain (fun s => (s.pio 0).mdsr)) s

/-- `PIOA_PUDR.W` (R659). -/
def execPioaPudrW (v : Word) (s : State) : Host.Outcome State Fault Refusal :=
  runBus (pioWritePudr 0 v) s

/-- `PIOA_PUER.W` (R659). -/
def execPioaPuerW (v : Word) (s : State) : Host.Outcome State Fault Refusal :=
  runBus (pioWritePuer 0 v) s

/-- `PIOA_PUSR.R` (R659). -/
def execPioaPusrR (s : State) : Host.Outcome State Fault Refusal :=
  runBus (readPlain (fun s => (s.pio 0).pusr)) s

/-- `PIOA_ASR.W` (R660). -/
def execPioaAsrW (v : Word) (s : State) : Host.Outcome State Fault Refusal :=
  runBus (pioWriteAsr 0 v) s

/-- `PIOA_BSR.W` (R660). -/
def execPioaBsrW (v : Word) (s : State) : Host.Outcome State Fault Refusal :=
  runBus (pioWriteBsr 0 v) s

/-- `PIOA_ABSR.R` (R660). -/
def execPioaAbsrR (s : State) : Host.Outcome State Fault Refusal :=
  runBus (readPlain (fun s => (s.pio 0).absr)) s

/-- `PIOA_OWER.W` (R661). -/
def execPioaOwerW (v : Word) (s : State) : Host.Outcome State Fault Refusal :=
  runBus (pioWriteOwer 0 v) s

/-- `PIOA_OWDR.W` (R661). -/
def execPioaOwdrW (v : Word) (s : State) : Host.Outcome State Fault Refusal :=
  runBus (pioWriteOwdr 0 v) s

/-- `PIOA_OWSR.R` (R661). -/
def execPioaOwsrR (s : State) : Host.Outcome State Fault Refusal :=
  runBus (readPlain (fun s => (s.pio 0).owsr)) s

/-- `PIOB_PER.W` (R651). -/
def execPiobPerW (v : Word) (s : State) : Host.Outcome State Fault Refusal :=
  runBus (pioWritePer 1 v) s

/-- `PIOB_PDR.W` (R651). -/
def execPiobPdrW (v : Word) (s : State) : Host.Outcome State Fault Refusal :=
  runBus (pioWritePdr 1 v) s

/-- `PIOB_PSR.R` (R651). -/
def execPiobPsrR (s : State) : Host.Outcome State Fault Refusal :=
  runBus (readPlain (fun s => (s.pio 1).psr)) s

/-- `PIOB_OER.W` (R652). -/
def execPiobOerW (v : Word) (s : State) : Host.Outcome State Fault Refusal :=
  runBus (pioWriteOer 1 v) s

/-- `PIOB_ODR.W` (R652). -/
def execPiobOdrW (v : Word) (s : State) : Host.Outcome State Fault Refusal :=
  runBus (pioWriteOdr 1 v) s

/-- `PIOB_OSR.R` (R652). -/
def execPiobOsrR (s : State) : Host.Outcome State Fault Refusal :=
  runBus (readPlain (fun s => (s.pio 1).osr)) s

/-- `PIOB_IFER.W` (R653). -/
def execPiobIferW (v : Word) (s : State) : Host.Outcome State Fault Refusal :=
  runBus (pioWriteIfer 1 v) s

/-- `PIOB_IFDR.W` (R653). -/
def execPiobIfdrW (v : Word) (s : State) : Host.Outcome State Fault Refusal :=
  runBus (pioWriteIfdr 1 v) s

/-- `PIOB_IFSR.R` (R653). -/
def execPiobIfsrR (s : State) : Host.Outcome State Fault Refusal :=
  runBus (readPlain (fun s => (s.pio 1).ifsr)) s

/-- `PIOB_SODR.W` (R654). -/
def execPiobSodrW (v : Word) (s : State) : Host.Outcome State Fault Refusal :=
  runBus (pioWriteSodr 1 v) s

/-- `PIOB_CODR.W` (R654). -/
def execPiobCodrW (v : Word) (s : State) : Host.Outcome State Fault Refusal :=
  runBus (pioWriteCodr 1 v) s

/-- `PIOB_ODSR.R` (R654). -/
def execPiobOdsrR (s : State) : Host.Outcome State Fault Refusal :=
  runBus (readPlain (fun s => (s.pio 1).odsr)) s

/-- `PIOB_ODSR.W` (R654). -/
def execPiobOdsrW (v : Word) (s : State) : Host.Outcome State Fault Refusal :=
  runBus (pioWriteOdsr 1 v) s

/-- `PIOB_PDSR.R` (R655). -/
def execPiobPdsrR (s : State) : Host.Outcome State Fault Refusal :=
  runBus (readPlain (fun s => (s.pio 1).pdsr)) s

/-- `PIOB_IER.W` (R656). -/
def execPiobIerW (v : Word) (s : State) : Host.Outcome State Fault Refusal :=
  runBus (pioWriteIer 1 v) s

/-- `PIOB_IDR.W` (R656). -/
def execPiobIdrW (v : Word) (s : State) : Host.Outcome State Fault Refusal :=
  runBus (pioWriteIdr 1 v) s

/-- `PIOB_IMR.R` (R656). -/
def execPiobImrR (s : State) : Host.Outcome State Fault Refusal :=
  runBus (readPlain (fun s => (s.pio 1).imr)) s

/-- `PIOB_ISR.R` (R657). -/
def execPiobIsrR (s : State) : Host.Outcome State Fault Refusal :=
  runBus (pioReadIsr 1) s

/-- `PIOB_MDER.W` (R658). -/
def execPiobMderW (v : Word) (s : State) : Host.Outcome State Fault Refusal :=
  runBus (pioWriteMder 1 v) s

/-- `PIOB_MDDR.W` (R658). -/
def execPiobMddrW (v : Word) (s : State) : Host.Outcome State Fault Refusal :=
  runBus (pioWriteMddr 1 v) s

/-- `PIOB_MDSR.R` (R658). -/
def execPiobMdsrR (s : State) : Host.Outcome State Fault Refusal :=
  runBus (readPlain (fun s => (s.pio 1).mdsr)) s

/-- `PIOB_PUDR.W` (R659). -/
def execPiobPudrW (v : Word) (s : State) : Host.Outcome State Fault Refusal :=
  runBus (pioWritePudr 1 v) s

/-- `PIOB_PUER.W` (R659). -/
def execPiobPuerW (v : Word) (s : State) : Host.Outcome State Fault Refusal :=
  runBus (pioWritePuer 1 v) s

/-- `PIOB_PUSR.R` (R659). -/
def execPiobPusrR (s : State) : Host.Outcome State Fault Refusal :=
  runBus (readPlain (fun s => (s.pio 1).pusr)) s

/-- `PIOB_ASR.W` (R660). -/
def execPiobAsrW (v : Word) (s : State) : Host.Outcome State Fault Refusal :=
  runBus (pioWriteAsr 1 v) s

/-- `PIOB_BSR.W` (R660). -/
def execPiobBsrW (v : Word) (s : State) : Host.Outcome State Fault Refusal :=
  runBus (pioWriteBsr 1 v) s

/-- `PIOB_ABSR.R` (R660). -/
def execPiobAbsrR (s : State) : Host.Outcome State Fault Refusal :=
  runBus (readPlain (fun s => (s.pio 1).absr)) s

/-- `PIOB_OWER.W` (R661). -/
def execPiobOwerW (v : Word) (s : State) : Host.Outcome State Fault Refusal :=
  runBus (pioWriteOwer 1 v) s

/-- `PIOB_OWDR.W` (R661). -/
def execPiobOwdrW (v : Word) (s : State) : Host.Outcome State Fault Refusal :=
  runBus (pioWriteOwdr 1 v) s

/-- `PIOB_OWSR.R` (R661). -/
def execPiobOwsrR (s : State) : Host.Outcome State Fault Refusal :=
  runBus (readPlain (fun s => (s.pio 1).owsr)) s

/-- `PIOC_PER.W` (R651). -/
def execPiocPerW (v : Word) (s : State) : Host.Outcome State Fault Refusal :=
  runBus (pioWritePer 2 v) s

/-- `PIOC_PDR.W` (R651). -/
def execPiocPdrW (v : Word) (s : State) : Host.Outcome State Fault Refusal :=
  runBus (pioWritePdr 2 v) s

/-- `PIOC_PSR.R` (R651). -/
def execPiocPsrR (s : State) : Host.Outcome State Fault Refusal :=
  runBus (readPlain (fun s => (s.pio 2).psr)) s

/-- `PIOC_OER.W` (R652). -/
def execPiocOerW (v : Word) (s : State) : Host.Outcome State Fault Refusal :=
  runBus (pioWriteOer 2 v) s

/-- `PIOC_ODR.W` (R652). -/
def execPiocOdrW (v : Word) (s : State) : Host.Outcome State Fault Refusal :=
  runBus (pioWriteOdr 2 v) s

/-- `PIOC_OSR.R` (R652). -/
def execPiocOsrR (s : State) : Host.Outcome State Fault Refusal :=
  runBus (readPlain (fun s => (s.pio 2).osr)) s

/-- `PIOC_IFER.W` (R653). -/
def execPiocIferW (v : Word) (s : State) : Host.Outcome State Fault Refusal :=
  runBus (pioWriteIfer 2 v) s

/-- `PIOC_IFDR.W` (R653). -/
def execPiocIfdrW (v : Word) (s : State) : Host.Outcome State Fault Refusal :=
  runBus (pioWriteIfdr 2 v) s

/-- `PIOC_IFSR.R` (R653). -/
def execPiocIfsrR (s : State) : Host.Outcome State Fault Refusal :=
  runBus (readPlain (fun s => (s.pio 2).ifsr)) s

/-- `PIOC_SODR.W` (R654). -/
def execPiocSodrW (v : Word) (s : State) : Host.Outcome State Fault Refusal :=
  runBus (pioWriteSodr 2 v) s

/-- `PIOC_CODR.W` (R654). -/
def execPiocCodrW (v : Word) (s : State) : Host.Outcome State Fault Refusal :=
  runBus (pioWriteCodr 2 v) s

/-- `PIOC_ODSR.R` (R654). -/
def execPiocOdsrR (s : State) : Host.Outcome State Fault Refusal :=
  runBus (readPlain (fun s => (s.pio 2).odsr)) s

/-- `PIOC_ODSR.W` (R654). -/
def execPiocOdsrW (v : Word) (s : State) : Host.Outcome State Fault Refusal :=
  runBus (pioWriteOdsr 2 v) s

/-- `PIOC_PDSR.R` (R655). -/
def execPiocPdsrR (s : State) : Host.Outcome State Fault Refusal :=
  runBus (readPlain (fun s => (s.pio 2).pdsr)) s

/-- `PIOC_IER.W` (R656). -/
def execPiocIerW (v : Word) (s : State) : Host.Outcome State Fault Refusal :=
  runBus (pioWriteIer 2 v) s

/-- `PIOC_IDR.W` (R656). -/
def execPiocIdrW (v : Word) (s : State) : Host.Outcome State Fault Refusal :=
  runBus (pioWriteIdr 2 v) s

/-- `PIOC_IMR.R` (R656). -/
def execPiocImrR (s : State) : Host.Outcome State Fault Refusal :=
  runBus (readPlain (fun s => (s.pio 2).imr)) s

/-- `PIOC_ISR.R` (R657). -/
def execPiocIsrR (s : State) : Host.Outcome State Fault Refusal :=
  runBus (pioReadIsr 2) s

/-- `PIOC_MDER.W` (R658). -/
def execPiocMderW (v : Word) (s : State) : Host.Outcome State Fault Refusal :=
  runBus (pioWriteMder 2 v) s

/-- `PIOC_MDDR.W` (R658). -/
def execPiocMddrW (v : Word) (s : State) : Host.Outcome State Fault Refusal :=
  runBus (pioWriteMddr 2 v) s

/-- `PIOC_MDSR.R` (R658). -/
def execPiocMdsrR (s : State) : Host.Outcome State Fault Refusal :=
  runBus (readPlain (fun s => (s.pio 2).mdsr)) s

/-- `PIOC_PUDR.W` (R659). -/
def execPiocPudrW (v : Word) (s : State) : Host.Outcome State Fault Refusal :=
  runBus (pioWritePudr 2 v) s

/-- `PIOC_PUER.W` (R659). -/
def execPiocPuerW (v : Word) (s : State) : Host.Outcome State Fault Refusal :=
  runBus (pioWritePuer 2 v) s

/-- `PIOC_PUSR.R` (R659). -/
def execPiocPusrR (s : State) : Host.Outcome State Fault Refusal :=
  runBus (readPlain (fun s => (s.pio 2).pusr)) s

/-- `PIOC_ASR.W` (R660). -/
def execPiocAsrW (v : Word) (s : State) : Host.Outcome State Fault Refusal :=
  runBus (pioWriteAsr 2 v) s

/-- `PIOC_BSR.W` (R660). -/
def execPiocBsrW (v : Word) (s : State) : Host.Outcome State Fault Refusal :=
  runBus (pioWriteBsr 2 v) s

/-- `PIOC_ABSR.R` (R660). -/
def execPiocAbsrR (s : State) : Host.Outcome State Fault Refusal :=
  runBus (readPlain (fun s => (s.pio 2).absr)) s

/-- `PIOC_OWER.W` (R661). -/
def execPiocOwerW (v : Word) (s : State) : Host.Outcome State Fault Refusal :=
  runBus (pioWriteOwer 2 v) s

/-- `PIOC_OWDR.W` (R661). -/
def execPiocOwdrW (v : Word) (s : State) : Host.Outcome State Fault Refusal :=
  runBus (pioWriteOwdr 2 v) s

/-- `PIOC_OWSR.R` (R661). -/
def execPiocOwsrR (s : State) : Host.Outcome State Fault Refusal :=
  runBus (readPlain (fun s => (s.pio 2).owsr)) s

end Sys2Proof.Machine
end

