-- ==== Sys2Proof/Machine/ExecSpi.lean ====
section
/-! DEFINITION. The meanings of the rows of the two SPIs and their PDCs (R372 to R384, R262 to R267): one definition per row, over the shared operations. -/

namespace Sys2Proof.Machine

/-- `SPI0_CR.W` (R372). -/
def execSpi0CrW (v : Word) (s : State) : Host.Outcome State Fault Refusal :=
  runBus (spiWriteCr 0 v) s

/-- `SPI0_MR.R` (R373). -/
def execSpi0MrR (s : State) : Host.Outcome State Fault Refusal :=
  runBus (readPlain (fun s => (s.spi 0).mr)) s

/-- `SPI0_MR.W` (R373). -/
def execSpi0MrW (v : Word) (s : State) : Host.Outcome State Fault Refusal :=
  runBus (spiWriteMr 0 v) s

/-- `SPI0_RDR.R` (R384). -/
def execSpi0RdrR (s : State) : Host.Outcome State Fault Refusal :=
  runBus (spiReadRdr 0) s

/-- `SPI0_TDR.W` (R380). -/
def execSpi0TdrW (v : Word) (s : State) : Host.Outcome State Fault Refusal :=
  runBus (spiWriteTdr 0 v) s

/-- `SPI0_SR.R` (R375). -/
def execSpi0SrR (s : State) : Host.Outcome State Fault Refusal :=
  runBus (spiReadSr 0) s

/-- `SPI0_IER.W` (R376). -/
def execSpi0IerW (v : Word) (s : State) : Host.Outcome State Fault Refusal :=
  runBus (spiWriteIer 0 v) s

/-- `SPI0_IDR.W` (R376). -/
def execSpi0IdrW (v : Word) (s : State) : Host.Outcome State Fault Refusal :=
  runBus (spiWriteIdr 0 v) s

/-- `SPI0_IMR.R` (R376). -/
def execSpi0ImrR (s : State) : Host.Outcome State Fault Refusal :=
  runBus (readPlain (fun s => (s.spi 0).imr)) s

/-- `SPI0_CSR[k].R` (R374). -/
def execSpi0CsrR (k : Fin 4) (s : State) : Host.Outcome State Fault Refusal :=
  runBus (readPlain (fun s => (s.spi 0).csr[k.val])) s

/-- `SPI0_CSR[k].W` (R374). -/
def execSpi0CsrW (k : Fin 4) (v : Word) (s : State) : Host.Outcome State Fault Refusal :=
  runBus (spiWriteCsr 0 k v) s

/-- `SPI0_RPR.R` (R262). -/
def execSpi0RprR (s : State) : Host.Outcome State Fault Refusal :=
  runBus (readPlain (fun s => (s.pdc (.spi 0)).rpr)) s

/-- `SPI0_RPR.W` (R262). -/
def execSpi0RprW (v : Word) (s : State) : Host.Outcome State Fault Refusal :=
  runBus (pdcWriteRpr (.spi 0) v) s

/-- `SPI0_RCR.R` (R263). -/
def execSpi0RcrR (s : State) : Host.Outcome State Fault Refusal :=
  runBus (readPlain (fun s => (s.pdc (.spi 0)).rcr.setWidth 32)) s

/-- `SPI0_RCR.W` (R263). -/
def execSpi0RcrW (v : Word) (s : State) : Host.Outcome State Fault Refusal :=
  runBus (pdcWriteRcr (.spi 0) v) s

/-- `SPI0_TPR.R` (R262). -/
def execSpi0TprR (s : State) : Host.Outcome State Fault Refusal :=
  runBus (readPlain (fun s => (s.pdc (.spi 0)).tpr)) s

/-- `SPI0_TPR.W` (R262). -/
def execSpi0TprW (v : Word) (s : State) : Host.Outcome State Fault Refusal :=
  runBus (pdcWriteTpr (.spi 0) v) s

/-- `SPI0_TCR.R` (R264). -/
def execSpi0TcrR (s : State) : Host.Outcome State Fault Refusal :=
  runBus (readPlain (fun s => (s.pdc (.spi 0)).tcr.setWidth 32)) s

/-- `SPI0_TCR.W` (R264). -/
def execSpi0TcrW (v : Word) (s : State) : Host.Outcome State Fault Refusal :=
  runBus (pdcWriteTcr (.spi 0) v) s

/-- `SPI0_RNPR.R` (R262). -/
def execSpi0RnprR (s : State) : Host.Outcome State Fault Refusal :=
  runBus (readPlain (fun s => (s.pdc (.spi 0)).rnpr)) s

/-- `SPI0_RNPR.W` (R262). -/
def execSpi0RnprW (v : Word) (s : State) : Host.Outcome State Fault Refusal :=
  runBus (pdcWriteRnpr (.spi 0) v) s

/-- `SPI0_RNCR.R` (R265). -/
def execSpi0RncrR (s : State) : Host.Outcome State Fault Refusal :=
  runBus (readPlain (fun s => (s.pdc (.spi 0)).rncr.setWidth 32)) s

/-- `SPI0_RNCR.W` (R265). -/
def execSpi0RncrW (v : Word) (s : State) : Host.Outcome State Fault Refusal :=
  runBus (pdcWriteRncr (.spi 0) v) s

/-- `SPI0_TNPR.R` (R262). -/
def execSpi0TnprR (s : State) : Host.Outcome State Fault Refusal :=
  runBus (readPlain (fun s => (s.pdc (.spi 0)).tnpr)) s

/-- `SPI0_TNPR.W` (R262). -/
def execSpi0TnprW (v : Word) (s : State) : Host.Outcome State Fault Refusal :=
  runBus (pdcWriteTnpr (.spi 0) v) s

/-- `SPI0_TNCR.R` (R265). -/
def execSpi0TncrR (s : State) : Host.Outcome State Fault Refusal :=
  runBus (readPlain (fun s => (s.pdc (.spi 0)).tncr.setWidth 32)) s

/-- `SPI0_TNCR.W` (R265). -/
def execSpi0TncrW (v : Word) (s : State) : Host.Outcome State Fault Refusal :=
  runBus (pdcWriteTncr (.spi 0) v) s

/-- `SPI0_PTCR.W` (R266). -/
def execSpi0PtcrW (v : Word) (s : State) : Host.Outcome State Fault Refusal :=
  runBus (pdcWritePtcr (.spi 0) v) s

/-- `SPI0_PTSR.R` (R267). -/
def execSpi0PtsrR (s : State) : Host.Outcome State Fault Refusal :=
  runBus (readPlain (fun s => (s.pdc (.spi 0)).ptsr)) s

/-- `SPI1_CR.W` (R372). -/
def execSpi1CrW (v : Word) (s : State) : Host.Outcome State Fault Refusal :=
  runBus (spiWriteCr 1 v) s

/-- `SPI1_MR.R` (R373). -/
def execSpi1MrR (s : State) : Host.Outcome State Fault Refusal :=
  runBus (readPlain (fun s => (s.spi 1).mr)) s

/-- `SPI1_MR.W` (R373). -/
def execSpi1MrW (v : Word) (s : State) : Host.Outcome State Fault Refusal :=
  runBus (spiWriteMr 1 v) s

/-- `SPI1_RDR.R` (R384). -/
def execSpi1RdrR (s : State) : Host.Outcome State Fault Refusal :=
  runBus (spiReadRdr 1) s

/-- `SPI1_TDR.W` (R380). -/
def execSpi1TdrW (v : Word) (s : State) : Host.Outcome State Fault Refusal :=
  runBus (spiWriteTdr 1 v) s

/-- `SPI1_SR.R` (R375). -/
def execSpi1SrR (s : State) : Host.Outcome State Fault Refusal :=
  runBus (spiReadSr 1) s

/-- `SPI1_IER.W` (R376). -/
def execSpi1IerW (v : Word) (s : State) : Host.Outcome State Fault Refusal :=
  runBus (spiWriteIer 1 v) s

/-- `SPI1_IDR.W` (R376). -/
def execSpi1IdrW (v : Word) (s : State) : Host.Outcome State Fault Refusal :=
  runBus (spiWriteIdr 1 v) s

/-- `SPI1_IMR.R` (R376). -/
def execSpi1ImrR (s : State) : Host.Outcome State Fault Refusal :=
  runBus (readPlain (fun s => (s.spi 1).imr)) s

/-- `SPI1_CSR[k].R` (R374). -/
def execSpi1CsrR (k : Fin 4) (s : State) : Host.Outcome State Fault Refusal :=
  runBus (readPlain (fun s => (s.spi 1).csr[k.val])) s

/-- `SPI1_CSR[k].W` (R374). -/
def execSpi1CsrW (k : Fin 4) (v : Word) (s : State) : Host.Outcome State Fault Refusal :=
  runBus (spiWriteCsr 1 k v) s

/-- `SPI1_RPR.R` (R262). -/
def execSpi1RprR (s : State) : Host.Outcome State Fault Refusal :=
  runBus (readPlain (fun s => (s.pdc (.spi 1)).rpr)) s

/-- `SPI1_RPR.W` (R262). -/
def execSpi1RprW (v : Word) (s : State) : Host.Outcome State Fault Refusal :=
  runBus (pdcWriteRpr (.spi 1) v) s

/-- `SPI1_RCR.R` (R263). -/
def execSpi1RcrR (s : State) : Host.Outcome State Fault Refusal :=
  runBus (readPlain (fun s => (s.pdc (.spi 1)).rcr.setWidth 32)) s

/-- `SPI1_RCR.W` (R263). -/
def execSpi1RcrW (v : Word) (s : State) : Host.Outcome State Fault Refusal :=
  runBus (pdcWriteRcr (.spi 1) v) s

/-- `SPI1_TPR.R` (R262). -/
def execSpi1TprR (s : State) : Host.Outcome State Fault Refusal :=
  runBus (readPlain (fun s => (s.pdc (.spi 1)).tpr)) s

/-- `SPI1_TPR.W` (R262). -/
def execSpi1TprW (v : Word) (s : State) : Host.Outcome State Fault Refusal :=
  runBus (pdcWriteTpr (.spi 1) v) s

/-- `SPI1_TCR.R` (R264). -/
def execSpi1TcrR (s : State) : Host.Outcome State Fault Refusal :=
  runBus (readPlain (fun s => (s.pdc (.spi 1)).tcr.setWidth 32)) s

/-- `SPI1_TCR.W` (R264). -/
def execSpi1TcrW (v : Word) (s : State) : Host.Outcome State Fault Refusal :=
  runBus (pdcWriteTcr (.spi 1) v) s

/-- `SPI1_RNPR.R` (R262). -/
def execSpi1RnprR (s : State) : Host.Outcome State Fault Refusal :=
  runBus (readPlain (fun s => (s.pdc (.spi 1)).rnpr)) s

/-- `SPI1_RNPR.W` (R262). -/
def execSpi1RnprW (v : Word) (s : State) : Host.Outcome State Fault Refusal :=
  runBus (pdcWriteRnpr (.spi 1) v) s

/-- `SPI1_RNCR.R` (R265). -/
def execSpi1RncrR (s : State) : Host.Outcome State Fault Refusal :=
  runBus (readPlain (fun s => (s.pdc (.spi 1)).rncr.setWidth 32)) s

/-- `SPI1_RNCR.W` (R265). -/
def execSpi1RncrW (v : Word) (s : State) : Host.Outcome State Fault Refusal :=
  runBus (pdcWriteRncr (.spi 1) v) s

/-- `SPI1_TNPR.R` (R262). -/
def execSpi1TnprR (s : State) : Host.Outcome State Fault Refusal :=
  runBus (readPlain (fun s => (s.pdc (.spi 1)).tnpr)) s

/-- `SPI1_TNPR.W` (R262). -/
def execSpi1TnprW (v : Word) (s : State) : Host.Outcome State Fault Refusal :=
  runBus (pdcWriteTnpr (.spi 1) v) s

/-- `SPI1_TNCR.R` (R265). -/
def execSpi1TncrR (s : State) : Host.Outcome State Fault Refusal :=
  runBus (readPlain (fun s => (s.pdc (.spi 1)).tncr.setWidth 32)) s

/-- `SPI1_TNCR.W` (R265). -/
def execSpi1TncrW (v : Word) (s : State) : Host.Outcome State Fault Refusal :=
  runBus (pdcWriteTncr (.spi 1) v) s

/-- `SPI1_PTCR.W` (R266). -/
def execSpi1PtcrW (v : Word) (s : State) : Host.Outcome State Fault Refusal :=
  runBus (pdcWritePtcr (.spi 1) v) s

/-- `SPI1_PTSR.R` (R267). -/
def execSpi1PtsrR (s : State) : Host.Outcome State Fault Refusal :=
  runBus (readPlain (fun s => (s.pdc (.spi 1)).ptsr)) s

end Sys2Proof.Machine
end

