-- ==== Sys2Proof/Machine/Dbgu.lean ====
section
/-! DEFINITION. The DBGU (R630 to R640). -/

namespace Sys2Proof.Machine

/-- `CR` write (R631): `RSTSTA` clears OVRE; every other bit does nothing. -/
def dbguWriteCr (v : Word) (s : State) : State :=
  dbguUpdateIrq (if bit v 8 then s.setDbgu { s.dbgu with ovre := false } else s)

/-- `MR` write (R632). -/
def dbguWriteMr (v : Word) (s : State) : State := s.setDbgu { s.dbgu with mr := v &&& dbguMrMask }

/-- `BRGR` write (R638). -/
def dbguWriteBrgr (v : Word) (s : State) : State := s.setDbgu { s.dbgu with brgr := v &&& dbguBrgrMask }

/-- `IER` write (R633). -/
def dbguWriteIer (v : Word) (s : State) : State :=
  dbguUpdateIrq (s.setDbgu { s.dbgu with imr := setBits s.dbgu.imr (v &&& dbguImrMask) })

/-- `IDR` write (R633). -/
def dbguWriteIdr (v : Word) (s : State) : State :=
  dbguUpdateIrq (s.setDbgu { s.dbgu with imr := clearBits s.dbgu.imr v })

/-- `RHR` read (R635). -/
def dbguReadRhr (s : State) : State :=
  (dbguUpdateIrq (s.setDbgu { s.dbgu with rxrdy := false })).returns (s.dbgu.rhr.setWidth 32)

/-- `THR` write (R636): the byte is at the console when the write ends. -/
def dbguWriteThr (v : Word) (s : State) : State := s.setConsoleOut (s.consoleOut ++ [v.setWidth 8])

/-- The `Console` input step (R637): on overrun the new byte replaces the unread one. -/
def dbguInput (b : Byte) (s : State) : State :=
  dbguUpdateIrq (s.setDbgu { s.dbgu with ovre := s.dbgu.ovre || s.dbgu.rxrdy, rhr := b, rxrdy := true })

end Sys2Proof.Machine
end

