-- ==== Sys2Proof/Machine/ExecSystem.lean ====
section
/-! DEFINITION. The meanings of the rows of the DBGU, PMC, bus matrix, RSTC and SDRAMC (R631 to R639, R671 to R683, R166 to R174): one definition per row, over the shared operations. -/

namespace Sys2Proof.Machine

/-- `DBGU_CR.W` (R631). -/
def execDbguCrW (v : Word) (s : State) : Host.Outcome State Fault Refusal :=
  runBus (dbguWriteCr v) s

/-- `DBGU_MR.R` (R632). -/
def execDbguMrR (s : State) : Host.Outcome State Fault Refusal :=
  runBus (readPlain (fun s => s.dbgu.mr)) s

/-- `DBGU_MR.W` (R632). -/
def execDbguMrW (v : Word) (s : State) : Host.Outcome State Fault Refusal :=
  runBus (dbguWriteMr v) s

/-- `DBGU_IER.W` (R633). -/
def execDbguIerW (v : Word) (s : State) : Host.Outcome State Fault Refusal :=
  runBus (dbguWriteIer v) s

/-- `DBGU_IDR.W` (R633). -/
def execDbguIdrW (v : Word) (s : State) : Host.Outcome State Fault Refusal :=
  runBus (dbguWriteIdr v) s

/-- `DBGU_IMR.R` (R633). -/
def execDbguImrR (s : State) : Host.Outcome State Fault Refusal :=
  runBus (readPlain (fun s => s.dbgu.imr)) s

/-- `DBGU_SR.R` (R634). -/
def execDbguSrR (s : State) : Host.Outcome State Fault Refusal :=
  runBus (readPlain (fun s => s.dbgu.sr)) s

/-- `DBGU_RHR.R` (R635). -/
def execDbguRhrR (s : State) : Host.Outcome State Fault Refusal :=
  runBus dbguReadRhr s

/-- `DBGU_THR.W` (R636). -/
def execDbguThrW (v : Word) (s : State) : Host.Outcome State Fault Refusal :=
  runBus (dbguWriteThr v) s

/-- `DBGU_BRGR.R` (R638). -/
def execDbguBrgrR (s : State) : Host.Outcome State Fault Refusal :=
  runBus (readPlain (fun s => s.dbgu.brgr)) s

/-- `DBGU_BRGR.W` (R638). -/
def execDbguBrgrW (v : Word) (s : State) : Host.Outcome State Fault Refusal :=
  runBus (dbguWriteBrgr v) s

/-- `DBGU_CIDR.R` (R639). -/
def execDbguCidrR (s : State) : Host.Outcome State Fault Refusal :=
  runBus (readPlain (fun _ => Config.dbguCidr)) s

/-- `DBGU_EXID.R` (R639). -/
def execDbguExidR (s : State) : Host.Outcome State Fault Refusal :=
  runBus (readPlain (fun _ => Config.dbguExid)) s

/-- `PMC_SCER.W` (R671). -/
def execPmcScerW (v : Word) (s : State) : Host.Outcome State Fault Refusal :=
  runBus (pmcWriteScer v) s

/-- `PMC_SCDR.W` (R671). -/
def execPmcScdrW (v : Word) (s : State) : Host.Outcome State Fault Refusal :=
  runBus (pmcWriteScdr v) s

/-- `PMC_SCSR.R` (R671). -/
def execPmcScsrR (s : State) : Host.Outcome State Fault Refusal :=
  runBus (readPlain (fun s => s.pmc.scsr)) s

/-- `PMC_PCER.W` (R672). -/
def execPmcPcerW (v : Word) (s : State) : Host.Outcome State Fault Refusal :=
  runBus (pmcWritePcer v) s

/-- `PMC_PCDR.W` (R672). -/
def execPmcPcdrW (v : Word) (s : State) : Host.Outcome State Fault Refusal :=
  runBus (pmcWritePcdr v) s

/-- `PMC_PCSR.R` (R672). -/
def execPmcPcsrR (s : State) : Host.Outcome State Fault Refusal :=
  runBus (readPlain (fun s => s.pmc.pcsr)) s

/-- `PMC_CKGR_MOR.R` (R673). -/
def execPmcCkgrMorR (s : State) : Host.Outcome State Fault Refusal :=
  runBus (readPlain (fun s => s.pmc.mor)) s

/-- `PMC_CKGR_MOR.W` (R673). -/
def execPmcCkgrMorW (v : Word) (s : State) : Host.Outcome State Fault Refusal :=
  runBus (pmcWriteMor v) s

/-- `PMC_CKGR_MCFR.R` (R674). -/
def execPmcCkgrMcfrR (s : State) : Host.Outcome State Fault Refusal :=
  runBus (readPlain (fun s => s.pmc.mcfr)) s

/-- `PMC_CKGR_PLLAR.R` (R675). -/
def execPmcCkgrPllarR (s : State) : Host.Outcome State Fault Refusal :=
  runBus (readPlain (fun s => s.pmc.pllar)) s

/-- `PMC_CKGR_PLLAR.W` (R675). -/
def execPmcCkgrPllarW (v : Word) (s : State) : Host.Outcome State Fault Refusal :=
  runBus (pmcWritePllar v) s

/-- `PMC_CKGR_PLLBR.R` (R676). -/
def execPmcCkgrPllbrR (s : State) : Host.Outcome State Fault Refusal :=
  runBus (readPlain (fun s => s.pmc.pllbr)) s

/-- `PMC_CKGR_PLLBR.W` (R676). -/
def execPmcCkgrPllbrW (v : Word) (s : State) : Host.Outcome State Fault Refusal :=
  runBus (pmcWritePllbr v) s

/-- `PMC_MCKR.R` (R677). -/
def execPmcMckrR (s : State) : Host.Outcome State Fault Refusal :=
  runBus (readPlain (fun s => s.pmc.mckr)) s

/-- `PMC_MCKR.W` (R677). -/
def execPmcMckrW (v : Word) (s : State) : Host.Outcome State Fault Refusal :=
  runBus (pmcWriteMckr v) s

/-- `PMC_PCK0.R` (R678). -/
def execPmcPck0R (s : State) : Host.Outcome State Fault Refusal :=
  runBus (readPlain (fun s => s.pmc.pck0)) s

/-- `PMC_PCK0.W` (R678). -/
def execPmcPck0W (v : Word) (s : State) : Host.Outcome State Fault Refusal :=
  runBus (pmcWritePck0 v) s

/-- `PMC_PCK1.R` (R678). -/
def execPmcPck1R (s : State) : Host.Outcome State Fault Refusal :=
  runBus (readPlain (fun s => s.pmc.pck1)) s

/-- `PMC_PCK1.W` (R678). -/
def execPmcPck1W (v : Word) (s : State) : Host.Outcome State Fault Refusal :=
  runBus (pmcWritePck1 v) s

/-- `PMC_IER.W` (R679). -/
def execPmcIerW (v : Word) (s : State) : Host.Outcome State Fault Refusal :=
  runBus (pmcWriteIer v) s

/-- `PMC_IDR.W` (R679). -/
def execPmcIdrW (v : Word) (s : State) : Host.Outcome State Fault Refusal :=
  runBus (pmcWriteIdr v) s

/-- `PMC_SR.R` (R680). -/
def execPmcSrR (s : State) : Host.Outcome State Fault Refusal :=
  runBus (readPlain (fun s => s.pmc.sr)) s

/-- `PMC_IMR.R` (R679). -/
def execPmcImrR (s : State) : Host.Outcome State Fault Refusal :=
  runBus (readPlain (fun s => s.pmc.imr)) s

/-- `PMC_PLLICPR.R` (R683). -/
def execPmcPllicprR (s : State) : Host.Outcome State Fault Refusal :=
  runBus (readPlain (fun s => s.pmc.pllicpr)) s

/-- `PMC_PLLICPR.W` (R683). -/
def execPmcPllicprW (v : Word) (s : State) : Host.Outcome State Fault Refusal :=
  runBus (pmcWritePllicpr v) s

/-- `MATRIX_MCFG[0].R` (R166). -/
def execMatrixMcfg0R (s : State) : Host.Outcome State Fault Refusal :=
  runBus (readPlain (fun s => s.matrix.mcfg[0])) s

/-- `MATRIX_MCFG[0].W` (R166). -/
def execMatrixMcfg0W (v : Word) (s : State) : Host.Outcome State Fault Refusal :=
  runBus (matrixWriteMcfg 0 v) s

/-- `MATRIX_MCFG[1].R` (R166). -/
def execMatrixMcfg1R (s : State) : Host.Outcome State Fault Refusal :=
  runBus (readPlain (fun s => s.matrix.mcfg[1])) s

/-- `MATRIX_MCFG[1].W` (R166). -/
def execMatrixMcfg1W (v : Word) (s : State) : Host.Outcome State Fault Refusal :=
  runBus (matrixWriteMcfg 1 v) s

/-- `MATRIX_MCFG[2].R` (R166). -/
def execMatrixMcfg2R (s : State) : Host.Outcome State Fault Refusal :=
  runBus (readPlain (fun s => s.matrix.mcfg[2])) s

/-- `MATRIX_MCFG[2].W` (R166). -/
def execMatrixMcfg2W (v : Word) (s : State) : Host.Outcome State Fault Refusal :=
  runBus (matrixWriteMcfg 2 v) s

/-- `MATRIX_MCFG[3].R` (R166). -/
def execMatrixMcfg3R (s : State) : Host.Outcome State Fault Refusal :=
  runBus (readPlain (fun s => s.matrix.mcfg[3])) s

/-- `MATRIX_MCFG[3].W` (R166). -/
def execMatrixMcfg3W (v : Word) (s : State) : Host.Outcome State Fault Refusal :=
  runBus (matrixWriteMcfg 3 v) s

/-- `MATRIX_MCFG[4].R` (R166). -/
def execMatrixMcfg4R (s : State) : Host.Outcome State Fault Refusal :=
  runBus (readPlain (fun s => s.matrix.mcfg[4])) s

/-- `MATRIX_MCFG[4].W` (R166). -/
def execMatrixMcfg4W (v : Word) (s : State) : Host.Outcome State Fault Refusal :=
  runBus (matrixWriteMcfg 4 v) s

/-- `MATRIX_MCFG[5].R` (R166). -/
def execMatrixMcfg5R (s : State) : Host.Outcome State Fault Refusal :=
  runBus (readPlain (fun s => s.matrix.mcfg[5])) s

/-- `MATRIX_MCFG[5].W` (R166). -/
def execMatrixMcfg5W (v : Word) (s : State) : Host.Outcome State Fault Refusal :=
  runBus (matrixWriteMcfg 5 v) s

/-- `MATRIX_SCFG[0].R` (R166). -/
def execMatrixScfg0R (s : State) : Host.Outcome State Fault Refusal :=
  runBus (readPlain (fun s => s.matrix.scfg[0])) s

/-- `MATRIX_SCFG[0].W` (R166). -/
def execMatrixScfg0W (v : Word) (s : State) : Host.Outcome State Fault Refusal :=
  runBus (matrixWriteScfg 0 v) s

/-- `MATRIX_SCFG[1].R` (R166). -/
def execMatrixScfg1R (s : State) : Host.Outcome State Fault Refusal :=
  runBus (readPlain (fun s => s.matrix.scfg[1])) s

/-- `MATRIX_SCFG[1].W` (R166). -/
def execMatrixScfg1W (v : Word) (s : State) : Host.Outcome State Fault Refusal :=
  runBus (matrixWriteScfg 1 v) s

/-- `MATRIX_SCFG[2].R` (R166). -/
def execMatrixScfg2R (s : State) : Host.Outcome State Fault Refusal :=
  runBus (readPlain (fun s => s.matrix.scfg[2])) s

/-- `MATRIX_SCFG[2].W` (R166). -/
def execMatrixScfg2W (v : Word) (s : State) : Host.Outcome State Fault Refusal :=
  runBus (matrixWriteScfg 2 v) s

/-- `MATRIX_SCFG[3].R` (R166). -/
def execMatrixScfg3R (s : State) : Host.Outcome State Fault Refusal :=
  runBus (readPlain (fun s => s.matrix.scfg[3])) s

/-- `MATRIX_SCFG[3].W` (R166). -/
def execMatrixScfg3W (v : Word) (s : State) : Host.Outcome State Fault Refusal :=
  runBus (matrixWriteScfg 3 v) s

/-- `MATRIX_SCFG[4].R` (R166). -/
def execMatrixScfg4R (s : State) : Host.Outcome State Fault Refusal :=
  runBus (readPlain (fun s => s.matrix.scfg[4])) s

/-- `MATRIX_SCFG[4].W` (R166). -/
def execMatrixScfg4W (v : Word) (s : State) : Host.Outcome State Fault Refusal :=
  runBus (matrixWriteScfg 4 v) s

/-- `MATRIX_PRAS[0].R` (R166). -/
def execMatrixPras0R (s : State) : Host.Outcome State Fault Refusal :=
  runBus (readPlain (fun s => s.matrix.pras[0])) s

/-- `MATRIX_PRAS[0].W` (R166). -/
def execMatrixPras0W (v : Word) (s : State) : Host.Outcome State Fault Refusal :=
  runBus (matrixWritePras 0 v) s

/-- `MATRIX_PRAS[1].R` (R166). -/
def execMatrixPras1R (s : State) : Host.Outcome State Fault Refusal :=
  runBus (readPlain (fun s => s.matrix.pras[1])) s

/-- `MATRIX_PRAS[1].W` (R166). -/
def execMatrixPras1W (v : Word) (s : State) : Host.Outcome State Fault Refusal :=
  runBus (matrixWritePras 1 v) s

/-- `MATRIX_PRAS[2].R` (R166). -/
def execMatrixPras2R (s : State) : Host.Outcome State Fault Refusal :=
  runBus (readPlain (fun s => s.matrix.pras[2])) s

/-- `MATRIX_PRAS[2].W` (R166). -/
def execMatrixPras2W (v : Word) (s : State) : Host.Outcome State Fault Refusal :=
  runBus (matrixWritePras 2 v) s

/-- `MATRIX_PRAS[3].R` (R166). -/
def execMatrixPras3R (s : State) : Host.Outcome State Fault Refusal :=
  runBus (readPlain (fun s => s.matrix.pras[3])) s

/-- `MATRIX_PRAS[3].W` (R166). -/
def execMatrixPras3W (v : Word) (s : State) : Host.Outcome State Fault Refusal :=
  runBus (matrixWritePras 3 v) s

/-- `MATRIX_PRAS[4].R` (R166). -/
def execMatrixPras4R (s : State) : Host.Outcome State Fault Refusal :=
  runBus (readPlain (fun s => s.matrix.pras[4])) s

/-- `MATRIX_PRAS[4].W` (R166). -/
def execMatrixPras4W (v : Word) (s : State) : Host.Outcome State Fault Refusal :=
  runBus (matrixWritePras 4 v) s

/-- `MATRIX_MRCR.R` (R167). -/
def execMatrixMrcrR (s : State) : Host.Outcome State Fault Refusal :=
  runBus (readPlain (fun s => s.matrix.mrcr)) s

/-- `MATRIX_MRCR.W` (R167). -/
def execMatrixMrcrW (v : Word) (s : State) : Host.Outcome State Fault Refusal :=
  runBus (matrixWriteMrcr v) s

/-- `MATRIX_EBI_CSA.R` (R166). -/
def execMatrixEbiCsaR (s : State) : Host.Outcome State Fault Refusal :=
  runBus (readPlain (fun s => s.matrix.ebiCsa)) s

/-- `MATRIX_EBI_CSA.W` (R166). -/
def execMatrixEbiCsaW (v : Word) (s : State) : Host.Outcome State Fault Refusal :=
  runBus (matrixWriteEbiCsa v) s

/-- `RSTC_CR.W` (R170). -/
def execRstcCrW (v : Word) (s : State) : Host.Outcome State Fault Refusal :=
  runBus (rstcWriteCr v) s

/-- `RSTC_SR.R` (R171). -/
def execRstcSrR (s : State) : Host.Outcome State Fault Refusal :=
  runBus (readPlain (fun s => s.rstc.sr)) s

/-- `RSTC_MR.R` (R171). -/
def execRstcMrR (s : State) : Host.Outcome State Fault Refusal :=
  runBus (readPlain (fun s => s.rstc.mr)) s

/-- `RSTC_MR.W` (R171). -/
def execRstcMrW (v : Word) (s : State) : Host.Outcome State Fault Refusal :=
  runBus (rstcWriteMr v) s

/-- `SDRAMC_MR.R` (R172). -/
def execSdramcMrR (s : State) : Host.Outcome State Fault Refusal :=
  runBus (readPlain (fun s => s.sdramc.mr)) s

/-- `SDRAMC_MR.W` (R172). -/
def execSdramcMrW (v : Word) (s : State) : Host.Outcome State Fault Refusal :=
  runBus (sdramcWriteMr v) s

/-- `SDRAMC_TR.R` (R172). -/
def execSdramcTrR (s : State) : Host.Outcome State Fault Refusal :=
  runBus (readPlain (fun s => s.sdramc.tr)) s

/-- `SDRAMC_TR.W` (R172). -/
def execSdramcTrW (v : Word) (s : State) : Host.Outcome State Fault Refusal :=
  runBus (sdramcWriteTr v) s

/-- `SDRAMC_CR.R` (R172). -/
def execSdramcCrR (s : State) : Host.Outcome State Fault Refusal :=
  runBus (readPlain (fun s => s.sdramc.cr)) s

/-- `SDRAMC_CR.W` (R172). -/
def execSdramcCrW (v : Word) (s : State) : Host.Outcome State Fault Refusal :=
  runBus (sdramcWriteCr v) s

/-- `SDRAMC_LPR.R` (R172). -/
def execSdramcLprR (s : State) : Host.Outcome State Fault Refusal :=
  runBus (readPlain (fun s => s.sdramc.lpr)) s

/-- `SDRAMC_LPR.W` (R172). -/
def execSdramcLprW (v : Word) (s : State) : Host.Outcome State Fault Refusal :=
  runBus (sdramcWriteLpr v) s

/-- `SDRAMC_IER.W` (R174). -/
def execSdramcIerW (v : Word) (s : State) : Host.Outcome State Fault Refusal :=
  runBus (sdramcWriteIer v) s

/-- `SDRAMC_IDR.W` (R174). -/
def execSdramcIdrW (v : Word) (s : State) : Host.Outcome State Fault Refusal :=
  runBus (sdramcWriteIdr v) s

/-- `SDRAMC_IMR.R` (R174). -/
def execSdramcImrR (s : State) : Host.Outcome State Fault Refusal :=
  runBus (readPlain (fun s => bitAt s.sdramc.imr 0)) s

/-- `SDRAMC_ISR.R` (R174). -/
def execSdramcIsrR (s : State) : Host.Outcome State Fault Refusal :=
  runBus sdramcReadIsr s

/-- `SDRAMC_MDR.R` (R172). -/
def execSdramcMdrR (s : State) : Host.Outcome State Fault Refusal :=
  runBus (readPlain (fun s => s.sdramc.mdr)) s

/-- `SDRAMC_MDR.W` (R172). -/
def execSdramcMdrW (v : Word) (s : State) : Host.Outcome State Fault Refusal :=
  runBus (sdramcWriteMdr v) s

end Sys2Proof.Machine
end

