-- ==== Sys2Proof/Machine/ExecTimers.lean ====
section
/-! DEFINITION. The meanings of the rows of the timers (R552 to R559, R580 to R593): one definition per row, over the shared operations. -/

namespace Sys2Proof.Machine

/-- `TCB0_CH0_CCR.W` (R552). -/
def execTcb0Ch0CcrW (v : Word) (s : State) : Host.Outcome State Fault Refusal :=
  runBus (tcWriteCcr 0 v) s

/-- `TCB0_CH0_CMR.R` (R553). -/
def execTcb0Ch0CmrR (s : State) : Host.Outcome State Fault Refusal :=
  runBus (readPlain (fun s => (s.tc 0).cmr)) s

/-- `TCB0_CH0_CMR.W` (R553). -/
def execTcb0Ch0CmrW (v : Word) (s : State) : Host.Outcome State Fault Refusal :=
  runBus (tcWriteCmr 0 v) s

/-- `TCB0_CH0_CV.R` (R554). -/
def execTcb0Ch0CvR (s : State) : Host.Outcome State Fault Refusal :=
  runBus (readPlain (fun s => (s.tc 0).cv.setWidth 32)) s

/-- `TCB0_CH0_RA.R` (R555). -/
def execTcb0Ch0RaR (s : State) : Host.Outcome State Fault Refusal :=
  runBus (readPlain (fun s => (s.tc 0).ra.setWidth 32)) s

/-- `TCB0_CH0_RA.W` (R555). -/
def execTcb0Ch0RaW (v : Word) (s : State) : Host.Outcome State Fault Refusal :=
  runBus (tcWriteRa 0 v) s

/-- `TCB0_CH0_RB.R` (R555). -/
def execTcb0Ch0RbR (s : State) : Host.Outcome State Fault Refusal :=
  runBus (readPlain (fun s => (s.tc 0).rb.setWidth 32)) s

/-- `TCB0_CH0_RB.W` (R555). -/
def execTcb0Ch0RbW (v : Word) (s : State) : Host.Outcome State Fault Refusal :=
  runBus (tcWriteRb 0 v) s

/-- `TCB0_CH0_RC.R` (R555). -/
def execTcb0Ch0RcR (s : State) : Host.Outcome State Fault Refusal :=
  runBus (readPlain (fun s => (s.tc 0).rc.setWidth 32)) s

/-- `TCB0_CH0_RC.W` (R555). -/
def execTcb0Ch0RcW (v : Word) (s : State) : Host.Outcome State Fault Refusal :=
  runBus (tcWriteRc 0 v) s

/-- `TCB0_CH0_SR.R` (R556). -/
def execTcb0Ch0SrR (s : State) : Host.Outcome State Fault Refusal :=
  runBus (tcReadSr 0) s

/-- `TCB0_CH0_IER.W` (R557). -/
def execTcb0Ch0IerW (v : Word) (s : State) : Host.Outcome State Fault Refusal :=
  runBus (tcWriteIer 0 v) s

/-- `TCB0_CH0_IDR.W` (R557). -/
def execTcb0Ch0IdrW (v : Word) (s : State) : Host.Outcome State Fault Refusal :=
  runBus (tcWriteIdr 0 v) s

/-- `TCB0_CH0_IMR.R` (R557). -/
def execTcb0Ch0ImrR (s : State) : Host.Outcome State Fault Refusal :=
  runBus (readPlain (fun s => (s.tc 0).imr.setWidth 32)) s

/-- `TCB0_CH1_CCR.W` (R552). -/
def execTcb0Ch1CcrW (v : Word) (s : State) : Host.Outcome State Fault Refusal :=
  runBus (tcWriteCcr 1 v) s

/-- `TCB0_CH1_CMR.R` (R553). -/
def execTcb0Ch1CmrR (s : State) : Host.Outcome State Fault Refusal :=
  runBus (readPlain (fun s => (s.tc 1).cmr)) s

/-- `TCB0_CH1_CMR.W` (R553). -/
def execTcb0Ch1CmrW (v : Word) (s : State) : Host.Outcome State Fault Refusal :=
  runBus (tcWriteCmr 1 v) s

/-- `TCB0_CH1_CV.R` (R554). -/
def execTcb0Ch1CvR (s : State) : Host.Outcome State Fault Refusal :=
  runBus (readPlain (fun s => (s.tc 1).cv.setWidth 32)) s

/-- `TCB0_CH1_RA.R` (R555). -/
def execTcb0Ch1RaR (s : State) : Host.Outcome State Fault Refusal :=
  runBus (readPlain (fun s => (s.tc 1).ra.setWidth 32)) s

/-- `TCB0_CH1_RA.W` (R555). -/
def execTcb0Ch1RaW (v : Word) (s : State) : Host.Outcome State Fault Refusal :=
  runBus (tcWriteRa 1 v) s

/-- `TCB0_CH1_RB.R` (R555). -/
def execTcb0Ch1RbR (s : State) : Host.Outcome State Fault Refusal :=
  runBus (readPlain (fun s => (s.tc 1).rb.setWidth 32)) s

/-- `TCB0_CH1_RB.W` (R555). -/
def execTcb0Ch1RbW (v : Word) (s : State) : Host.Outcome State Fault Refusal :=
  runBus (tcWriteRb 1 v) s

/-- `TCB0_CH1_RC.R` (R555). -/
def execTcb0Ch1RcR (s : State) : Host.Outcome State Fault Refusal :=
  runBus (readPlain (fun s => (s.tc 1).rc.setWidth 32)) s

/-- `TCB0_CH1_RC.W` (R555). -/
def execTcb0Ch1RcW (v : Word) (s : State) : Host.Outcome State Fault Refusal :=
  runBus (tcWriteRc 1 v) s

/-- `TCB0_CH1_SR.R` (R556). -/
def execTcb0Ch1SrR (s : State) : Host.Outcome State Fault Refusal :=
  runBus (tcReadSr 1) s

/-- `TCB0_CH1_IER.W` (R557). -/
def execTcb0Ch1IerW (v : Word) (s : State) : Host.Outcome State Fault Refusal :=
  runBus (tcWriteIer 1 v) s

/-- `TCB0_CH1_IDR.W` (R557). -/
def execTcb0Ch1IdrW (v : Word) (s : State) : Host.Outcome State Fault Refusal :=
  runBus (tcWriteIdr 1 v) s

/-- `TCB0_CH1_IMR.R` (R557). -/
def execTcb0Ch1ImrR (s : State) : Host.Outcome State Fault Refusal :=
  runBus (readPlain (fun s => (s.tc 1).imr.setWidth 32)) s

/-- `TCB0_CH2_CCR.W` (R552). -/
def execTcb0Ch2CcrW (v : Word) (s : State) : Host.Outcome State Fault Refusal :=
  runBus (tcWriteCcr 2 v) s

/-- `TCB0_CH2_CMR.R` (R553). -/
def execTcb0Ch2CmrR (s : State) : Host.Outcome State Fault Refusal :=
  runBus (readPlain (fun s => (s.tc 2).cmr)) s

/-- `TCB0_CH2_CMR.W` (R553). -/
def execTcb0Ch2CmrW (v : Word) (s : State) : Host.Outcome State Fault Refusal :=
  runBus (tcWriteCmr 2 v) s

/-- `TCB0_CH2_CV.R` (R554). -/
def execTcb0Ch2CvR (s : State) : Host.Outcome State Fault Refusal :=
  runBus (readPlain (fun s => (s.tc 2).cv.setWidth 32)) s

/-- `TCB0_CH2_RA.R` (R555). -/
def execTcb0Ch2RaR (s : State) : Host.Outcome State Fault Refusal :=
  runBus (readPlain (fun s => (s.tc 2).ra.setWidth 32)) s

/-- `TCB0_CH2_RA.W` (R555). -/
def execTcb0Ch2RaW (v : Word) (s : State) : Host.Outcome State Fault Refusal :=
  runBus (tcWriteRa 2 v) s

/-- `TCB0_CH2_RB.R` (R555). -/
def execTcb0Ch2RbR (s : State) : Host.Outcome State Fault Refusal :=
  runBus (readPlain (fun s => (s.tc 2).rb.setWidth 32)) s

/-- `TCB0_CH2_RB.W` (R555). -/
def execTcb0Ch2RbW (v : Word) (s : State) : Host.Outcome State Fault Refusal :=
  runBus (tcWriteRb 2 v) s

/-- `TCB0_CH2_RC.R` (R555). -/
def execTcb0Ch2RcR (s : State) : Host.Outcome State Fault Refusal :=
  runBus (readPlain (fun s => (s.tc 2).rc.setWidth 32)) s

/-- `TCB0_CH2_RC.W` (R555). -/
def execTcb0Ch2RcW (v : Word) (s : State) : Host.Outcome State Fault Refusal :=
  runBus (tcWriteRc 2 v) s

/-- `TCB0_CH2_SR.R` (R556). -/
def execTcb0Ch2SrR (s : State) : Host.Outcome State Fault Refusal :=
  runBus (tcReadSr 2) s

/-- `TCB0_CH2_IER.W` (R557). -/
def execTcb0Ch2IerW (v : Word) (s : State) : Host.Outcome State Fault Refusal :=
  runBus (tcWriteIer 2 v) s

/-- `TCB0_CH2_IDR.W` (R557). -/
def execTcb0Ch2IdrW (v : Word) (s : State) : Host.Outcome State Fault Refusal :=
  runBus (tcWriteIdr 2 v) s

/-- `TCB0_CH2_IMR.R` (R557). -/
def execTcb0Ch2ImrR (s : State) : Host.Outcome State Fault Refusal :=
  runBus (readPlain (fun s => (s.tc 2).imr.setWidth 32)) s

/-- `TCB0_BCR.W` (R558). -/
def execTcb0BcrW (v : Word) (s : State) : Host.Outcome State Fault Refusal :=
  runBus (tcbWriteBcr 0 v) s

/-- `TCB0_BMR.R` (R559). -/
def execTcb0BmrR (s : State) : Host.Outcome State Fault Refusal :=
  runBus (readPlain (fun s => s.bmr 0)) s

/-- `TCB0_BMR.W` (R559). -/
def execTcb0BmrW (v : Word) (s : State) : Host.Outcome State Fault Refusal :=
  runBus (tcbWriteBmr 0 v) s

/-- `TCB1_CH0_CCR.W` (R552). -/
def execTcb1Ch0CcrW (v : Word) (s : State) : Host.Outcome State Fault Refusal :=
  runBus (tcWriteCcr 3 v) s

/-- `TCB1_CH0_CMR.R` (R553). -/
def execTcb1Ch0CmrR (s : State) : Host.Outcome State Fault Refusal :=
  runBus (readPlain (fun s => (s.tc 3).cmr)) s

/-- `TCB1_CH0_CMR.W` (R553). -/
def execTcb1Ch0CmrW (v : Word) (s : State) : Host.Outcome State Fault Refusal :=
  runBus (tcWriteCmr 3 v) s

/-- `TCB1_CH0_CV.R` (R554). -/
def execTcb1Ch0CvR (s : State) : Host.Outcome State Fault Refusal :=
  runBus (readPlain (fun s => (s.tc 3).cv.setWidth 32)) s

/-- `TCB1_CH0_RA.R` (R555). -/
def execTcb1Ch0RaR (s : State) : Host.Outcome State Fault Refusal :=
  runBus (readPlain (fun s => (s.tc 3).ra.setWidth 32)) s

/-- `TCB1_CH0_RA.W` (R555). -/
def execTcb1Ch0RaW (v : Word) (s : State) : Host.Outcome State Fault Refusal :=
  runBus (tcWriteRa 3 v) s

/-- `TCB1_CH0_RB.R` (R555). -/
def execTcb1Ch0RbR (s : State) : Host.Outcome State Fault Refusal :=
  runBus (readPlain (fun s => (s.tc 3).rb.setWidth 32)) s

/-- `TCB1_CH0_RB.W` (R555). -/
def execTcb1Ch0RbW (v : Word) (s : State) : Host.Outcome State Fault Refusal :=
  runBus (tcWriteRb 3 v) s

/-- `TCB1_CH0_RC.R` (R555). -/
def execTcb1Ch0RcR (s : State) : Host.Outcome State Fault Refusal :=
  runBus (readPlain (fun s => (s.tc 3).rc.setWidth 32)) s

/-- `TCB1_CH0_RC.W` (R555). -/
def execTcb1Ch0RcW (v : Word) (s : State) : Host.Outcome State Fault Refusal :=
  runBus (tcWriteRc 3 v) s

/-- `TCB1_CH0_SR.R` (R556). -/
def execTcb1Ch0SrR (s : State) : Host.Outcome State Fault Refusal :=
  runBus (tcReadSr 3) s

/-- `TCB1_CH0_IER.W` (R557). -/
def execTcb1Ch0IerW (v : Word) (s : State) : Host.Outcome State Fault Refusal :=
  runBus (tcWriteIer 3 v) s

/-- `TCB1_CH0_IDR.W` (R557). -/
def execTcb1Ch0IdrW (v : Word) (s : State) : Host.Outcome State Fault Refusal :=
  runBus (tcWriteIdr 3 v) s

/-- `TCB1_CH0_IMR.R` (R557). -/
def execTcb1Ch0ImrR (s : State) : Host.Outcome State Fault Refusal :=
  runBus (readPlain (fun s => (s.tc 3).imr.setWidth 32)) s

/-- `TCB1_CH1_CCR.W` (R552). -/
def execTcb1Ch1CcrW (v : Word) (s : State) : Host.Outcome State Fault Refusal :=
  runBus (tcWriteCcr 4 v) s

/-- `TCB1_CH1_CMR.R` (R553). -/
def execTcb1Ch1CmrR (s : State) : Host.Outcome State Fault Refusal :=
  runBus (readPlain (fun s => (s.tc 4).cmr)) s

/-- `TCB1_CH1_CMR.W` (R553). -/
def execTcb1Ch1CmrW (v : Word) (s : State) : Host.Outcome State Fault Refusal :=
  runBus (tcWriteCmr 4 v) s

/-- `TCB1_CH1_CV.R` (R554). -/
def execTcb1Ch1CvR (s : State) : Host.Outcome State Fault Refusal :=
  runBus (readPlain (fun s => (s.tc 4).cv.setWidth 32)) s

/-- `TCB1_CH1_RA.R` (R555). -/
def execTcb1Ch1RaR (s : State) : Host.Outcome State Fault Refusal :=
  runBus (readPlain (fun s => (s.tc 4).ra.setWidth 32)) s

/-- `TCB1_CH1_RA.W` (R555). -/
def execTcb1Ch1RaW (v : Word) (s : State) : Host.Outcome State Fault Refusal :=
  runBus (tcWriteRa 4 v) s

/-- `TCB1_CH1_RB.R` (R555). -/
def execTcb1Ch1RbR (s : State) : Host.Outcome State Fault Refusal :=
  runBus (readPlain (fun s => (s.tc 4).rb.setWidth 32)) s

/-- `TCB1_CH1_RB.W` (R555). -/
def execTcb1Ch1RbW (v : Word) (s : State) : Host.Outcome State Fault Refusal :=
  runBus (tcWriteRb 4 v) s

/-- `TCB1_CH1_RC.R` (R555). -/
def execTcb1Ch1RcR (s : State) : Host.Outcome State Fault Refusal :=
  runBus (readPlain (fun s => (s.tc 4).rc.setWidth 32)) s

/-- `TCB1_CH1_RC.W` (R555). -/
def execTcb1Ch1RcW (v : Word) (s : State) : Host.Outcome State Fault Refusal :=
  runBus (tcWriteRc 4 v) s

/-- `TCB1_CH1_SR.R` (R556). -/
def execTcb1Ch1SrR (s : State) : Host.Outcome State Fault Refusal :=
  runBus (tcReadSr 4) s

/-- `TCB1_CH1_IER.W` (R557). -/
def execTcb1Ch1IerW (v : Word) (s : State) : Host.Outcome State Fault Refusal :=
  runBus (tcWriteIer 4 v) s

/-- `TCB1_CH1_IDR.W` (R557). -/
def execTcb1Ch1IdrW (v : Word) (s : State) : Host.Outcome State Fault Refusal :=
  runBus (tcWriteIdr 4 v) s

/-- `TCB1_CH1_IMR.R` (R557). -/
def execTcb1Ch1ImrR (s : State) : Host.Outcome State Fault Refusal :=
  runBus (readPlain (fun s => (s.tc 4).imr.setWidth 32)) s

/-- `TCB1_CH2_CCR.W` (R552). -/
def execTcb1Ch2CcrW (v : Word) (s : State) : Host.Outcome State Fault Refusal :=
  runBus (tcWriteCcr 5 v) s

/-- `TCB1_CH2_CMR.R` (R553). -/
def execTcb1Ch2CmrR (s : State) : Host.Outcome State Fault Refusal :=
  runBus (readPlain (fun s => (s.tc 5).cmr)) s

/-- `TCB1_CH2_CMR.W` (R553). -/
def execTcb1Ch2CmrW (v : Word) (s : State) : Host.Outcome State Fault Refusal :=
  runBus (tcWriteCmr 5 v) s

/-- `TCB1_CH2_CV.R` (R554). -/
def execTcb1Ch2CvR (s : State) : Host.Outcome State Fault Refusal :=
  runBus (readPlain (fun s => (s.tc 5).cv.setWidth 32)) s

/-- `TCB1_CH2_RA.R` (R555). -/
def execTcb1Ch2RaR (s : State) : Host.Outcome State Fault Refusal :=
  runBus (readPlain (fun s => (s.tc 5).ra.setWidth 32)) s

/-- `TCB1_CH2_RA.W` (R555). -/
def execTcb1Ch2RaW (v : Word) (s : State) : Host.Outcome State Fault Refusal :=
  runBus (tcWriteRa 5 v) s

/-- `TCB1_CH2_RB.R` (R555). -/
def execTcb1Ch2RbR (s : State) : Host.Outcome State Fault Refusal :=
  runBus (readPlain (fun s => (s.tc 5).rb.setWidth 32)) s

/-- `TCB1_CH2_RB.W` (R555). -/
def execTcb1Ch2RbW (v : Word) (s : State) : Host.Outcome State Fault Refusal :=
  runBus (tcWriteRb 5 v) s

/-- `TCB1_CH2_RC.R` (R555). -/
def execTcb1Ch2RcR (s : State) : Host.Outcome State Fault Refusal :=
  runBus (readPlain (fun s => (s.tc 5).rc.setWidth 32)) s

/-- `TCB1_CH2_RC.W` (R555). -/
def execTcb1Ch2RcW (v : Word) (s : State) : Host.Outcome State Fault Refusal :=
  runBus (tcWriteRc 5 v) s

/-- `TCB1_CH2_SR.R` (R556). -/
def execTcb1Ch2SrR (s : State) : Host.Outcome State Fault Refusal :=
  runBus (tcReadSr 5) s

/-- `TCB1_CH2_IER.W` (R557). -/
def execTcb1Ch2IerW (v : Word) (s : State) : Host.Outcome State Fault Refusal :=
  runBus (tcWriteIer 5 v) s

/-- `TCB1_CH2_IDR.W` (R557). -/
def execTcb1Ch2IdrW (v : Word) (s : State) : Host.Outcome State Fault Refusal :=
  runBus (tcWriteIdr 5 v) s

/-- `TCB1_CH2_IMR.R` (R557). -/
def execTcb1Ch2ImrR (s : State) : Host.Outcome State Fault Refusal :=
  runBus (readPlain (fun s => (s.tc 5).imr.setWidth 32)) s

/-- `TCB1_BCR.W` (R558). -/
def execTcb1BcrW (v : Word) (s : State) : Host.Outcome State Fault Refusal :=
  runBus (tcbWriteBcr 1 v) s

/-- `TCB1_BMR.R` (R559). -/
def execTcb1BmrR (s : State) : Host.Outcome State Fault Refusal :=
  runBus (readPlain (fun s => s.bmr 1)) s

/-- `TCB1_BMR.W` (R559). -/
def execTcb1BmrW (v : Word) (s : State) : Host.Outcome State Fault Refusal :=
  runBus (tcbWriteBmr 1 v) s

/-- `PIT_MR.R` (R580). -/
def execPitMrR (s : State) : Host.Outcome State Fault Refusal :=
  runBus (readPlain (fun s => s.pit.mr)) s

/-- `PIT_MR.W` (R580). -/
def execPitMrW (v : Word) (s : State) : Host.Outcome State Fault Refusal :=
  runBus (pitWriteMr v) s

/-- `PIT_SR.R` (R584). -/
def execPitSrR (s : State) : Host.Outcome State Fault Refusal :=
  runBus (readPlain (fun s => s.pit.sr)) s

/-- `PIT_PIVR.R` (R582). -/
def execPitPivrR (s : State) : Host.Outcome State Fault Refusal :=
  runBus pitReadPivr s

/-- `PIT_PIIR.R` (R583). -/
def execPitPiirR (s : State) : Host.Outcome State Fault Refusal :=
  runBus (readPlain (fun s => s.pit.value)) s

/-- `RTT_MR.R` (R590). -/
def execRttMrR (s : State) : Host.Outcome State Fault Refusal :=
  runBus (readPlain (fun s => s.rtt.mr)) s

/-- `RTT_MR.W` (R590). -/
def execRttMrW (v : Word) (s : State) : Host.Outcome State Fault Refusal :=
  runBus (rttWriteMr v) s

/-- `RTT_AR.R` (R591). -/
def execRttArR (s : State) : Host.Outcome State Fault Refusal :=
  runBus (readPlain (fun s => s.rtt.ar)) s

/-- `RTT_AR.W` (R591). -/
def execRttArW (v : Word) (s : State) : Host.Outcome State Fault Refusal :=
  runBus (rttWriteAr v) s

/-- `RTT_VR.R` (R592). -/
def execRttVrR (s : State) : Host.Outcome State Fault Refusal :=
  runBus (readPlain (fun s => s.rtt.crtv)) s

/-- `RTT_SR.R` (R593). -/
def execRttSrR (s : State) : Host.Outcome State Fault Refusal :=
  runBus rttReadSr s

end Sys2Proof.Machine
end

