-- ==== Sys2Proof/Machine/ExecTwi.lean ====
section
/-! DEFINITION. The meanings of the rows of the TWI and its PDC (R432 to R447, R262 to R267): one definition per row, over the shared operations. -/

namespace Sys2Proof.Machine

/-- `TWI_CR.W` (R432). -/
def execTwiCrW (v : Word) (s : State) : Host.Outcome State Fault Refusal :=
  runBus (twiWriteCr v) s

/-- `TWI_MMR.R` (R434). -/
def execTwiMmrR (s : State) : Host.Outcome State Fault Refusal :=
  runBus (readPlain (fun s => s.twi.mmr)) s

/-- `TWI_MMR.W` (R434). -/
def execTwiMmrW (v : Word) (s : State) : Host.Outcome State Fault Refusal :=
  runBus (twiWriteMmr v) s

/-- `TWI_SMR.R` (R434). -/
def execTwiSmrR (s : State) : Host.Outcome State Fault Refusal :=
  runBus (readPlain (fun s => s.twi.smr)) s

/-- `TWI_SMR.W` (R434). -/
def execTwiSmrW (v : Word) (s : State) : Host.Outcome State Fault Refusal :=
  runBus (twiWriteSmr v) s

/-- `TWI_IADR.R` (R434). -/
def execTwiIadrR (s : State) : Host.Outcome State Fault Refusal :=
  runBus (readPlain (fun s => s.twi.iadr)) s

/-- `TWI_IADR.W` (R434). -/
def execTwiIadrW (v : Word) (s : State) : Host.Outcome State Fault Refusal :=
  runBus (twiWriteIadr v) s

/-- `TWI_CWGR.R` (R435). -/
def execTwiCwgrR (s : State) : Host.Outcome State Fault Refusal :=
  runBus (readPlain (fun s => s.twi.cwgr)) s

/-- `TWI_CWGR.W` (R435). -/
def execTwiCwgrW (v : Word) (s : State) : Host.Outcome State Fault Refusal :=
  runBus (twiWriteCwgr v) s

/-- `TWI_SR.R` (R436). -/
def execTwiSrR (s : State) : Host.Outcome State Fault Refusal :=
  runBus twiReadSr s

/-- `TWI_IER.W` (R437). -/
def execTwiIerW (v : Word) (s : State) : Host.Outcome State Fault Refusal :=
  runBus (twiWriteIer v) s

/-- `TWI_IDR.W` (R437). -/
def execTwiIdrW (v : Word) (s : State) : Host.Outcome State Fault Refusal :=
  runBus (twiWriteIdr v) s

/-- `TWI_IMR.R` (R437). -/
def execTwiImrR (s : State) : Host.Outcome State Fault Refusal :=
  runBus (readPlain (fun s => s.twi.imr)) s

/-- `TWI_RHR.R` (R447). -/
def execTwiRhrR (s : State) : Host.Outcome State Fault Refusal :=
  runBus twiReadRhr s

/-- `TWI_THR.W` (R440). -/
def execTwiThrW (v : Word) (s : State) : Host.Outcome State Fault Refusal :=
  runBus (twiWriteThr v) s

/-- `TWI_RPR.R` (R262). -/
def execTwiRprR (s : State) : Host.Outcome State Fault Refusal :=
  runBus (readPlain (fun s => (s.pdc .twi).rpr)) s

/-- `TWI_RPR.W` (R262). -/
def execTwiRprW (v : Word) (s : State) : Host.Outcome State Fault Refusal :=
  runBus (pdcWriteRpr .twi v) s

/-- `TWI_RCR.R` (R263). -/
def execTwiRcrR (s : State) : Host.Outcome State Fault Refusal :=
  runBus (readPlain (fun s => (s.pdc .twi).rcr.setWidth 32)) s

/-- `TWI_RCR.W` (R263). -/
def execTwiRcrW (v : Word) (s : State) : Host.Outcome State Fault Refusal :=
  runBus (pdcWriteRcr .twi v) s

/-- `TWI_TPR.R` (R262). -/
def execTwiTprR (s : State) : Host.Outcome State Fault Refusal :=
  runBus (readPlain (fun s => (s.pdc .twi).tpr)) s

/-- `TWI_TPR.W` (R262). -/
def execTwiTprW (v : Word) (s : State) : Host.Outcome State Fault Refusal :=
  runBus (pdcWriteTpr .twi v) s

/-- `TWI_TCR.R` (R264). -/
def execTwiTcrR (s : State) : Host.Outcome State Fault Refusal :=
  runBus (readPlain (fun s => (s.pdc .twi).tcr.setWidth 32)) s

/-- `TWI_TCR.W` (R264). -/
def execTwiTcrW (v : Word) (s : State) : Host.Outcome State Fault Refusal :=
  runBus (pdcWriteTcr .twi v) s

/-- `TWI_RNPR.R` (R262). -/
def execTwiRnprR (s : State) : Host.Outcome State Fault Refusal :=
  runBus (readPlain (fun s => (s.pdc .twi).rnpr)) s

/-- `TWI_RNPR.W` (R262). -/
def execTwiRnprW (v : Word) (s : State) : Host.Outcome State Fault Refusal :=
  runBus (pdcWriteRnpr .twi v) s

/-- `TWI_RNCR.R` (R265). -/
def execTwiRncrR (s : State) : Host.Outcome State Fault Refusal :=
  runBus (readPlain (fun s => (s.pdc .twi).rncr.setWidth 32)) s

/-- `TWI_RNCR.W` (R265). -/
def execTwiRncrW (v : Word) (s : State) : Host.Outcome State Fault Refusal :=
  runBus (pdcWriteRncr .twi v) s

/-- `TWI_TNPR.R` (R262). -/
def execTwiTnprR (s : State) : Host.Outcome State Fault Refusal :=
  runBus (readPlain (fun s => (s.pdc .twi).tnpr)) s

/-- `TWI_TNPR.W` (R262). -/
def execTwiTnprW (v : Word) (s : State) : Host.Outcome State Fault Refusal :=
  runBus (pdcWriteTnpr .twi v) s

/-- `TWI_TNCR.R` (R265). -/
def execTwiTncrR (s : State) : Host.Outcome State Fault Refusal :=
  runBus (readPlain (fun s => (s.pdc .twi).tncr.setWidth 32)) s

/-- `TWI_TNCR.W` (R265). -/
def execTwiTncrW (v : Word) (s : State) : Host.Outcome State Fault Refusal :=
  runBus (pdcWriteTncr .twi v) s

/-- `TWI_PTCR.W` (R266). -/
def execTwiPtcrW (v : Word) (s : State) : Host.Outcome State Fault Refusal :=
  runBus (pdcWritePtcr .twi v) s

/-- `TWI_PTSR.R` (R267). -/
def execTwiPtsrR (s : State) : Host.Outcome State Fault Refusal :=
  runBus (readPlain (fun s => (s.pdc .twi).ptsr)) s

end Sys2Proof.Machine
end

