-- ==== Sys2Proof/Machine/ExecUsart.lean ====
section
/-! DEFINITION. The meanings of the rows of the six USARTs and their PDCs (R302 to R320, R262 to R267): one definition per row, over the shared operations. -/

namespace Sys2Proof.Machine

/-- `USART0_CR.W` (R303). -/
def execUsart0CrW (v : Word) (s : State) : Host.Outcome State Fault Refusal :=
  runBus (usartWriteCr 0 v) s

/-- `USART0_MR.R` (R302). -/
def execUsart0MrR (s : State) : Host.Outcome State Fault Refusal :=
  runBus (readPlain (fun s => (s.usart 0).mr)) s

/-- `USART0_MR.W` (R302). -/
def execUsart0MrW (v : Word) (s : State) : Host.Outcome State Fault Refusal :=
  runBus (usartWriteMr 0 v) s

/-- `USART0_IER.W` (R305). -/
def execUsart0IerW (v : Word) (s : State) : Host.Outcome State Fault Refusal :=
  runBus (usartWriteIer 0 v) s

/-- `USART0_IDR.W` (R305). -/
def execUsart0IdrW (v : Word) (s : State) : Host.Outcome State Fault Refusal :=
  runBus (usartWriteIdr 0 v) s

/-- `USART0_IMR.R` (R305). -/
def execUsart0ImrR (s : State) : Host.Outcome State Fault Refusal :=
  runBus (readPlain (fun s => (s.usart 0).imr)) s

/-- `USART0_CSR.R` (R306). -/
def execUsart0CsrR (s : State) : Host.Outcome State Fault Refusal :=
  runBus (readPlain (fun s => s.usartCsr 0)) s

/-- `USART0_RHR.R` (R311). -/
def execUsart0RhrR (s : State) : Host.Outcome State Fault Refusal :=
  runBus (usartReadRhr 0) s

/-- `USART0_THR.W` (R313). -/
def execUsart0ThrW (v : Word) (s : State) : Host.Outcome State Fault Refusal :=
  runBus (usartWriteThr 0 v) s

/-- `USART0_BRGR.R` (R318). -/
def execUsart0BrgrR (s : State) : Host.Outcome State Fault Refusal :=
  runBus (readPlain (fun s => (s.usart 0).brgr)) s

/-- `USART0_BRGR.W` (R318). -/
def execUsart0BrgrW (v : Word) (s : State) : Host.Outcome State Fault Refusal :=
  runBus (usartWriteBrgr 0 v) s

/-- `USART0_RTOR.R` (R319). -/
def execUsart0RtorR (s : State) : Host.Outcome State Fault Refusal :=
  runBus (readPlain (fun s => (s.usart 0).rtor)) s

/-- `USART0_RTOR.W` (R319). -/
def execUsart0RtorW (v : Word) (s : State) : Host.Outcome State Fault Refusal :=
  runBus (usartWriteRtor 0 v) s

/-- `USART0_TTGR.R` (R319). -/
def execUsart0TtgrR (s : State) : Host.Outcome State Fault Refusal :=
  runBus (readPlain (fun s => (s.usart 0).ttgr)) s

/-- `USART0_TTGR.W` (R319). -/
def execUsart0TtgrW (v : Word) (s : State) : Host.Outcome State Fault Refusal :=
  runBus (usartWriteTtgr 0 v) s

/-- `USART0_FIDI.R` (R319). -/
def execUsart0FidiR (s : State) : Host.Outcome State Fault Refusal :=
  runBus (readPlain (fun s => (s.usart 0).fidi)) s

/-- `USART0_FIDI.W` (R319). -/
def execUsart0FidiW (v : Word) (s : State) : Host.Outcome State Fault Refusal :=
  runBus (usartWriteFidi 0 v) s

/-- `USART0_NER.R` (R320). -/
def execUsart0NerR (s : State) : Host.Outcome State Fault Refusal :=
  runBus (readPlain (fun _ => 0#32)) s

/-- `USART0_IF.R` (R319). -/
def execUsart0IfR (s : State) : Host.Outcome State Fault Refusal :=
  runBus (readPlain (fun s => (s.usart 0).ifr)) s

/-- `USART0_IF.W` (R319). -/
def execUsart0IfW (v : Word) (s : State) : Host.Outcome State Fault Refusal :=
  runBus (usartWriteIf 0 v) s

/-- `USART0_MAN.R` (R319). -/
def execUsart0ManR (s : State) : Host.Outcome State Fault Refusal :=
  runBus (readPlain (fun s => (s.usart 0).man)) s

/-- `USART0_MAN.W` (R319). -/
def execUsart0ManW (v : Word) (s : State) : Host.Outcome State Fault Refusal :=
  runBus (usartWriteMan 0 v) s

/-- `USART0_RPR.R` (R262). -/
def execUsart0RprR (s : State) : Host.Outcome State Fault Refusal :=
  runBus (readPlain (fun s => (s.pdc (.usart 0)).rpr)) s

/-- `USART0_RPR.W` (R262). -/
def execUsart0RprW (v : Word) (s : State) : Host.Outcome State Fault Refusal :=
  runBus (pdcWriteRpr (.usart 0) v) s

/-- `USART0_RCR.R` (R263). -/
def execUsart0RcrR (s : State) : Host.Outcome State Fault Refusal :=
  runBus (readPlain (fun s => (s.pdc (.usart 0)).rcr.setWidth 32)) s

/-- `USART0_RCR.W` (R263). -/
def execUsart0RcrW (v : Word) (s : State) : Host.Outcome State Fault Refusal :=
  runBus (pdcWriteRcr (.usart 0) v) s

/-- `USART0_TPR.R` (R262). -/
def execUsart0TprR (s : State) : Host.Outcome State Fault Refusal :=
  runBus (readPlain (fun s => (s.pdc (.usart 0)).tpr)) s

/-- `USART0_TPR.W` (R262). -/
def execUsart0TprW (v : Word) (s : State) : Host.Outcome State Fault Refusal :=
  runBus (pdcWriteTpr (.usart 0) v) s

/-- `USART0_TCR.R` (R264). -/
def execUsart0TcrR (s : State) : Host.Outcome State Fault Refusal :=
  runBus (readPlain (fun s => (s.pdc (.usart 0)).tcr.setWidth 32)) s

/-- `USART0_TCR.W` (R264). -/
def execUsart0TcrW (v : Word) (s : State) : Host.Outcome State Fault Refusal :=
  runBus (pdcWriteTcr (.usart 0) v) s

/-- `USART0_RNPR.R` (R262). -/
def execUsart0RnprR (s : State) : Host.Outcome State Fault Refusal :=
  runBus (readPlain (fun s => (s.pdc (.usart 0)).rnpr)) s

/-- `USART0_RNPR.W` (R262). -/
def execUsart0RnprW (v : Word) (s : State) : Host.Outcome State Fault Refusal :=
  runBus (pdcWriteRnpr (.usart 0) v) s

/-- `USART0_RNCR.R` (R265). -/
def execUsart0RncrR (s : State) : Host.Outcome State Fault Refusal :=
  runBus (readPlain (fun s => (s.pdc (.usart 0)).rncr.setWidth 32)) s

/-- `USART0_RNCR.W` (R265). -/
def execUsart0RncrW (v : Word) (s : State) : Host.Outcome State Fault Refusal :=
  runBus (pdcWriteRncr (.usart 0) v) s

/-- `USART0_TNPR.R` (R262). -/
def execUsart0TnprR (s : State) : Host.Outcome State Fault Refusal :=
  runBus (readPlain (fun s => (s.pdc (.usart 0)).tnpr)) s

/-- `USART0_TNPR.W` (R262). -/
def execUsart0TnprW (v : Word) (s : State) : Host.Outcome State Fault Refusal :=
  runBus (pdcWriteTnpr (.usart 0) v) s

/-- `USART0_TNCR.R` (R265). -/
def execUsart0TncrR (s : State) : Host.Outcome State Fault Refusal :=
  runBus (readPlain (fun s => (s.pdc (.usart 0)).tncr.setWidth 32)) s

/-- `USART0_TNCR.W` (R265). -/
def execUsart0TncrW (v : Word) (s : State) : Host.Outcome State Fault Refusal :=
  runBus (pdcWriteTncr (.usart 0) v) s

/-- `USART0_PTCR.W` (R266). -/
def execUsart0PtcrW (v : Word) (s : State) : Host.Outcome State Fault Refusal :=
  runBus (pdcWritePtcr (.usart 0) v) s

/-- `USART0_PTSR.R` (R267). -/
def execUsart0PtsrR (s : State) : Host.Outcome State Fault Refusal :=
  runBus (readPlain (fun s => (s.pdc (.usart 0)).ptsr)) s

/-- `USART1_CR.W` (R303). -/
def execUsart1CrW (v : Word) (s : State) : Host.Outcome State Fault Refusal :=
  runBus (usartWriteCr 1 v) s

/-- `USART1_MR.R` (R302). -/
def execUsart1MrR (s : State) : Host.Outcome State Fault Refusal :=
  runBus (readPlain (fun s => (s.usart 1).mr)) s

/-- `USART1_MR.W` (R302). -/
def execUsart1MrW (v : Word) (s : State) : Host.Outcome State Fault Refusal :=
  runBus (usartWriteMr 1 v) s

/-- `USART1_IER.W` (R305). -/
def execUsart1IerW (v : Word) (s : State) : Host.Outcome State Fault Refusal :=
  runBus (usartWriteIer 1 v) s

/-- `USART1_IDR.W` (R305). -/
def execUsart1IdrW (v : Word) (s : State) : Host.Outcome State Fault Refusal :=
  runBus (usartWriteIdr 1 v) s

/-- `USART1_IMR.R` (R305). -/
def execUsart1ImrR (s : State) : Host.Outcome State Fault Refusal :=
  runBus (readPlain (fun s => (s.usart 1).imr)) s

/-- `USART1_CSR.R` (R306). -/
def execUsart1CsrR (s : State) : Host.Outcome State Fault Refusal :=
  runBus (readPlain (fun s => s.usartCsr 1)) s

/-- `USART1_RHR.R` (R311). -/
def execUsart1RhrR (s : State) : Host.Outcome State Fault Refusal :=
  runBus (usartReadRhr 1) s

/-- `USART1_THR.W` (R313). -/
def execUsart1ThrW (v : Word) (s : State) : Host.Outcome State Fault Refusal :=
  runBus (usartWriteThr 1 v) s

/-- `USART1_BRGR.R` (R318). -/
def execUsart1BrgrR (s : State) : Host.Outcome State Fault Refusal :=
  runBus (readPlain (fun s => (s.usart 1).brgr)) s

/-- `USART1_BRGR.W` (R318). -/
def execUsart1BrgrW (v : Word) (s : State) : Host.Outcome State Fault Refusal :=
  runBus (usartWriteBrgr 1 v) s

/-- `USART1_RTOR.R` (R319). -/
def execUsart1RtorR (s : State) : Host.Outcome State Fault Refusal :=
  runBus (readPlain (fun s => (s.usart 1).rtor)) s

/-- `USART1_RTOR.W` (R319). -/
def execUsart1RtorW (v : Word) (s : State) : Host.Outcome State Fault Refusal :=
  runBus (usartWriteRtor 1 v) s

/-- `USART1_TTGR.R` (R319). -/
def execUsart1TtgrR (s : State) : Host.Outcome State Fault Refusal :=
  runBus (readPlain (fun s => (s.usart 1).ttgr)) s

/-- `USART1_TTGR.W` (R319). -/
def execUsart1TtgrW (v : Word) (s : State) : Host.Outcome State Fault Refusal :=
  runBus (usartWriteTtgr 1 v) s

/-- `USART1_FIDI.R` (R319). -/
def execUsart1FidiR (s : State) : Host.Outcome State Fault Refusal :=
  runBus (readPlain (fun s => (s.usart 1).fidi)) s

/-- `USART1_FIDI.W` (R319). -/
def execUsart1FidiW (v : Word) (s : State) : Host.Outcome State Fault Refusal :=
  runBus (usartWriteFidi 1 v) s

/-- `USART1_NER.R` (R320). -/
def execUsart1NerR (s : State) : Host.Outcome State Fault Refusal :=
  runBus (readPlain (fun _ => 0#32)) s

/-- `USART1_IF.R` (R319). -/
def execUsart1IfR (s : State) : Host.Outcome State Fault Refusal :=
  runBus (readPlain (fun s => (s.usart 1).ifr)) s

/-- `USART1_IF.W` (R319). -/
def execUsart1IfW (v : Word) (s : State) : Host.Outcome State Fault Refusal :=
  runBus (usartWriteIf 1 v) s

/-- `USART1_MAN.R` (R319). -/
def execUsart1ManR (s : State) : Host.Outcome State Fault Refusal :=
  runBus (readPlain (fun s => (s.usart 1).man)) s

/-- `USART1_MAN.W` (R319). -/
def execUsart1ManW (v : Word) (s : State) : Host.Outcome State Fault Refusal :=
  runBus (usartWriteMan 1 v) s

/-- `USART1_RPR.R` (R262). -/
def execUsart1RprR (s : State) : Host.Outcome State Fault Refusal :=
  runBus (readPlain (fun s => (s.pdc (.usart 1)).rpr)) s

/-- `USART1_RPR.W` (R262). -/
def execUsart1RprW (v : Word) (s : State) : Host.Outcome State Fault Refusal :=
  runBus (pdcWriteRpr (.usart 1) v) s

/-- `USART1_RCR.R` (R263). -/
def execUsart1RcrR (s : State) : Host.Outcome State Fault Refusal :=
  runBus (readPlain (fun s => (s.pdc (.usart 1)).rcr.setWidth 32)) s

/-- `USART1_RCR.W` (R263). -/
def execUsart1RcrW (v : Word) (s : State) : Host.Outcome State Fault Refusal :=
  runBus (pdcWriteRcr (.usart 1) v) s

/-- `USART1_TPR.R` (R262). -/
def execUsart1TprR (s : State) : Host.Outcome State Fault Refusal :=
  runBus (readPlain (fun s => (s.pdc (.usart 1)).tpr)) s

/-- `USART1_TPR.W` (R262). -/
def execUsart1TprW (v : Word) (s : State) : Host.Outcome State Fault Refusal :=
  runBus (pdcWriteTpr (.usart 1) v) s

/-- `USART1_TCR.R` (R264). -/
def execUsart1TcrR (s : State) : Host.Outcome State Fault Refusal :=
  runBus (readPlain (fun s => (s.pdc (.usart 1)).tcr.setWidth 32)) s

/-- `USART1_TCR.W` (R264). -/
def execUsart1TcrW (v : Word) (s : State) : Host.Outcome State Fault Refusal :=
  runBus (pdcWriteTcr (.usart 1) v) s

/-- `USART1_RNPR.R` (R262). -/
def execUsart1RnprR (s : State) : Host.Outcome State Fault Refusal :=
  runBus (readPlain (fun s => (s.pdc (.usart 1)).rnpr)) s

/-- `USART1_RNPR.W` (R262). -/
def execUsart1RnprW (v : Word) (s : State) : Host.Outcome State Fault Refusal :=
  runBus (pdcWriteRnpr (.usart 1) v) s

/-- `USART1_RNCR.R` (R265). -/
def execUsart1RncrR (s : State) : Host.Outcome State Fault Refusal :=
  runBus (readPlain (fun s => (s.pdc (.usart 1)).rncr.setWidth 32)) s

/-- `USART1_RNCR.W` (R265). -/
def execUsart1RncrW (v : Word) (s : State) : Host.Outcome State Fault Refusal :=
  runBus (pdcWriteRncr (.usart 1) v) s

/-- `USART1_TNPR.R` (R262). -/
def execUsart1TnprR (s : State) : Host.Outcome State Fault Refusal :=
  runBus (readPlain (fun s => (s.pdc (.usart 1)).tnpr)) s

/-- `USART1_TNPR.W` (R262). -/
def execUsart1TnprW (v : Word) (s : State) : Host.Outcome State Fault Refusal :=
  runBus (pdcWriteTnpr (.usart 1) v) s

/-- `USART1_TNCR.R` (R265). -/
def execUsart1TncrR (s : State) : Host.Outcome State Fault Refusal :=
  runBus (readPlain (fun s => (s.pdc (.usart 1)).tncr.setWidth 32)) s

/-- `USART1_TNCR.W` (R265). -/
def execUsart1TncrW (v : Word) (s : State) : Host.Outcome State Fault Refusal :=
  runBus (pdcWriteTncr (.usart 1) v) s

/-- `USART1_PTCR.W` (R266). -/
def execUsart1PtcrW (v : Word) (s : State) : Host.Outcome State Fault Refusal :=
  runBus (pdcWritePtcr (.usart 1) v) s

/-- `USART1_PTSR.R` (R267). -/
def execUsart1PtsrR (s : State) : Host.Outcome State Fault Refusal :=
  runBus (readPlain (fun s => (s.pdc (.usart 1)).ptsr)) s

/-- `USART2_CR.W` (R303). -/
def execUsart2CrW (v : Word) (s : State) : Host.Outcome State Fault Refusal :=
  runBus (usartWriteCr 2 v) s

/-- `USART2_MR.R` (R302). -/
def execUsart2MrR (s : State) : Host.Outcome State Fault Refusal :=
  runBus (readPlain (fun s => (s.usart 2).mr)) s

/-- `USART2_MR.W` (R302). -/
def execUsart2MrW (v : Word) (s : State) : Host.Outcome State Fault Refusal :=
  runBus (usartWriteMr 2 v) s

/-- `USART2_IER.W` (R305). -/
def execUsart2IerW (v : Word) (s : State) : Host.Outcome State Fault Refusal :=
  runBus (usartWriteIer 2 v) s

/-- `USART2_IDR.W` (R305). -/
def execUsart2IdrW (v : Word) (s : State) : Host.Outcome State Fault Refusal :=
  runBus (usartWriteIdr 2 v) s

/-- `USART2_IMR.R` (R305). -/
def execUsart2ImrR (s : State) : Host.Outcome State Fault Refusal :=
  runBus (readPlain (fun s => (s.usart 2).imr)) s

/-- `USART2_CSR.R` (R306). -/
def execUsart2CsrR (s : State) : Host.Outcome State Fault Refusal :=
  runBus (readPlain (fun s => s.usartCsr 2)) s

/-- `USART2_RHR.R` (R311). -/
def execUsart2RhrR (s : State) : Host.Outcome State Fault Refusal :=
  runBus (usartReadRhr 2) s

/-- `USART2_THR.W` (R313). -/
def execUsart2ThrW (v : Word) (s : State) : Host.Outcome State Fault Refusal :=
  runBus (usartWriteThr 2 v) s

/-- `USART2_BRGR.R` (R318). -/
def execUsart2BrgrR (s : State) : Host.Outcome State Fault Refusal :=
  runBus (readPlain (fun s => (s.usart 2).brgr)) s

/-- `USART2_BRGR.W` (R318). -/
def execUsart2BrgrW (v : Word) (s : State) : Host.Outcome State Fault Refusal :=
  runBus (usartWriteBrgr 2 v) s

/-- `USART2_RTOR.R` (R319). -/
def execUsart2RtorR (s : State) : Host.Outcome State Fault Refusal :=
  runBus (readPlain (fun s => (s.usart 2).rtor)) s

/-- `USART2_RTOR.W` (R319). -/
def execUsart2RtorW (v : Word) (s : State) : Host.Outcome State Fault Refusal :=
  runBus (usartWriteRtor 2 v) s

/-- `USART2_TTGR.R` (R319). -/
def execUsart2TtgrR (s : State) : Host.Outcome State Fault Refusal :=
  runBus (readPlain (fun s => (s.usart 2).ttgr)) s

/-- `USART2_TTGR.W` (R319). -/
def execUsart2TtgrW (v : Word) (s : State) : Host.Outcome State Fault Refusal :=
  runBus (usartWriteTtgr 2 v) s

/-- `USART2_FIDI.R` (R319). -/
def execUsart2FidiR (s : State) : Host.Outcome State Fault Refusal :=
  runBus (readPlain (fun s => (s.usart 2).fidi)) s

/-- `USART2_FIDI.W` (R319). -/
def execUsart2FidiW (v : Word) (s : State) : Host.Outcome State Fault Refusal :=
  runBus (usartWriteFidi 2 v) s

/-- `USART2_NER.R` (R320). -/
def execUsart2NerR (s : State) : Host.Outcome State Fault Refusal :=
  runBus (readPlain (fun _ => 0#32)) s

/-- `USART2_IF.R` (R319). -/
def execUsart2IfR (s : State) : Host.Outcome State Fault Refusal :=
  runBus (readPlain (fun s => (s.usart 2).ifr)) s

/-- `USART2_IF.W` (R319). -/
def execUsart2IfW (v : Word) (s : State) : Host.Outcome State Fault Refusal :=
  runBus (usartWriteIf 2 v) s

/-- `USART2_MAN.R` (R319). -/
def execUsart2ManR (s : State) : Host.Outcome State Fault Refusal :=
  runBus (readPlain (fun s => (s.usart 2).man)) s

/-- `USART2_MAN.W` (R319). -/
def execUsart2ManW (v : Word) (s : State) : Host.Outcome State Fault Refusal :=
  runBus (usartWriteMan 2 v) s

/-- `USART2_RPR.R` (R262). -/
def execUsart2RprR (s : State) : Host.Outcome State Fault Refusal :=
  runBus (readPlain (fun s => (s.pdc (.usart 2)).rpr)) s

/-- `USART2_RPR.W` (R262). -/
def execUsart2RprW (v : Word) (s : State) : Host.Outcome State Fault Refusal :=
  runBus (pdcWriteRpr (.usart 2) v) s

/-- `USART2_RCR.R` (R263). -/
def execUsart2RcrR (s : State) : Host.Outcome State Fault Refusal :=
  runBus (readPlain (fun s => (s.pdc (.usart 2)).rcr.setWidth 32)) s

/-- `USART2_RCR.W` (R263). -/
def execUsart2RcrW (v : Word) (s : State) : Host.Outcome State Fault Refusal :=
  runBus (pdcWriteRcr (.usart 2) v) s

/-- `USART2_TPR.R` (R262). -/
def execUsart2TprR (s : State) : Host.Outcome State Fault Refusal :=
  runBus (readPlain (fun s => (s.pdc (.usart 2)).tpr)) s

/-- `USART2_TPR.W` (R262). -/
def execUsart2TprW (v : Word) (s : State) : Host.Outcome State Fault Refusal :=
  runBus (pdcWriteTpr (.usart 2) v) s

/-- `USART2_TCR.R` (R264). -/
def execUsart2TcrR (s : State) : Host.Outcome State Fault Refusal :=
  runBus (readPlain (fun s => (s.pdc (.usart 2)).tcr.setWidth 32)) s

/-- `USART2_TCR.W` (R264). -/
def execUsart2TcrW (v : Word) (s : State) : Host.Outcome State Fault Refusal :=
  runBus (pdcWriteTcr (.usart 2) v) s

/-- `USART2_RNPR.R` (R262). -/
def execUsart2RnprR (s : State) : Host.Outcome State Fault Refusal :=
  runBus (readPlain (fun s => (s.pdc (.usart 2)).rnpr)) s

/-- `USART2_RNPR.W` (R262). -/
def execUsart2RnprW (v : Word) (s : State) : Host.Outcome State Fault Refusal :=
  runBus (pdcWriteRnpr (.usart 2) v) s

/-- `USART2_RNCR.R` (R265). -/
def execUsart2RncrR (s : State) : Host.Outcome State Fault Refusal :=
  runBus (readPlain (fun s => (s.pdc (.usart 2)).rncr.setWidth 32)) s

/-- `USART2_RNCR.W` (R265). -/
def execUsart2RncrW (v : Word) (s : State) : Host.Outcome State Fault Refusal :=
  runBus (pdcWriteRncr (.usart 2) v) s

/-- `USART2_TNPR.R` (R262). -/
def execUsart2TnprR (s : State) : Host.Outcome State Fault Refusal :=
  runBus (readPlain (fun s => (s.pdc (.usart 2)).tnpr)) s

/-- `USART2_TNPR.W` (R262). -/
def execUsart2TnprW (v : Word) (s : State) : Host.Outcome State Fault Refusal :=
  runBus (pdcWriteTnpr (.usart 2) v) s

/-- `USART2_TNCR.R` (R265). -/
def execUsart2TncrR (s : State) : Host.Outcome State Fault Refusal :=
  runBus (readPlain (fun s => (s.pdc (.usart 2)).tncr.setWidth 32)) s

/-- `USART2_TNCR.W` (R265). -/
def execUsart2TncrW (v : Word) (s : State) : Host.Outcome State Fault Refusal :=
  runBus (pdcWriteTncr (.usart 2) v) s

/-- `USART2_PTCR.W` (R266). -/
def execUsart2PtcrW (v : Word) (s : State) : Host.Outcome State Fault Refusal :=
  runBus (pdcWritePtcr (.usart 2) v) s

/-- `USART2_PTSR.R` (R267). -/
def execUsart2PtsrR (s : State) : Host.Outcome State Fault Refusal :=
  runBus (readPlain (fun s => (s.pdc (.usart 2)).ptsr)) s

/-- `USART3_CR.W` (R303). -/
def execUsart3CrW (v : Word) (s : State) : Host.Outcome State Fault Refusal :=
  runBus (usartWriteCr 3 v) s

/-- `USART3_MR.R` (R302). -/
def execUsart3MrR (s : State) : Host.Outcome State Fault Refusal :=
  runBus (readPlain (fun s => (s.usart 3).mr)) s

/-- `USART3_MR.W` (R302). -/
def execUsart3MrW (v : Word) (s : State) : Host.Outcome State Fault Refusal :=
  runBus (usartWriteMr 3 v) s

/-- `USART3_IER.W` (R305). -/
def execUsart3IerW (v : Word) (s : State) : Host.Outcome State Fault Refusal :=
  runBus (usartWriteIer 3 v) s

/-- `USART3_IDR.W` (R305). -/
def execUsart3IdrW (v : Word) (s : State) : Host.Outcome State Fault Refusal :=
  runBus (usartWriteIdr 3 v) s

/-- `USART3_IMR.R` (R305). -/
def execUsart3ImrR (s : State) : Host.Outcome State Fault Refusal :=
  runBus (readPlain (fun s => (s.usart 3).imr)) s

/-- `USART3_CSR.R` (R306). -/
def execUsart3CsrR (s : State) : Host.Outcome State Fault Refusal :=
  runBus (readPlain (fun s => s.usartCsr 3)) s

/-- `USART3_RHR.R` (R311). -/
def execUsart3RhrR (s : State) : Host.Outcome State Fault Refusal :=
  runBus (usartReadRhr 3) s

/-- `USART3_THR.W` (R313). -/
def execUsart3ThrW (v : Word) (s : State) : Host.Outcome State Fault Refusal :=
  runBus (usartWriteThr 3 v) s

/-- `USART3_BRGR.R` (R318). -/
def execUsart3BrgrR (s : State) : Host.Outcome State Fault Refusal :=
  runBus (readPlain (fun s => (s.usart 3).brgr)) s

/-- `USART3_BRGR.W` (R318). -/
def execUsart3BrgrW (v : Word) (s : State) : Host.Outcome State Fault Refusal :=
  runBus (usartWriteBrgr 3 v) s

/-- `USART3_RTOR.R` (R319). -/
def execUsart3RtorR (s : State) : Host.Outcome State Fault Refusal :=
  runBus (readPlain (fun s => (s.usart 3).rtor)) s

/-- `USART3_RTOR.W` (R319). -/
def execUsart3RtorW (v : Word) (s : State) : Host.Outcome State Fault Refusal :=
  runBus (usartWriteRtor 3 v) s

/-- `USART3_TTGR.R` (R319). -/
def execUsart3TtgrR (s : State) : Host.Outcome State Fault Refusal :=
  runBus (readPlain (fun s => (s.usart 3).ttgr)) s

/-- `USART3_TTGR.W` (R319). -/
def execUsart3TtgrW (v : Word) (s : State) : Host.Outcome State Fault Refusal :=
  runBus (usartWriteTtgr 3 v) s

/-- `USART3_FIDI.R` (R319). -/
def execUsart3FidiR (s : State) : Host.Outcome State Fault Refusal :=
  runBus (readPlain (fun s => (s.usart 3).fidi)) s

/-- `USART3_FIDI.W` (R319). -/
def execUsart3FidiW (v : Word) (s : State) : Host.Outcome State Fault Refusal :=
  runBus (usartWriteFidi 3 v) s

/-- `USART3_NER.R` (R320). -/
def execUsart3NerR (s : State) : Host.Outcome State Fault Refusal :=
  runBus (readPlain (fun _ => 0#32)) s

/-- `USART3_IF.R` (R319). -/
def execUsart3IfR (s : State) : Host.Outcome State Fault Refusal :=
  runBus (readPlain (fun s => (s.usart 3).ifr)) s

/-- `USART3_IF.W` (R319). -/
def execUsart3IfW (v : Word) (s : State) : Host.Outcome State Fault Refusal :=
  runBus (usartWriteIf 3 v) s

/-- `USART3_MAN.R` (R319). -/
def execUsart3ManR (s : State) : Host.Outcome State Fault Refusal :=
  runBus (readPlain (fun s => (s.usart 3).man)) s

/-- `USART3_MAN.W` (R319). -/
def execUsart3ManW (v : Word) (s : State) : Host.Outcome State Fault Refusal :=
  runBus (usartWriteMan 3 v) s

/-- `USART3_RPR.R` (R262). -/
def execUsart3RprR (s : State) : Host.Outcome State Fault Refusal :=
  runBus (readPlain (fun s => (s.pdc (.usart 3)).rpr)) s

/-- `USART3_RPR.W` (R262). -/
def execUsart3RprW (v : Word) (s : State) : Host.Outcome State Fault Refusal :=
  runBus (pdcWriteRpr (.usart 3) v) s

/-- `USART3_RCR.R` (R263). -/
def execUsart3RcrR (s : State) : Host.Outcome State Fault Refusal :=
  runBus (readPlain (fun s => (s.pdc (.usart 3)).rcr.setWidth 32)) s

/-- `USART3_RCR.W` (R263). -/
def execUsart3RcrW (v : Word) (s : State) : Host.Outcome State Fault Refusal :=
  runBus (pdcWriteRcr (.usart 3) v) s

/-- `USART3_TPR.R` (R262). -/
def execUsart3TprR (s : State) : Host.Outcome State Fault Refusal :=
  runBus (readPlain (fun s => (s.pdc (.usart 3)).tpr)) s

/-- `USART3_TPR.W` (R262). -/
def execUsart3TprW (v : Word) (s : State) : Host.Outcome State Fault Refusal :=
  runBus (pdcWriteTpr (.usart 3) v) s

/-- `USART3_TCR.R` (R264). -/
def execUsart3TcrR (s : State) : Host.Outcome State Fault Refusal :=
  runBus (readPlain (fun s => (s.pdc (.usart 3)).tcr.setWidth 32)) s

/-- `USART3_TCR.W` (R264). -/
def execUsart3TcrW (v : Word) (s : State) : Host.Outcome State Fault Refusal :=
  runBus (pdcWriteTcr (.usart 3) v) s

/-- `USART3_RNPR.R` (R262). -/
def execUsart3RnprR (s : State) : Host.Outcome State Fault Refusal :=
  runBus (readPlain (fun s => (s.pdc (.usart 3)).rnpr)) s

/-- `USART3_RNPR.W` (R262). -/
def execUsart3RnprW (v : Word) (s : State) : Host.Outcome State Fault Refusal :=
  runBus (pdcWriteRnpr (.usart 3) v) s

/-- `USART3_RNCR.R` (R265). -/
def execUsart3RncrR (s : State) : Host.Outcome State Fault Refusal :=
  runBus (readPlain (fun s => (s.pdc (.usart 3)).rncr.setWidth 32)) s

/-- `USART3_RNCR.W` (R265). -/
def execUsart3RncrW (v : Word) (s : State) : Host.Outcome State Fault Refusal :=
  runBus (pdcWriteRncr (.usart 3) v) s

/-- `USART3_TNPR.R` (R262). -/
def execUsart3TnprR (s : State) : Host.Outcome State Fault Refusal :=
  runBus (readPlain (fun s => (s.pdc (.usart 3)).tnpr)) s

/-- `USART3_TNPR.W` (R262). -/
def execUsart3TnprW (v : Word) (s : State) : Host.Outcome State Fault Refusal :=
  runBus (pdcWriteTnpr (.usart 3) v) s

/-- `USART3_TNCR.R` (R265). -/
def execUsart3TncrR (s : State) : Host.Outcome State Fault Refusal :=
  runBus (readPlain (fun s => (s.pdc (.usart 3)).tncr.setWidth 32)) s

/-- `USART3_TNCR.W` (R265). -/
def execUsart3TncrW (v : Word) (s : State) : Host.Outcome State Fault Refusal :=
  runBus (pdcWriteTncr (.usart 3) v) s

/-- `USART3_PTCR.W` (R266). -/
def execUsart3PtcrW (v : Word) (s : State) : Host.Outcome State Fault Refusal :=
  runBus (pdcWritePtcr (.usart 3) v) s

/-- `USART3_PTSR.R` (R267). -/
def execUsart3PtsrR (s : State) : Host.Outcome State Fault Refusal :=
  runBus (readPlain (fun s => (s.pdc (.usart 3)).ptsr)) s

/-- `USART4_CR.W` (R303). -/
def execUsart4CrW (v : Word) (s : State) : Host.Outcome State Fault Refusal :=
  runBus (usartWriteCr 4 v) s

/-- `USART4_MR.R` (R302). -/
def execUsart4MrR (s : State) : Host.Outcome State Fault Refusal :=
  runBus (readPlain (fun s => (s.usart 4).mr)) s

/-- `USART4_MR.W` (R302). -/
def execUsart4MrW (v : Word) (s : State) : Host.Outcome State Fault Refusal :=
  runBus (usartWriteMr 4 v) s

/-- `USART4_IER.W` (R305). -/
def execUsart4IerW (v : Word) (s : State) : Host.Outcome State Fault Refusal :=
  runBus (usartWriteIer 4 v) s

/-- `USART4_IDR.W` (R305). -/
def execUsart4IdrW (v : Word) (s : State) : Host.Outcome State Fault Refusal :=
  runBus (usartWriteIdr 4 v) s

/-- `USART4_IMR.R` (R305). -/
def execUsart4ImrR (s : State) : Host.Outcome State Fault Refusal :=
  runBus (readPlain (fun s => (s.usart 4).imr)) s

/-- `USART4_CSR.R` (R306). -/
def execUsart4CsrR (s : State) : Host.Outcome State Fault Refusal :=
  runBus (readPlain (fun s => s.usartCsr 4)) s

/-- `USART4_RHR.R` (R311). -/
def execUsart4RhrR (s : State) : Host.Outcome State Fault Refusal :=
  runBus (usartReadRhr 4) s

/-- `USART4_THR.W` (R313). -/
def execUsart4ThrW (v : Word) (s : State) : Host.Outcome State Fault Refusal :=
  runBus (usartWriteThr 4 v) s

/-- `USART4_BRGR.R` (R318). -/
def execUsart4BrgrR (s : State) : Host.Outcome State Fault Refusal :=
  runBus (readPlain (fun s => (s.usart 4).brgr)) s

/-- `USART4_BRGR.W` (R318). -/
def execUsart4BrgrW (v : Word) (s : State) : Host.Outcome State Fault Refusal :=
  runBus (usartWriteBrgr 4 v) s

/-- `USART4_RTOR.R` (R319). -/
def execUsart4RtorR (s : State) : Host.Outcome State Fault Refusal :=
  runBus (readPlain (fun s => (s.usart 4).rtor)) s

/-- `USART4_RTOR.W` (R319). -/
def execUsart4RtorW (v : Word) (s : State) : Host.Outcome State Fault Refusal :=
  runBus (usartWriteRtor 4 v) s

/-- `USART4_TTGR.R` (R319). -/
def execUsart4TtgrR (s : State) : Host.Outcome State Fault Refusal :=
  runBus (readPlain (fun s => (s.usart 4).ttgr)) s

/-- `USART4_TTGR.W` (R319). -/
def execUsart4TtgrW (v : Word) (s : State) : Host.Outcome State Fault Refusal :=
  runBus (usartWriteTtgr 4 v) s

/-- `USART4_FIDI.R` (R319). -/
def execUsart4FidiR (s : State) : Host.Outcome State Fault Refusal :=
  runBus (readPlain (fun s => (s.usart 4).fidi)) s

/-- `USART4_FIDI.W` (R319). -/
def execUsart4FidiW (v : Word) (s : State) : Host.Outcome State Fault Refusal :=
  runBus (usartWriteFidi 4 v) s

/-- `USART4_NER.R` (R320). -/
def execUsart4NerR (s : State) : Host.Outcome State Fault Refusal :=
  runBus (readPlain (fun _ => 0#32)) s

/-- `USART4_IF.R` (R319). -/
def execUsart4IfR (s : State) : Host.Outcome State Fault Refusal :=
  runBus (readPlain (fun s => (s.usart 4).ifr)) s

/-- `USART4_IF.W` (R319). -/
def execUsart4IfW (v : Word) (s : State) : Host.Outcome State Fault Refusal :=
  runBus (usartWriteIf 4 v) s

/-- `USART4_MAN.R` (R319). -/
def execUsart4ManR (s : State) : Host.Outcome State Fault Refusal :=
  runBus (readPlain (fun s => (s.usart 4).man)) s

/-- `USART4_MAN.W` (R319). -/
def execUsart4ManW (v : Word) (s : State) : Host.Outcome State Fault Refusal :=
  runBus (usartWriteMan 4 v) s

/-- `USART4_RPR.R` (R262). -/
def execUsart4RprR (s : State) : Host.Outcome State Fault Refusal :=
  runBus (readPlain (fun s => (s.pdc (.usart 4)).rpr)) s

/-- `USART4_RPR.W` (R262). -/
def execUsart4RprW (v : Word) (s : State) : Host.Outcome State Fault Refusal :=
  runBus (pdcWriteRpr (.usart 4) v) s

/-- `USART4_RCR.R` (R263). -/
def execUsart4RcrR (s : State) : Host.Outcome State Fault Refusal :=
  runBus (readPlain (fun s => (s.pdc (.usart 4)).rcr.setWidth 32)) s

/-- `USART4_RCR.W` (R263). -/
def execUsart4RcrW (v : Word) (s : State) : Host.Outcome State Fault Refusal :=
  runBus (pdcWriteRcr (.usart 4) v) s

/-- `USART4_TPR.R` (R262). -/
def execUsart4TprR (s : State) : Host.Outcome State Fault Refusal :=
  runBus (readPlain (fun s => (s.pdc (.usart 4)).tpr)) s

/-- `USART4_TPR.W` (R262). -/
def execUsart4TprW (v : Word) (s : State) : Host.Outcome State Fault Refusal :=
  runBus (pdcWriteTpr (.usart 4) v) s

/-- `USART4_TCR.R` (R264). -/
def execUsart4TcrR (s : State) : Host.Outcome State Fault Refusal :=
  runBus (readPlain (fun s => (s.pdc (.usart 4)).tcr.setWidth 32)) s

/-- `USART4_TCR.W` (R264). -/
def execUsart4TcrW (v : Word) (s : State) : Host.Outcome State Fault Refusal :=
  runBus (pdcWriteTcr (.usart 4) v) s

/-- `USART4_RNPR.R` (R262). -/
def execUsart4RnprR (s : State) : Host.Outcome State Fault Refusal :=
  runBus (readPlain (fun s => (s.pdc (.usart 4)).rnpr)) s

/-- `USART4_RNPR.W` (R262). -/
def execUsart4RnprW (v : Word) (s : State) : Host.Outcome State Fault Refusal :=
  runBus (pdcWriteRnpr (.usart 4) v) s

/-- `USART4_RNCR.R` (R265). -/
def execUsart4RncrR (s : State) : Host.Outcome State Fault Refusal :=
  runBus (readPlain (fun s => (s.pdc (.usart 4)).rncr.setWidth 32)) s

/-- `USART4_RNCR.W` (R265). -/
def execUsart4RncrW (v : Word) (s : State) : Host.Outcome State Fault Refusal :=
  runBus (pdcWriteRncr (.usart 4) v) s

/-- `USART4_TNPR.R` (R262). -/
def execUsart4TnprR (s : State) : Host.Outcome State Fault Refusal :=
  runBus (readPlain (fun s => (s.pdc (.usart 4)).tnpr)) s

/-- `USART4_TNPR.W` (R262). -/
def execUsart4TnprW (v : Word) (s : State) : Host.Outcome State Fault Refusal :=
  runBus (pdcWriteTnpr (.usart 4) v) s

/-- `USART4_TNCR.R` (R265). -/
def execUsart4TncrR (s : State) : Host.Outcome State Fault Refusal :=
  runBus (readPlain (fun s => (s.pdc (.usart 4)).tncr.setWidth 32)) s

/-- `USART4_TNCR.W` (R265). -/
def execUsart4TncrW (v : Word) (s : State) : Host.Outcome State Fault Refusal :=
  runBus (pdcWriteTncr (.usart 4) v) s

/-- `USART4_PTCR.W` (R266). -/
def execUsart4PtcrW (v : Word) (s : State) : Host.Outcome State Fault Refusal :=
  runBus (pdcWritePtcr (.usart 4) v) s

/-- `USART4_PTSR.R` (R267). -/
def execUsart4PtsrR (s : State) : Host.Outcome State Fault Refusal :=
  runBus (readPlain (fun s => (s.pdc (.usart 4)).ptsr)) s

/-- `USART5_CR.W` (R303). -/
def execUsart5CrW (v : Word) (s : State) : Host.Outcome State Fault Refusal :=
  runBus (usartWriteCr 5 v) s

/-- `USART5_MR.R` (R302). -/
def execUsart5MrR (s : State) : Host.Outcome State Fault Refusal :=
  runBus (readPlain (fun s => (s.usart 5).mr)) s

/-- `USART5_MR.W` (R302). -/
def execUsart5MrW (v : Word) (s : State) : Host.Outcome State Fault Refusal :=
  runBus (usartWriteMr 5 v) s

/-- `USART5_IER.W` (R305). -/
def execUsart5IerW (v : Word) (s : State) : Host.Outcome State Fault Refusal :=
  runBus (usartWriteIer 5 v) s

/-- `USART5_IDR.W` (R305). -/
def execUsart5IdrW (v : Word) (s : State) : Host.Outcome State Fault Refusal :=
  runBus (usartWriteIdr 5 v) s

/-- `USART5_IMR.R` (R305). -/
def execUsart5ImrR (s : State) : Host.Outcome State Fault Refusal :=
  runBus (readPlain (fun s => (s.usart 5).imr)) s

/-- `USART5_CSR.R` (R306). -/
def execUsart5CsrR (s : State) : Host.Outcome State Fault Refusal :=
  runBus (readPlain (fun s => s.usartCsr 5)) s

/-- `USART5_RHR.R` (R311). -/
def execUsart5RhrR (s : State) : Host.Outcome State Fault Refusal :=
  runBus (usartReadRhr 5) s

/-- `USART5_THR.W` (R313). -/
def execUsart5ThrW (v : Word) (s : State) : Host.Outcome State Fault Refusal :=
  runBus (usartWriteThr 5 v) s

/-- `USART5_BRGR.R` (R318). -/
def execUsart5BrgrR (s : State) : Host.Outcome State Fault Refusal :=
  runBus (readPlain (fun s => (s.usart 5).brgr)) s

/-- `USART5_BRGR.W` (R318). -/
def execUsart5BrgrW (v : Word) (s : State) : Host.Outcome State Fault Refusal :=
  runBus (usartWriteBrgr 5 v) s

/-- `USART5_RTOR.R` (R319). -/
def execUsart5RtorR (s : State) : Host.Outcome State Fault Refusal :=
  runBus (readPlain (fun s => (s.usart 5).rtor)) s

/-- `USART5_RTOR.W` (R319). -/
def execUsart5RtorW (v : Word) (s : State) : Host.Outcome State Fault Refusal :=
  runBus (usartWriteRtor 5 v) s

/-- `USART5_TTGR.R` (R319). -/
def execUsart5TtgrR (s : State) : Host.Outcome State Fault Refusal :=
  runBus (readPlain (fun s => (s.usart 5).ttgr)) s

/-- `USART5_TTGR.W` (R319). -/
def execUsart5TtgrW (v : Word) (s : State) : Host.Outcome State Fault Refusal :=
  runBus (usartWriteTtgr 5 v) s

/-- `USART5_FIDI.R` (R319). -/
def execUsart5FidiR (s : State) : Host.Outcome State Fault Refusal :=
  runBus (readPlain (fun s => (s.usart 5).fidi)) s

/-- `USART5_FIDI.W` (R319). -/
def execUsart5FidiW (v : Word) (s : State) : Host.Outcome State Fault Refusal :=
  runBus (usartWriteFidi 5 v) s

/-- `USART5_NER.R` (R320). -/
def execUsart5NerR (s : State) : Host.Outcome State Fault Refusal :=
  runBus (readPlain (fun _ => 0#32)) s

/-- `USART5_IF.R` (R319). -/
def execUsart5IfR (s : State) : Host.Outcome State Fault Refusal :=
  runBus (readPlain (fun s => (s.usart 5).ifr)) s

/-- `USART5_IF.W` (R319). -/
def execUsart5IfW (v : Word) (s : State) : Host.Outcome State Fault Refusal :=
  runBus (usartWriteIf 5 v) s

/-- `USART5_MAN.R` (R319). -/
def execUsart5ManR (s : State) : Host.Outcome State Fault Refusal :=
  runBus (readPlain (fun s => (s.usart 5).man)) s

/-- `USART5_MAN.W` (R319). -/
def execUsart5ManW (v : Word) (s : State) : Host.Outcome State Fault Refusal :=
  runBus (usartWriteMan 5 v) s

/-- `USART5_RPR.R` (R262). -/
def execUsart5RprR (s : State) : Host.Outcome State Fault Refusal :=
  runBus (readPlain (fun s => (s.pdc (.usart 5)).rpr)) s

/-- `USART5_RPR.W` (R262). -/
def execUsart5RprW (v : Word) (s : State) : Host.Outcome State Fault Refusal :=
  runBus (pdcWriteRpr (.usart 5) v) s

/-- `USART5_RCR.R` (R263). -/
def execUsart5RcrR (s : State) : Host.Outcome State Fault Refusal :=
  runBus (readPlain (fun s => (s.pdc (.usart 5)).rcr.setWidth 32)) s

/-- `USART5_RCR.W` (R263). -/
def execUsart5RcrW (v : Word) (s : State) : Host.Outcome State Fault Refusal :=
  runBus (pdcWriteRcr (.usart 5) v) s

/-- `USART5_TPR.R` (R262). -/
def execUsart5TprR (s : State) : Host.Outcome State Fault Refusal :=
  runBus (readPlain (fun s => (s.pdc (.usart 5)).tpr)) s

/-- `USART5_TPR.W` (R262). -/
def execUsart5TprW (v : Word) (s : State) : Host.Outcome State Fault Refusal :=
  runBus (pdcWriteTpr (.usart 5) v) s

/-- `USART5_TCR.R` (R264). -/
def execUsart5TcrR (s : State) : Host.Outcome State Fault Refusal :=
  runBus (readPlain (fun s => (s.pdc (.usart 5)).tcr.setWidth 32)) s

/-- `USART5_TCR.W` (R264). -/
def execUsart5TcrW (v : Word) (s : State) : Host.Outcome State Fault Refusal :=
  runBus (pdcWriteTcr (.usart 5) v) s

/-- `USART5_RNPR.R` (R262). -/
def execUsart5RnprR (s : State) : Host.Outcome State Fault Refusal :=
  runBus (readPlain (fun s => (s.pdc (.usart 5)).rnpr)) s

/-- `USART5_RNPR.W` (R262). -/
def execUsart5RnprW (v : Word) (s : State) : Host.Outcome State Fault Refusal :=
  runBus (pdcWriteRnpr (.usart 5) v) s

/-- `USART5_RNCR.R` (R265). -/
def execUsart5RncrR (s : State) : Host.Outcome State Fault Refusal :=
  runBus (readPlain (fun s => (s.pdc (.usart 5)).rncr.setWidth 32)) s

/-- `USART5_RNCR.W` (R265). -/
def execUsart5RncrW (v : Word) (s : State) : Host.Outcome State Fault Refusal :=
  runBus (pdcWriteRncr (.usart 5) v) s

/-- `USART5_TNPR.R` (R262). -/
def execUsart5TnprR (s : State) : Host.Outcome State Fault Refusal :=
  runBus (readPlain (fun s => (s.pdc (.usart 5)).tnpr)) s

/-- `USART5_TNPR.W` (R262). -/
def execUsart5TnprW (v : Word) (s : State) : Host.Outcome State Fault Refusal :=
  runBus (pdcWriteTnpr (.usart 5) v) s

/-- `USART5_TNCR.R` (R265). -/
def execUsart5TncrR (s : State) : Host.Outcome State Fault Refusal :=
  runBus (readPlain (fun s => (s.pdc (.usart 5)).tncr.setWidth 32)) s

/-- `USART5_TNCR.W` (R265). -/
def execUsart5TncrW (v : Word) (s : State) : Host.Outcome State Fault Refusal :=
  runBus (pdcWriteTncr (.usart 5) v) s

/-- `USART5_PTCR.W` (R266). -/
def execUsart5PtcrW (v : Word) (s : State) : Host.Outcome State Fault Refusal :=
  runBus (pdcWritePtcr (.usart 5) v) s

/-- `USART5_PTSR.R` (R267). -/
def execUsart5PtsrR (s : State) : Host.Outcome State Fault Refusal :=
  runBus (readPlain (fun s => (s.pdc (.usart 5)).ptsr)) s

end Sys2Proof.Machine
end

