-- ==== Sys2Proof/Machine/Dispatch.lean ====
section
/-! DEFINITION. The dispatcher: one arm per constructor of `Instr`, each the direct call of its meaning. -/

namespace Sys2Proof.Machine

def exec (i : Instr) (s : State) : Host.Outcome State Fault Refusal :=
  match i with
  | .bootmemR addr size => Sys2Proof.Machine.execBootmemR addr size s
  | .bootmemW addr size v => Sys2Proof.Machine.execBootmemW addr size v s
  | .romR addr size => Sys2Proof.Machine.execRomR addr size s
  | .romW addr size v => Sys2Proof.Machine.execRomW addr size v s
  | .sram0R addr size => Sys2Proof.Machine.execSram0R addr size s
  | .sram0W addr size v => Sys2Proof.Machine.execSram0W addr size v s
  | .sram1R addr size => Sys2Proof.Machine.execSram1R addr size s
  | .sram1W addr size v => Sys2Proof.Machine.execSram1W addr size v s
  | .norR addr size => Sys2Proof.Machine.execNorR addr size s
  | .norW addr size v => Sys2Proof.Machine.execNorW addr size v s
  | .sdramR addr size => Sys2Proof.Machine.execSdramR addr size s
  | .sdramW addr size v => Sys2Proof.Machine.execSdramW addr size v s
  | .unimplUhpR addr => Sys2Proof.Machine.execUnimplUhpR addr s
  | .unimplUhpW addr v => Sys2Proof.Machine.execUnimplUhpW addr v s
  | .unimplUdpR addr => Sys2Proof.Machine.execUnimplUdpR addr s
  | .unimplUdpW addr v => Sys2Proof.Machine.execUnimplUdpW addr v s
  | .unimplSscR addr => Sys2Proof.Machine.execUnimplSscR addr s
  | .unimplSscW addr v => Sys2Proof.Machine.execUnimplSscW addr v s
  | .unimplIsiR addr => Sys2Proof.Machine.execUnimplIsiR addr s
  | .unimplIsiW addr v => Sys2Proof.Machine.execUnimplIsiW addr v s
  | .unimplEmacR addr => Sys2Proof.Machine.execUnimplEmacR addr s
  | .unimplEmacW addr v => Sys2Proof.Machine.execUnimplEmacW addr v s
  | .unimplAdcR addr => Sys2Proof.Machine.execUnimplAdcR addr s
  | .unimplAdcW addr v => Sys2Proof.Machine.execUnimplAdcW addr v s
  | .unimplEccR addr => Sys2Proof.Machine.execUnimplEccR addr s
  | .unimplEccW addr v => Sys2Proof.Machine.execUnimplEccW addr v s
  | .unimplSmcR addr => Sys2Proof.Machine.execUnimplSmcR addr s
  | .unimplSmcW addr v => Sys2Proof.Machine.execUnimplSmcW addr v s
  | .unimplShdwcR addr => Sys2Proof.Machine.execUnimplShdwcR addr s
  | .unimplShdwcW addr v => Sys2Proof.Machine.execUnimplShdwcW addr v s
  | .unimplWdtR addr => Sys2Proof.Machine.execUnimplWdtR addr s
  | .unimplWdtW addr v => Sys2Proof.Machine.execUnimplWdtW addr v s
  | .unimplGpbrR addr => Sys2Proof.Machine.execUnimplGpbrR addr s
  | .unimplGpbrW addr v => Sys2Proof.Machine.execUnimplGpbrW addr v s
  | .aicSmrR n => Sys2Proof.Machine.execAicSmrR n s
  | .aicSmrW n v => Sys2Proof.Machine.execAicSmrW n v s
  | .aicSvrR n => Sys2Proof.Machine.execAicSvrR n s
  | .aicSvrW n v => Sys2Proof.Machine.execAicSvrW n v s
  | .aicIvrR => Sys2Proof.Machine.execAicIvrR s
  | .aicIvrW v => Sys2Proof.Machine.execAicIvrW v s
  | .aicFvrR => Sys2Proof.Machine.execAicFvrR s
  | .aicIsrR => Sys2Proof.Machine.execAicIsrR s
  | .aicIprR => Sys2Proof.Machine.execAicIprR s
  | .aicImrR => Sys2Proof.Machine.execAicImrR s
  | .aicCisrR => Sys2Proof.Machine.execAicCisrR s
  | .aicIecrW v => Sys2Proof.Machine.execAicIecrW v s
  | .aicIdcrW v => Sys2Proof.Machine.execAicIdcrW v s
  | .aicIccrW v => Sys2Proof.Machine.execAicIccrW v s
  | .aicIscrW v => Sys2Proof.Machine.execAicIscrW v s
  | .aicEoicrW v => Sys2Proof.Machine.execAicEoicrW v s
  | .aicSpuR => Sys2Proof.Machine.execAicSpuR s
  | .aicSpuW v => Sys2Proof.Machine.execAicSpuW v s
  | .aicDcrR => Sys2Proof.Machine.execAicDcrR s
  | .aicDcrW v => Sys2Proof.Machine.execAicDcrW v s
  | .aicFferW v => Sys2Proof.Machine.execAicFferW v s
  | .aicFfdrW v => Sys2Proof.Machine.execAicFfdrW v s
  | .aicFfsrR => Sys2Proof.Machine.execAicFfsrR s
  | .usart0CrW v => Sys2Proof.Machine.execUsart0CrW v s
  | .usart0MrR => Sys2Proof.Machine.execUsart0MrR s
  | .usart0MrW v => Sys2Proof.Machine.execUsart0MrW v s
  | .usart0IerW v => Sys2Proof.Machine.execUsart0IerW v s
  | .usart0IdrW v => Sys2Proof.Machine.execUsart0IdrW v s
  | .usart0ImrR => Sys2Proof.Machine.execUsart0ImrR s
  | .usart0CsrR => Sys2Proof.Machine.execUsart0CsrR s
  | .usart0RhrR => Sys2Proof.Machine.execUsart0RhrR s
  | .usart0ThrW v => Sys2Proof.Machine.execUsart0ThrW v s
  | .usart0BrgrR => Sys2Proof.Machine.execUsart0BrgrR s
  | .usart0BrgrW v => Sys2Proof.Machine.execUsart0BrgrW v s
  | .usart0RtorR => Sys2Proof.Machine.execUsart0RtorR s
  | .usart0RtorW v => Sys2Proof.Machine.execUsart0RtorW v s
  | .usart0TtgrR => Sys2Proof.Machine.execUsart0TtgrR s
  | .usart0TtgrW v => Sys2Proof.Machine.execUsart0TtgrW v s
  | .usart0FidiR => Sys2Proof.Machine.execUsart0FidiR s
  | .usart0FidiW v => Sys2Proof.Machine.execUsart0FidiW v s
  | .usart0NerR => Sys2Proof.Machine.execUsart0NerR s
  | .usart0IfR => Sys2Proof.Machine.execUsart0IfR s
  | .usart0IfW v => Sys2Proof.Machine.execUsart0IfW v s
  | .usart0ManR => Sys2Proof.Machine.execUsart0ManR s
  | .usart0ManW v => Sys2Proof.Machine.execUsart0ManW v s
  | .usart0RprR => Sys2Proof.Machine.execUsart0RprR s
  | .usart0RprW v => Sys2Proof.Machine.execUsart0RprW v s
  | .usart0RcrR => Sys2Proof.Machine.execUsart0RcrR s
  | .usart0RcrW v => Sys2Proof.Machine.execUsart0RcrW v s
  | .usart0TprR => Sys2Proof.Machine.execUsart0TprR s
  | .usart0TprW v => Sys2Proof.Machine.execUsart0TprW v s
  | .usart0TcrR => Sys2Proof.Machine.execUsart0TcrR s
  | .usart0TcrW v => Sys2Proof.Machine.execUsart0TcrW v s
  | .usart0RnprR => Sys2Proof.Machine.execUsart0RnprR s
  | .usart0RnprW v => Sys2Proof.Machine.execUsart0RnprW v s
  | .usart0RncrR => Sys2Proof.Machine.execUsart0RncrR s
  | .usart0RncrW v => Sys2Proof.Machine.execUsart0RncrW v s
  | .usart0TnprR => Sys2Proof.Machine.execUsart0TnprR s
  | .usart0TnprW v => Sys2Proof.Machine.execUsart0TnprW v s
  | .usart0TncrR => Sys2Proof.Machine.execUsart0TncrR s
  | .usart0TncrW v => Sys2Proof.Machine.execUsart0TncrW v s
  | .usart0PtcrW v => Sys2Proof.Machine.execUsart0PtcrW v s
  | .usart0PtsrR => Sys2Proof.Machine.execUsart0PtsrR s
  | .usart1CrW v => Sys2Proof.Machine.execUsart1CrW v s
  | .usart1MrR => Sys2Proof.Machine.execUsart1MrR s
  | .usart1MrW v => Sys2Proof.Machine.execUsart1MrW v s
  | .usart1IerW v => Sys2Proof.Machine.execUsart1IerW v s
  | .usart1IdrW v => Sys2Proof.Machine.execUsart1IdrW v s
  | .usart1ImrR => Sys2Proof.Machine.execUsart1ImrR s
  | .usart1CsrR => Sys2Proof.Machine.execUsart1CsrR s
  | .usart1RhrR => Sys2Proof.Machine.execUsart1RhrR s
  | .usart1ThrW v => Sys2Proof.Machine.execUsart1ThrW v s
  | .usart1BrgrR => Sys2Proof.Machine.execUsart1BrgrR s
  | .usart1BrgrW v => Sys2Proof.Machine.execUsart1BrgrW v s
  | .usart1RtorR => Sys2Proof.Machine.execUsart1RtorR s
  | .usart1RtorW v => Sys2Proof.Machine.execUsart1RtorW v s
  | .usart1TtgrR => Sys2Proof.Machine.execUsart1TtgrR s
  | .usart1TtgrW v => Sys2Proof.Machine.execUsart1TtgrW v s
  | .usart1FidiR => Sys2Proof.Machine.execUsart1FidiR s
  | .usart1FidiW v => Sys2Proof.Machine.execUsart1FidiW v s
  | .usart1NerR => Sys2Proof.Machine.execUsart1NerR s
  | .usart1IfR => Sys2Proof.Machine.execUsart1IfR s
  | .usart1IfW v => Sys2Proof.Machine.execUsart1IfW v s
  | .usart1ManR => Sys2Proof.Machine.execUsart1ManR s
  | .usart1ManW v => Sys2Proof.Machine.execUsart1ManW v s
  | .usart1RprR => Sys2Proof.Machine.execUsart1RprR s
  | .usart1RprW v => Sys2Proof.Machine.execUsart1RprW v s
  | .usart1RcrR => Sys2Proof.Machine.execUsart1RcrR s
  | .usart1RcrW v => Sys2Proof.Machine.execUsart1RcrW v s
  | .usart1TprR => Sys2Proof.Machine.execUsart1TprR s
  | .usart1TprW v => Sys2Proof.Machine.execUsart1TprW v s
  | .usart1TcrR => Sys2Proof.Machine.execUsart1TcrR s
  | .usart1TcrW v => Sys2Proof.Machine.execUsart1TcrW v s
  | .usart1RnprR => Sys2Proof.Machine.execUsart1RnprR s
  | .usart1RnprW v => Sys2Proof.Machine.execUsart1RnprW v s
  | .usart1RncrR => Sys2Proof.Machine.execUsart1RncrR s
  | .usart1RncrW v => Sys2Proof.Machine.execUsart1RncrW v s
  | .usart1TnprR => Sys2Proof.Machine.execUsart1TnprR s
  | .usart1TnprW v => Sys2Proof.Machine.execUsart1TnprW v s
  | .usart1TncrR => Sys2Proof.Machine.execUsart1TncrR s
  | .usart1TncrW v => Sys2Proof.Machine.execUsart1TncrW v s
  | .usart1PtcrW v => Sys2Proof.Machine.execUsart1PtcrW v s
  | .usart1PtsrR => Sys2Proof.Machine.execUsart1PtsrR s
  | .usart2CrW v => Sys2Proof.Machine.execUsart2CrW v s
  | .usart2MrR => Sys2Proof.Machine.execUsart2MrR s
  | .usart2MrW v => Sys2Proof.Machine.execUsart2MrW v s
  | .usart2IerW v => Sys2Proof.Machine.execUsart2IerW v s
  | .usart2IdrW v => Sys2Proof.Machine.execUsart2IdrW v s
  | .usart2ImrR => Sys2Proof.Machine.execUsart2ImrR s
  | .usart2CsrR => Sys2Proof.Machine.execUsart2CsrR s
  | .usart2RhrR => Sys2Proof.Machine.execUsart2RhrR s
  | .usart2ThrW v => Sys2Proof.Machine.execUsart2ThrW v s
  | .usart2BrgrR => Sys2Proof.Machine.execUsart2BrgrR s
  | .usart2BrgrW v => Sys2Proof.Machine.execUsart2BrgrW v s
  | .usart2RtorR => Sys2Proof.Machine.execUsart2RtorR s
  | .usart2RtorW v => Sys2Proof.Machine.execUsart2RtorW v s
  | .usart2TtgrR => Sys2Proof.Machine.execUsart2TtgrR s
  | .usart2TtgrW v => Sys2Proof.Machine.execUsart2TtgrW v s
  | .usart2FidiR => Sys2Proof.Machine.execUsart2FidiR s
  | .usart2FidiW v => Sys2Proof.Machine.execUsart2FidiW v s
  | .usart2NerR => Sys2Proof.Machine.execUsart2NerR s
  | .usart2IfR => Sys2Proof.Machine.execUsart2IfR s
  | .usart2IfW v => Sys2Proof.Machine.execUsart2IfW v s
  | .usart2ManR => Sys2Proof.Machine.execUsart2ManR s
  | .usart2ManW v => Sys2Proof.Machine.execUsart2ManW v s
  | .usart2RprR => Sys2Proof.Machine.execUsart2RprR s
  | .usart2RprW v => Sys2Proof.Machine.execUsart2RprW v s
  | .usart2RcrR => Sys2Proof.Machine.execUsart2RcrR s
  | .usart2RcrW v => Sys2Proof.Machine.execUsart2RcrW v s
  | .usart2TprR => Sys2Proof.Machine.execUsart2TprR s
  | .usart2TprW v => Sys2Proof.Machine.execUsart2TprW v s
  | .usart2TcrR => Sys2Proof.Machine.execUsart2TcrR s
  | .usart2TcrW v => Sys2Proof.Machine.execUsart2TcrW v s
  | .usart2RnprR => Sys2Proof.Machine.execUsart2RnprR s
  | .usart2RnprW v => Sys2Proof.Machine.execUsart2RnprW v s
  | .usart2RncrR => Sys2Proof.Machine.execUsart2RncrR s
  | .usart2RncrW v => Sys2Proof.Machine.execUsart2RncrW v s
  | .usart2TnprR => Sys2Proof.Machine.execUsart2TnprR s
  | .usart2TnprW v => Sys2Proof.Machine.execUsart2TnprW v s
  | .usart2TncrR => Sys2Proof.Machine.execUsart2TncrR s
  | .usart2TncrW v => Sys2Proof.Machine.execUsart2TncrW v s
  | .usart2PtcrW v => Sys2Proof.Machine.execUsart2PtcrW v s
  | .usart2PtsrR => Sys2Proof.Machine.execUsart2PtsrR s
  | .usart3CrW v => Sys2Proof.Machine.execUsart3CrW v s
  | .usart3MrR => Sys2Proof.Machine.execUsart3MrR s
  | .usart3MrW v => Sys2Proof.Machine.execUsart3MrW v s
  | .usart3IerW v => Sys2Proof.Machine.execUsart3IerW v s
  | .usart3IdrW v => Sys2Proof.Machine.execUsart3IdrW v s
  | .usart3ImrR => Sys2Proof.Machine.execUsart3ImrR s
  | .usart3CsrR => Sys2Proof.Machine.execUsart3CsrR s
  | .usart3RhrR => Sys2Proof.Machine.execUsart3RhrR s
  | .usart3ThrW v => Sys2Proof.Machine.execUsart3ThrW v s
  | .usart3BrgrR => Sys2Proof.Machine.execUsart3BrgrR s
  | .usart3BrgrW v => Sys2Proof.Machine.execUsart3BrgrW v s
  | .usart3RtorR => Sys2Proof.Machine.execUsart3RtorR s
  | .usart3RtorW v => Sys2Proof.Machine.execUsart3RtorW v s
  | .usart3TtgrR => Sys2Proof.Machine.execUsart3TtgrR s
  | .usart3TtgrW v => Sys2Proof.Machine.execUsart3TtgrW v s
  | .usart3FidiR => Sys2Proof.Machine.execUsart3FidiR s
  | .usart3FidiW v => Sys2Proof.Machine.execUsart3FidiW v s
  | .usart3NerR => Sys2Proof.Machine.execUsart3NerR s
  | .usart3IfR => Sys2Proof.Machine.execUsart3IfR s
  | .usart3IfW v => Sys2Proof.Machine.execUsart3IfW v s
  | .usart3ManR => Sys2Proof.Machine.execUsart3ManR s
  | .usart3ManW v => Sys2Proof.Machine.execUsart3ManW v s
  | .usart3RprR => Sys2Proof.Machine.execUsart3RprR s
  | .usart3RprW v => Sys2Proof.Machine.execUsart3RprW v s
  | .usart3RcrR => Sys2Proof.Machine.execUsart3RcrR s
  | .usart3RcrW v => Sys2Proof.Machine.execUsart3RcrW v s
  | .usart3TprR => Sys2Proof.Machine.execUsart3TprR s
  | .usart3TprW v => Sys2Proof.Machine.execUsart3TprW v s
  | .usart3TcrR => Sys2Proof.Machine.execUsart3TcrR s
  | .usart3TcrW v => Sys2Proof.Machine.execUsart3TcrW v s
  | .usart3RnprR => Sys2Proof.Machine.execUsart3RnprR s
  | .usart3RnprW v => Sys2Proof.Machine.execUsart3RnprW v s
  | .usart3RncrR => Sys2Proof.Machine.execUsart3RncrR s
  | .usart3RncrW v => Sys2Proof.Machine.execUsart3RncrW v s
  | .usart3TnprR => Sys2Proof.Machine.execUsart3TnprR s
  | .usart3TnprW v => Sys2Proof.Machine.execUsart3TnprW v s
  | .usart3TncrR => Sys2Proof.Machine.execUsart3TncrR s
  | .usart3TncrW v => Sys2Proof.Machine.execUsart3TncrW v s
  | .usart3PtcrW v => Sys2Proof.Machine.execUsart3PtcrW v s
  | .usart3PtsrR => Sys2Proof.Machine.execUsart3PtsrR s
  | .usart4CrW v => Sys2Proof.Machine.execUsart4CrW v s
  | .usart4MrR => Sys2Proof.Machine.execUsart4MrR s
  | .usart4MrW v => Sys2Proof.Machine.execUsart4MrW v s
  | .usart4IerW v => Sys2Proof.Machine.execUsart4IerW v s
  | .usart4IdrW v => Sys2Proof.Machine.execUsart4IdrW v s
  | .usart4ImrR => Sys2Proof.Machine.execUsart4ImrR s
  | .usart4CsrR => Sys2Proof.Machine.execUsart4CsrR s
  | .usart4RhrR => Sys2Proof.Machine.execUsart4RhrR s
  | .usart4ThrW v => Sys2Proof.Machine.execUsart4ThrW v s
  | .usart4BrgrR => Sys2Proof.Machine.execUsart4BrgrR s
  | .usart4BrgrW v => Sys2Proof.Machine.execUsart4BrgrW v s
  | .usart4RtorR => Sys2Proof.Machine.execUsart4RtorR s
  | .usart4RtorW v => Sys2Proof.Machine.execUsart4RtorW v s
  | .usart4TtgrR => Sys2Proof.Machine.execUsart4TtgrR s
  | .usart4TtgrW v => Sys2Proof.Machine.execUsart4TtgrW v s
  | .usart4FidiR => Sys2Proof.Machine.execUsart4FidiR s
  | .usart4FidiW v => Sys2Proof.Machine.execUsart4FidiW v s
  | .usart4NerR => Sys2Proof.Machine.execUsart4NerR s
  | .usart4IfR => Sys2Proof.Machine.execUsart4IfR s
  | .usart4IfW v => Sys2Proof.Machine.execUsart4IfW v s
  | .usart4ManR => Sys2Proof.Machine.execUsart4ManR s
  | .usart4ManW v => Sys2Proof.Machine.execUsart4ManW v s
  | .usart4RprR => Sys2Proof.Machine.execUsart4RprR s
  | .usart4RprW v => Sys2Proof.Machine.execUsart4RprW v s
  | .usart4RcrR => Sys2Proof.Machine.execUsart4RcrR s
  | .usart4RcrW v => Sys2Proof.Machine.execUsart4RcrW v s
  | .usart4TprR => Sys2Proof.Machine.execUsart4TprR s
  | .usart4TprW v => Sys2Proof.Machine.execUsart4TprW v s
  | .usart4TcrR => Sys2Proof.Machine.execUsart4TcrR s
  | .usart4TcrW v => Sys2Proof.Machine.execUsart4TcrW v s
  | .usart4RnprR => Sys2Proof.Machine.execUsart4RnprR s
  | .usart4RnprW v => Sys2Proof.Machine.execUsart4RnprW v s
  | .usart4RncrR => Sys2Proof.Machine.execUsart4RncrR s
  | .usart4RncrW v => Sys2Proof.Machine.execUsart4RncrW v s
  | .usart4TnprR => Sys2Proof.Machine.execUsart4TnprR s
  | .usart4TnprW v => Sys2Proof.Machine.execUsart4TnprW v s
  | .usart4TncrR => Sys2Proof.Machine.execUsart4TncrR s
  | .usart4TncrW v => Sys2Proof.Machine.execUsart4TncrW v s
  | .usart4PtcrW v => Sys2Proof.Machine.execUsart4PtcrW v s
  | .usart4PtsrR => Sys2Proof.Machine.execUsart4PtsrR s
  | .usart5CrW v => Sys2Proof.Machine.execUsart5CrW v s
  | .usart5MrR => Sys2Proof.Machine.execUsart5MrR s
  | .usart5MrW v => Sys2Proof.Machine.execUsart5MrW v s
  | .usart5IerW v => Sys2Proof.Machine.execUsart5IerW v s
  | .usart5IdrW v => Sys2Proof.Machine.execUsart5IdrW v s
  | .usart5ImrR => Sys2Proof.Machine.execUsart5ImrR s
  | .usart5CsrR => Sys2Proof.Machine.execUsart5CsrR s
  | .usart5RhrR => Sys2Proof.Machine.execUsart5RhrR s
  | .usart5ThrW v => Sys2Proof.Machine.execUsart5ThrW v s
  | .usart5BrgrR => Sys2Proof.Machine.execUsart5BrgrR s
  | .usart5BrgrW v => Sys2Proof.Machine.execUsart5BrgrW v s
  | .usart5RtorR => Sys2Proof.Machine.execUsart5RtorR s
  | .usart5RtorW v => Sys2Proof.Machine.execUsart5RtorW v s
  | .usart5TtgrR => Sys2Proof.Machine.execUsart5TtgrR s
  | .usart5TtgrW v => Sys2Proof.Machine.execUsart5TtgrW v s
  | .usart5FidiR => Sys2Proof.Machine.execUsart5FidiR s
  | .usart5FidiW v => Sys2Proof.Machine.execUsart5FidiW v s
  | .usart5NerR => Sys2Proof.Machine.execUsart5NerR s
  | .usart5IfR => Sys2Proof.Machine.execUsart5IfR s
  | .usart5IfW v => Sys2Proof.Machine.execUsart5IfW v s
  | .usart5ManR => Sys2Proof.Machine.execUsart5ManR s
  | .usart5ManW v => Sys2Proof.Machine.execUsart5ManW v s
  | .usart5RprR => Sys2Proof.Machine.execUsart5RprR s
  | .usart5RprW v => Sys2Proof.Machine.execUsart5RprW v s
  | .usart5RcrR => Sys2Proof.Machine.execUsart5RcrR s
  | .usart5RcrW v => Sys2Proof.Machine.execUsart5RcrW v s
  | .usart5TprR => Sys2Proof.Machine.execUsart5TprR s
  | .usart5TprW v => Sys2Proof.Machine.execUsart5TprW v s
  | .usart5TcrR => Sys2Proof.Machine.execUsart5TcrR s
  | .usart5TcrW v => Sys2Proof.Machine.execUsart5TcrW v s
  | .usart5RnprR => Sys2Proof.Machine.execUsart5RnprR s
  | .usart5RnprW v => Sys2Proof.Machine.execUsart5RnprW v s
  | .usart5RncrR => Sys2Proof.Machine.execUsart5RncrR s
  | .usart5RncrW v => Sys2Proof.Machine.execUsart5RncrW v s
  | .usart5TnprR => Sys2Proof.Machine.execUsart5TnprR s
  | .usart5TnprW v => Sys2Proof.Machine.execUsart5TnprW v s
  | .usart5TncrR => Sys2Proof.Machine.execUsart5TncrR s
  | .usart5TncrW v => Sys2Proof.Machine.execUsart5TncrW v s
  | .usart5PtcrW v => Sys2Proof.Machine.execUsart5PtcrW v s
  | .usart5PtsrR => Sys2Proof.Machine.execUsart5PtsrR s
  | .spi0CrW v => Sys2Proof.Machine.execSpi0CrW v s
  | .spi0MrR => Sys2Proof.Machine.execSpi0MrR s
  | .spi0MrW v => Sys2Proof.Machine.execSpi0MrW v s
  | .spi0RdrR => Sys2Proof.Machine.execSpi0RdrR s
  | .spi0TdrW v => Sys2Proof.Machine.execSpi0TdrW v s
  | .spi0SrR => Sys2Proof.Machine.execSpi0SrR s
  | .spi0IerW v => Sys2Proof.Machine.execSpi0IerW v s
  | .spi0IdrW v => Sys2Proof.Machine.execSpi0IdrW v s
  | .spi0ImrR => Sys2Proof.Machine.execSpi0ImrR s
  | .spi0CsrR k => Sys2Proof.Machine.execSpi0CsrR k s
  | .spi0CsrW k v => Sys2Proof.Machine.execSpi0CsrW k v s
  | .spi0RprR => Sys2Proof.Machine.execSpi0RprR s
  | .spi0RprW v => Sys2Proof.Machine.execSpi0RprW v s
  | .spi0RcrR => Sys2Proof.Machine.execSpi0RcrR s
  | .spi0RcrW v => Sys2Proof.Machine.execSpi0RcrW v s
  | .spi0TprR => Sys2Proof.Machine.execSpi0TprR s
  | .spi0TprW v => Sys2Proof.Machine.execSpi0TprW v s
  | .spi0TcrR => Sys2Proof.Machine.execSpi0TcrR s
  | .spi0TcrW v => Sys2Proof.Machine.execSpi0TcrW v s
  | .spi0RnprR => Sys2Proof.Machine.execSpi0RnprR s
  | .spi0RnprW v => Sys2Proof.Machine.execSpi0RnprW v s
  | .spi0RncrR => Sys2Proof.Machine.execSpi0RncrR s
  | .spi0RncrW v => Sys2Proof.Machine.execSpi0RncrW v s
  | .spi0TnprR => Sys2Proof.Machine.execSpi0TnprR s
  | .spi0TnprW v => Sys2Proof.Machine.execSpi0TnprW v s
  | .spi0TncrR => Sys2Proof.Machine.execSpi0TncrR s
  | .spi0TncrW v => Sys2Proof.Machine.execSpi0TncrW v s
  | .spi0PtcrW v => Sys2Proof.Machine.execSpi0PtcrW v s
  | .spi0PtsrR => Sys2Proof.Machine.execSpi0PtsrR s
  | .spi1CrW v => Sys2Proof.Machine.execSpi1CrW v s
  | .spi1MrR => Sys2Proof.Machine.execSpi1MrR s
  | .spi1MrW v => Sys2Proof.Machine.execSpi1MrW v s
  | .spi1RdrR => Sys2Proof.Machine.execSpi1RdrR s
  | .spi1TdrW v => Sys2Proof.Machine.execSpi1TdrW v s
  | .spi1SrR => Sys2Proof.Machine.execSpi1SrR s
  | .spi1IerW v => Sys2Proof.Machine.execSpi1IerW v s
  | .spi1IdrW v => Sys2Proof.Machine.execSpi1IdrW v s
  | .spi1ImrR => Sys2Proof.Machine.execSpi1ImrR s
  | .spi1CsrR k => Sys2Proof.Machine.execSpi1CsrR k s
  | .spi1CsrW k v => Sys2Proof.Machine.execSpi1CsrW k v s
  | .spi1RprR => Sys2Proof.Machine.execSpi1RprR s
  | .spi1RprW v => Sys2Proof.Machine.execSpi1RprW v s
  | .spi1RcrR => Sys2Proof.Machine.execSpi1RcrR s
  | .spi1RcrW v => Sys2Proof.Machine.execSpi1RcrW v s
  | .spi1TprR => Sys2Proof.Machine.execSpi1TprR s
  | .spi1TprW v => Sys2Proof.Machine.execSpi1TprW v s
  | .spi1TcrR => Sys2Proof.Machine.execSpi1TcrR s
  | .spi1TcrW v => Sys2Proof.Machine.execSpi1TcrW v s
  | .spi1RnprR => Sys2Proof.Machine.execSpi1RnprR s
  | .spi1RnprW v => Sys2Proof.Machine.execSpi1RnprW v s
  | .spi1RncrR => Sys2Proof.Machine.execSpi1RncrR s
  | .spi1RncrW v => Sys2Proof.Machine.execSpi1RncrW v s
  | .spi1TnprR => Sys2Proof.Machine.execSpi1TnprR s
  | .spi1TnprW v => Sys2Proof.Machine.execSpi1TnprW v s
  | .spi1TncrR => Sys2Proof.Machine.execSpi1TncrR s
  | .spi1TncrW v => Sys2Proof.Machine.execSpi1TncrW v s
  | .spi1PtcrW v => Sys2Proof.Machine.execSpi1PtcrW v s
  | .spi1PtsrR => Sys2Proof.Machine.execSpi1PtsrR s
  | .twiCrW v => Sys2Proof.Machine.execTwiCrW v s
  | .twiMmrR => Sys2Proof.Machine.execTwiMmrR s
  | .twiMmrW v => Sys2Proof.Machine.execTwiMmrW v s
  | .twiSmrR => Sys2Proof.Machine.execTwiSmrR s
  | .twiSmrW v => Sys2Proof.Machine.execTwiSmrW v s
  | .twiIadrR => Sys2Proof.Machine.execTwiIadrR s
  | .twiIadrW v => Sys2Proof.Machine.execTwiIadrW v s
  | .twiCwgrR => Sys2Proof.Machine.execTwiCwgrR s
  | .twiCwgrW v => Sys2Proof.Machine.execTwiCwgrW v s
  | .twiSrR => Sys2Proof.Machine.execTwiSrR s
  | .twiIerW v => Sys2Proof.Machine.execTwiIerW v s
  | .twiIdrW v => Sys2Proof.Machine.execTwiIdrW v s
  | .twiImrR => Sys2Proof.Machine.execTwiImrR s
  | .twiRhrR => Sys2Proof.Machine.execTwiRhrR s
  | .twiThrW v => Sys2Proof.Machine.execTwiThrW v s
  | .twiRprR => Sys2Proof.Machine.execTwiRprR s
  | .twiRprW v => Sys2Proof.Machine.execTwiRprW v s
  | .twiRcrR => Sys2Proof.Machine.execTwiRcrR s
  | .twiRcrW v => Sys2Proof.Machine.execTwiRcrW v s
  | .twiTprR => Sys2Proof.Machine.execTwiTprR s
  | .twiTprW v => Sys2Proof.Machine.execTwiTprW v s
  | .twiTcrR => Sys2Proof.Machine.execTwiTcrR s
  | .twiTcrW v => Sys2Proof.Machine.execTwiTcrW v s
  | .twiRnprR => Sys2Proof.Machine.execTwiRnprR s
  | .twiRnprW v => Sys2Proof.Machine.execTwiRnprW v s
  | .twiRncrR => Sys2Proof.Machine.execTwiRncrR s
  | .twiRncrW v => Sys2Proof.Machine.execTwiRncrW v s
  | .twiTnprR => Sys2Proof.Machine.execTwiTnprR s
  | .twiTnprW v => Sys2Proof.Machine.execTwiTnprW v s
  | .twiTncrR => Sys2Proof.Machine.execTwiTncrR s
  | .twiTncrW v => Sys2Proof.Machine.execTwiTncrW v s
  | .twiPtcrW v => Sys2Proof.Machine.execTwiPtcrW v s
  | .twiPtsrR => Sys2Proof.Machine.execTwiPtsrR s
  | .mciCrW v => Sys2Proof.Machine.execMciCrW v s
  | .mciMrR => Sys2Proof.Machine.execMciMrR s
  | .mciMrW v => Sys2Proof.Machine.execMciMrW v s
  | .mciDtorR => Sys2Proof.Machine.execMciDtorR s
  | .mciDtorW v => Sys2Proof.Machine.execMciDtorW v s
  | .mciSdcrR => Sys2Proof.Machine.execMciSdcrR s
  | .mciSdcrW v => Sys2Proof.Machine.execMciSdcrW v s
  | .mciArgrR => Sys2Proof.Machine.execMciArgrR s
  | .mciArgrW v => Sys2Proof.Machine.execMciArgrW v s
  | .mciCmdrW v => Sys2Proof.Machine.execMciCmdrW v s
  | .mciBlkrR => Sys2Proof.Machine.execMciBlkrR s
  | .mciBlkrW v => Sys2Proof.Machine.execMciBlkrW v s
  | .mciRsprR k => Sys2Proof.Machine.execMciRsprR k s
  | .mciRdrR => Sys2Proof.Machine.execMciRdrR s
  | .mciTdrW v => Sys2Proof.Machine.execMciTdrW v s
  | .mciSrR => Sys2Proof.Machine.execMciSrR s
  | .mciIerW v => Sys2Proof.Machine.execMciIerW v s
  | .mciIdrW v => Sys2Proof.Machine.execMciIdrW v s
  | .mciImrR => Sys2Proof.Machine.execMciImrR s
  | .mciRprR => Sys2Proof.Machine.execMciRprR s
  | .mciRprW v => Sys2Proof.Machine.execMciRprW v s
  | .mciRcrR => Sys2Proof.Machine.execMciRcrR s
  | .mciRcrW v => Sys2Proof.Machine.execMciRcrW v s
  | .mciTprR => Sys2Proof.Machine.execMciTprR s
  | .mciTprW v => Sys2Proof.Machine.execMciTprW v s
  | .mciTcrR => Sys2Proof.Machine.execMciTcrR s
  | .mciTcrW v => Sys2Proof.Machine.execMciTcrW v s
  | .mciRnprR => Sys2Proof.Machine.execMciRnprR s
  | .mciRnprW v => Sys2Proof.Machine.execMciRnprW v s
  | .mciRncrR => Sys2Proof.Machine.execMciRncrR s
  | .mciRncrW v => Sys2Proof.Machine.execMciRncrW v s
  | .mciTnprR => Sys2Proof.Machine.execMciTnprR s
  | .mciTnprW v => Sys2Proof.Machine.execMciTnprW v s
  | .mciTncrR => Sys2Proof.Machine.execMciTncrR s
  | .mciTncrW v => Sys2Proof.Machine.execMciTncrW v s
  | .mciPtcrW v => Sys2Proof.Machine.execMciPtcrW v s
  | .mciPtsrR => Sys2Proof.Machine.execMciPtsrR s
  | .tcb0Ch0CcrW v => Sys2Proof.Machine.execTcb0Ch0CcrW v s
  | .tcb0Ch0CmrR => Sys2Proof.Machine.execTcb0Ch0CmrR s
  | .tcb0Ch0CmrW v => Sys2Proof.Machine.execTcb0Ch0CmrW v s
  | .tcb0Ch0CvR => Sys2Proof.Machine.execTcb0Ch0CvR s
  | .tcb0Ch0RaR => Sys2Proof.Machine.execTcb0Ch0RaR s
  | .tcb0Ch0RaW v => Sys2Proof.Machine.execTcb0Ch0RaW v s
  | .tcb0Ch0RbR => Sys2Proof.Machine.execTcb0Ch0RbR s
  | .tcb0Ch0RbW v => Sys2Proof.Machine.execTcb0Ch0RbW v s
  | .tcb0Ch0RcR => Sys2Proof.Machine.execTcb0Ch0RcR s
  | .tcb0Ch0RcW v => Sys2Proof.Machine.execTcb0Ch0RcW v s
  | .tcb0Ch0SrR => Sys2Proof.Machine.execTcb0Ch0SrR s
  | .tcb0Ch0IerW v => Sys2Proof.Machine.execTcb0Ch0IerW v s
  | .tcb0Ch0IdrW v => Sys2Proof.Machine.execTcb0Ch0IdrW v s
  | .tcb0Ch0ImrR => Sys2Proof.Machine.execTcb0Ch0ImrR s
  | .tcb0Ch1CcrW v => Sys2Proof.Machine.execTcb0Ch1CcrW v s
  | .tcb0Ch1CmrR => Sys2Proof.Machine.execTcb0Ch1CmrR s
  | .tcb0Ch1CmrW v => Sys2Proof.Machine.execTcb0Ch1CmrW v s
  | .tcb0Ch1CvR => Sys2Proof.Machine.execTcb0Ch1CvR s
  | .tcb0Ch1RaR => Sys2Proof.Machine.execTcb0Ch1RaR s
  | .tcb0Ch1RaW v => Sys2Proof.Machine.execTcb0Ch1RaW v s
  | .tcb0Ch1RbR => Sys2Proof.Machine.execTcb0Ch1RbR s
  | .tcb0Ch1RbW v => Sys2Proof.Machine.execTcb0Ch1RbW v s
  | .tcb0Ch1RcR => Sys2Proof.Machine.execTcb0Ch1RcR s
  | .tcb0Ch1RcW v => Sys2Proof.Machine.execTcb0Ch1RcW v s
  | .tcb0Ch1SrR => Sys2Proof.Machine.execTcb0Ch1SrR s
  | .tcb0Ch1IerW v => Sys2Proof.Machine.execTcb0Ch1IerW v s
  | .tcb0Ch1IdrW v => Sys2Proof.Machine.execTcb0Ch1IdrW v s
  | .tcb0Ch1ImrR => Sys2Proof.Machine.execTcb0Ch1ImrR s
  | .tcb0Ch2CcrW v => Sys2Proof.Machine.execTcb0Ch2CcrW v s
  | .tcb0Ch2CmrR => Sys2Proof.Machine.execTcb0Ch2CmrR s
  | .tcb0Ch2CmrW v => Sys2Proof.Machine.execTcb0Ch2CmrW v s
  | .tcb0Ch2CvR => Sys2Proof.Machine.execTcb0Ch2CvR s
  | .tcb0Ch2RaR => Sys2Proof.Machine.execTcb0Ch2RaR s
  | .tcb0Ch2RaW v => Sys2Proof.Machine.execTcb0Ch2RaW v s
  | .tcb0Ch2RbR => Sys2Proof.Machine.execTcb0Ch2RbR s
  | .tcb0Ch2RbW v => Sys2Proof.Machine.execTcb0Ch2RbW v s
  | .tcb0Ch2RcR => Sys2Proof.Machine.execTcb0Ch2RcR s
  | .tcb0Ch2RcW v => Sys2Proof.Machine.execTcb0Ch2RcW v s
  | .tcb0Ch2SrR => Sys2Proof.Machine.execTcb0Ch2SrR s
  | .tcb0Ch2IerW v => Sys2Proof.Machine.execTcb0Ch2IerW v s
  | .tcb0Ch2IdrW v => Sys2Proof.Machine.execTcb0Ch2IdrW v s
  | .tcb0Ch2ImrR => Sys2Proof.Machine.execTcb0Ch2ImrR s
  | .tcb0BcrW v => Sys2Proof.Machine.execTcb0BcrW v s
  | .tcb0BmrR => Sys2Proof.Machine.execTcb0BmrR s
  | .tcb0BmrW v => Sys2Proof.Machine.execTcb0BmrW v s
  | .tcb1Ch0CcrW v => Sys2Proof.Machine.execTcb1Ch0CcrW v s
  | .tcb1Ch0CmrR => Sys2Proof.Machine.execTcb1Ch0CmrR s
  | .tcb1Ch0CmrW v => Sys2Proof.Machine.execTcb1Ch0CmrW v s
  | .tcb1Ch0CvR => Sys2Proof.Machine.execTcb1Ch0CvR s
  | .tcb1Ch0RaR => Sys2Proof.Machine.execTcb1Ch0RaR s
  | .tcb1Ch0RaW v => Sys2Proof.Machine.execTcb1Ch0RaW v s
  | .tcb1Ch0RbR => Sys2Proof.Machine.execTcb1Ch0RbR s
  | .tcb1Ch0RbW v => Sys2Proof.Machine.execTcb1Ch0RbW v s
  | .tcb1Ch0RcR => Sys2Proof.Machine.execTcb1Ch0RcR s
  | .tcb1Ch0RcW v => Sys2Proof.Machine.execTcb1Ch0RcW v s
  | .tcb1Ch0SrR => Sys2Proof.Machine.execTcb1Ch0SrR s
  | .tcb1Ch0IerW v => Sys2Proof.Machine.execTcb1Ch0IerW v s
  | .tcb1Ch0IdrW v => Sys2Proof.Machine.execTcb1Ch0IdrW v s
  | .tcb1Ch0ImrR => Sys2Proof.Machine.execTcb1Ch0ImrR s
  | .tcb1Ch1CcrW v => Sys2Proof.Machine.execTcb1Ch1CcrW v s
  | .tcb1Ch1CmrR => Sys2Proof.Machine.execTcb1Ch1CmrR s
  | .tcb1Ch1CmrW v => Sys2Proof.Machine.execTcb1Ch1CmrW v s
  | .tcb1Ch1CvR => Sys2Proof.Machine.execTcb1Ch1CvR s
  | .tcb1Ch1RaR => Sys2Proof.Machine.execTcb1Ch1RaR s
  | .tcb1Ch1RaW v => Sys2Proof.Machine.execTcb1Ch1RaW v s
  | .tcb1Ch1RbR => Sys2Proof.Machine.execTcb1Ch1RbR s
  | .tcb1Ch1RbW v => Sys2Proof.Machine.execTcb1Ch1RbW v s
  | .tcb1Ch1RcR => Sys2Proof.Machine.execTcb1Ch1RcR s
  | .tcb1Ch1RcW v => Sys2Proof.Machine.execTcb1Ch1RcW v s
  | .tcb1Ch1SrR => Sys2Proof.Machine.execTcb1Ch1SrR s
  | .tcb1Ch1IerW v => Sys2Proof.Machine.execTcb1Ch1IerW v s
  | .tcb1Ch1IdrW v => Sys2Proof.Machine.execTcb1Ch1IdrW v s
  | .tcb1Ch1ImrR => Sys2Proof.Machine.execTcb1Ch1ImrR s
  | .tcb1Ch2CcrW v => Sys2Proof.Machine.execTcb1Ch2CcrW v s
  | .tcb1Ch2CmrR => Sys2Proof.Machine.execTcb1Ch2CmrR s
  | .tcb1Ch2CmrW v => Sys2Proof.Machine.execTcb1Ch2CmrW v s
  | .tcb1Ch2CvR => Sys2Proof.Machine.execTcb1Ch2CvR s
  | .tcb1Ch2RaR => Sys2Proof.Machine.execTcb1Ch2RaR s
  | .tcb1Ch2RaW v => Sys2Proof.Machine.execTcb1Ch2RaW v s
  | .tcb1Ch2RbR => Sys2Proof.Machine.execTcb1Ch2RbR s
  | .tcb1Ch2RbW v => Sys2Proof.Machine.execTcb1Ch2RbW v s
  | .tcb1Ch2RcR => Sys2Proof.Machine.execTcb1Ch2RcR s
  | .tcb1Ch2RcW v => Sys2Proof.Machine.execTcb1Ch2RcW v s
  | .tcb1Ch2SrR => Sys2Proof.Machine.execTcb1Ch2SrR s
  | .tcb1Ch2IerW v => Sys2Proof.Machine.execTcb1Ch2IerW v s
  | .tcb1Ch2IdrW v => Sys2Proof.Machine.execTcb1Ch2IdrW v s
  | .tcb1Ch2ImrR => Sys2Proof.Machine.execTcb1Ch2ImrR s
  | .tcb1BcrW v => Sys2Proof.Machine.execTcb1BcrW v s
  | .tcb1BmrR => Sys2Proof.Machine.execTcb1BmrR s
  | .tcb1BmrW v => Sys2Proof.Machine.execTcb1BmrW v s
  | .pitMrR => Sys2Proof.Machine.execPitMrR s
  | .pitMrW v => Sys2Proof.Machine.execPitMrW v s
  | .pitSrR => Sys2Proof.Machine.execPitSrR s
  | .pitPivrR => Sys2Proof.Machine.execPitPivrR s
  | .pitPiirR => Sys2Proof.Machine.execPitPiirR s
  | .rttMrR => Sys2Proof.Machine.execRttMrR s
  | .rttMrW v => Sys2Proof.Machine.execRttMrW v s
  | .rttArR => Sys2Proof.Machine.execRttArR s
  | .rttArW v => Sys2Proof.Machine.execRttArW v s
  | .rttVrR => Sys2Proof.Machine.execRttVrR s
  | .rttSrR => Sys2Proof.Machine.execRttSrR s
  | .dbguCrW v => Sys2Proof.Machine.execDbguCrW v s
  | .dbguMrR => Sys2Proof.Machine.execDbguMrR s
  | .dbguMrW v => Sys2Proof.Machine.execDbguMrW v s
  | .dbguIerW v => Sys2Proof.Machine.execDbguIerW v s
  | .dbguIdrW v => Sys2Proof.Machine.execDbguIdrW v s
  | .dbguImrR => Sys2Proof.Machine.execDbguImrR s
  | .dbguSrR => Sys2Proof.Machine.execDbguSrR s
  | .dbguRhrR => Sys2Proof.Machine.execDbguRhrR s
  | .dbguThrW v => Sys2Proof.Machine.execDbguThrW v s
  | .dbguBrgrR => Sys2Proof.Machine.execDbguBrgrR s
  | .dbguBrgrW v => Sys2Proof.Machine.execDbguBrgrW v s
  | .dbguCidrR => Sys2Proof.Machine.execDbguCidrR s
  | .dbguExidR => Sys2Proof.Machine.execDbguExidR s
  | .pioaPerW v => Sys2Proof.Machine.execPioaPerW v s
  | .pioaPdrW v => Sys2Proof.Machine.execPioaPdrW v s
  | .pioaPsrR => Sys2Proof.Machine.execPioaPsrR s
  | .pioaOerW v => Sys2Proof.Machine.execPioaOerW v s
  | .pioaOdrW v => Sys2Proof.Machine.execPioaOdrW v s
  | .pioaOsrR => Sys2Proof.Machine.execPioaOsrR s
  | .pioaIferW v => Sys2Proof.Machine.execPioaIferW v s
  | .pioaIfdrW v => Sys2Proof.Machine.execPioaIfdrW v s
  | .pioaIfsrR => Sys2Proof.Machine.execPioaIfsrR s
  | .pioaSodrW v => Sys2Proof.Machine.execPioaSodrW v s
  | .pioaCodrW v => Sys2Proof.Machine.execPioaCodrW v s
  | .pioaOdsrR => Sys2Proof.Machine.execPioaOdsrR s
  | .pioaOdsrW v => Sys2Proof.Machine.execPioaOdsrW v s
  | .pioaPdsrR => Sys2Proof.Machine.execPioaPdsrR s
  | .pioaIerW v => Sys2Proof.Machine.execPioaIerW v s
  | .pioaIdrW v => Sys2Proof.Machine.execPioaIdrW v s
  | .pioaImrR => Sys2Proof.Machine.execPioaImrR s
  | .pioaIsrR => Sys2Proof.Machine.execPioaIsrR s
  | .pioaMderW v => Sys2Proof.Machine.execPioaMderW v s
  | .pioaMddrW v => Sys2Proof.Machine.execPioaMddrW v s
  | .pioaMdsrR => Sys2Proof.Machine.execPioaMdsrR s
  | .pioaPudrW v => Sys2Proof.Machine.execPioaPudrW v s
  | .pioaPuerW v => Sys2Proof.Machine.execPioaPuerW v s
  | .pioaPusrR => Sys2Proof.Machine.execPioaPusrR s
  | .pioaAsrW v => Sys2Proof.Machine.execPioaAsrW v s
  | .pioaBsrW v => Sys2Proof.Machine.execPioaBsrW v s
  | .pioaAbsrR => Sys2Proof.Machine.execPioaAbsrR s
  | .pioaOwerW v => Sys2Proof.Machine.execPioaOwerW v s
  | .pioaOwdrW v => Sys2Proof.Machine.execPioaOwdrW v s
  | .pioaOwsrR => Sys2Proof.Machine.execPioaOwsrR s
  | .piobPerW v => Sys2Proof.Machine.execPiobPerW v s
  | .piobPdrW v => Sys2Proof.Machine.execPiobPdrW v s
  | .piobPsrR => Sys2Proof.Machine.execPiobPsrR s
  | .piobOerW v => Sys2Proof.Machine.execPiobOerW v s
  | .piobOdrW v => Sys2Proof.Machine.execPiobOdrW v s
  | .piobOsrR => Sys2Proof.Machine.execPiobOsrR s
  | .piobIferW v => Sys2Proof.Machine.execPiobIferW v s
  | .piobIfdrW v => Sys2Proof.Machine.execPiobIfdrW v s
  | .piobIfsrR => Sys2Proof.Machine.execPiobIfsrR s
  | .piobSodrW v => Sys2Proof.Machine.execPiobSodrW v s
  | .piobCodrW v => Sys2Proof.Machine.execPiobCodrW v s
  | .piobOdsrR => Sys2Proof.Machine.execPiobOdsrR s
  | .piobOdsrW v => Sys2Proof.Machine.execPiobOdsrW v s
  | .piobPdsrR => Sys2Proof.Machine.execPiobPdsrR s
  | .piobIerW v => Sys2Proof.Machine.execPiobIerW v s
  | .piobIdrW v => Sys2Proof.Machine.execPiobIdrW v s
  | .piobImrR => Sys2Proof.Machine.execPiobImrR s
  | .piobIsrR => Sys2Proof.Machine.execPiobIsrR s
  | .piobMderW v => Sys2Proof.Machine.execPiobMderW v s
  | .piobMddrW v => Sys2Proof.Machine.execPiobMddrW v s
  | .piobMdsrR => Sys2Proof.Machine.execPiobMdsrR s
  | .piobPudrW v => Sys2Proof.Machine.execPiobPudrW v s
  | .piobPuerW v => Sys2Proof.Machine.execPiobPuerW v s
  | .piobPusrR => Sys2Proof.Machine.execPiobPusrR s
  | .piobAsrW v => Sys2Proof.Machine.execPiobAsrW v s
  | .piobBsrW v => Sys2Proof.Machine.execPiobBsrW v s
  | .piobAbsrR => Sys2Proof.Machine.execPiobAbsrR s
  | .piobOwerW v => Sys2Proof.Machine.execPiobOwerW v s
  | .piobOwdrW v => Sys2Proof.Machine.execPiobOwdrW v s
  | .piobOwsrR => Sys2Proof.Machine.execPiobOwsrR s
  | .piocPerW v => Sys2Proof.Machine.execPiocPerW v s
  | .piocPdrW v => Sys2Proof.Machine.execPiocPdrW v s
  | .piocPsrR => Sys2Proof.Machine.execPiocPsrR s
  | .piocOerW v => Sys2Proof.Machine.execPiocOerW v s
  | .piocOdrW v => Sys2Proof.Machine.execPiocOdrW v s
  | .piocOsrR => Sys2Proof.Machine.execPiocOsrR s
  | .piocIferW v => Sys2Proof.Machine.execPiocIferW v s
  | .piocIfdrW v => Sys2Proof.Machine.execPiocIfdrW v s
  | .piocIfsrR => Sys2Proof.Machine.execPiocIfsrR s
  | .piocSodrW v => Sys2Proof.Machine.execPiocSodrW v s
  | .piocCodrW v => Sys2Proof.Machine.execPiocCodrW v s
  | .piocOdsrR => Sys2Proof.Machine.execPiocOdsrR s
  | .piocOdsrW v => Sys2Proof.Machine.execPiocOdsrW v s
  | .piocPdsrR => Sys2Proof.Machine.execPiocPdsrR s
  | .piocIerW v => Sys2Proof.Machine.execPiocIerW v s
  | .piocIdrW v => Sys2Proof.Machine.execPiocIdrW v s
  | .piocImrR => Sys2Proof.Machine.execPiocImrR s
  | .piocIsrR => Sys2Proof.Machine.execPiocIsrR s
  | .piocMderW v => Sys2Proof.Machine.execPiocMderW v s
  | .piocMddrW v => Sys2Proof.Machine.execPiocMddrW v s
  | .piocMdsrR => Sys2Proof.Machine.execPiocMdsrR s
  | .piocPudrW v => Sys2Proof.Machine.execPiocPudrW v s
  | .piocPuerW v => Sys2Proof.Machine.execPiocPuerW v s
  | .piocPusrR => Sys2Proof.Machine.execPiocPusrR s
  | .piocAsrW v => Sys2Proof.Machine.execPiocAsrW v s
  | .piocBsrW v => Sys2Proof.Machine.execPiocBsrW v s
  | .piocAbsrR => Sys2Proof.Machine.execPiocAbsrR s
  | .piocOwerW v => Sys2Proof.Machine.execPiocOwerW v s
  | .piocOwdrW v => Sys2Proof.Machine.execPiocOwdrW v s
  | .piocOwsrR => Sys2Proof.Machine.execPiocOwsrR s
  | .pmcScerW v => Sys2Proof.Machine.execPmcScerW v s
  | .pmcScdrW v => Sys2Proof.Machine.execPmcScdrW v s
  | .pmcScsrR => Sys2Proof.Machine.execPmcScsrR s
  | .pmcPcerW v => Sys2Proof.Machine.execPmcPcerW v s
  | .pmcPcdrW v => Sys2Proof.Machine.execPmcPcdrW v s
  | .pmcPcsrR => Sys2Proof.Machine.execPmcPcsrR s
  | .pmcCkgrMorR => Sys2Proof.Machine.execPmcCkgrMorR s
  | .pmcCkgrMorW v => Sys2Proof.Machine.execPmcCkgrMorW v s
  | .pmcCkgrMcfrR => Sys2Proof.Machine.execPmcCkgrMcfrR s
  | .pmcCkgrPllarR => Sys2Proof.Machine.execPmcCkgrPllarR s
  | .pmcCkgrPllarW v => Sys2Proof.Machine.execPmcCkgrPllarW v s
  | .pmcCkgrPllbrR => Sys2Proof.Machine.execPmcCkgrPllbrR s
  | .pmcCkgrPllbrW v => Sys2Proof.Machine.execPmcCkgrPllbrW v s
  | .pmcMckrR => Sys2Proof.Machine.execPmcMckrR s
  | .pmcMckrW v => Sys2Proof.Machine.execPmcMckrW v s
  | .pmcPck0R => Sys2Proof.Machine.execPmcPck0R s
  | .pmcPck0W v => Sys2Proof.Machine.execPmcPck0W v s
  | .pmcPck1R => Sys2Proof.Machine.execPmcPck1R s
  | .pmcPck1W v => Sys2Proof.Machine.execPmcPck1W v s
  | .pmcIerW v => Sys2Proof.Machine.execPmcIerW v s
  | .pmcIdrW v => Sys2Proof.Machine.execPmcIdrW v s
  | .pmcSrR => Sys2Proof.Machine.execPmcSrR s
  | .pmcImrR => Sys2Proof.Machine.execPmcImrR s
  | .pmcPllicprR => Sys2Proof.Machine.execPmcPllicprR s
  | .pmcPllicprW v => Sys2Proof.Machine.execPmcPllicprW v s
  | .matrixMcfg0R => Sys2Proof.Machine.execMatrixMcfg0R s
  | .matrixMcfg0W v => Sys2Proof.Machine.execMatrixMcfg0W v s
  | .matrixMcfg1R => Sys2Proof.Machine.execMatrixMcfg1R s
  | .matrixMcfg1W v => Sys2Proof.Machine.execMatrixMcfg1W v s
  | .matrixMcfg2R => Sys2Proof.Machine.execMatrixMcfg2R s
  | .matrixMcfg2W v => Sys2Proof.Machine.execMatrixMcfg2W v s
  | .matrixMcfg3R => Sys2Proof.Machine.execMatrixMcfg3R s
  | .matrixMcfg3W v => Sys2Proof.Machine.execMatrixMcfg3W v s
  | .matrixMcfg4R => Sys2Proof.Machine.execMatrixMcfg4R s
  | .matrixMcfg4W v => Sys2Proof.Machine.execMatrixMcfg4W v s
  | .matrixMcfg5R => Sys2Proof.Machine.execMatrixMcfg5R s
  | .matrixMcfg5W v => Sys2Proof.Machine.execMatrixMcfg5W v s
  | .matrixScfg0R => Sys2Proof.Machine.execMatrixScfg0R s
  | .matrixScfg0W v => Sys2Proof.Machine.execMatrixScfg0W v s
  | .matrixScfg1R => Sys2Proof.Machine.execMatrixScfg1R s
  | .matrixScfg1W v => Sys2Proof.Machine.execMatrixScfg1W v s
  | .matrixScfg2R => Sys2Proof.Machine.execMatrixScfg2R s
  | .matrixScfg2W v => Sys2Proof.Machine.execMatrixScfg2W v s
  | .matrixScfg3R => Sys2Proof.Machine.execMatrixScfg3R s
  | .matrixScfg3W v => Sys2Proof.Machine.execMatrixScfg3W v s
  | .matrixScfg4R => Sys2Proof.Machine.execMatrixScfg4R s
  | .matrixScfg4W v => Sys2Proof.Machine.execMatrixScfg4W v s
  | .matrixPras0R => Sys2Proof.Machine.execMatrixPras0R s
  | .matrixPras0W v => Sys2Proof.Machine.execMatrixPras0W v s
  | .matrixPras1R => Sys2Proof.Machine.execMatrixPras1R s
  | .matrixPras1W v => Sys2Proof.Machine.execMatrixPras1W v s
  | .matrixPras2R => Sys2Proof.Machine.execMatrixPras2R s
  | .matrixPras2W v => Sys2Proof.Machine.execMatrixPras2W v s
  | .matrixPras3R => Sys2Proof.Machine.execMatrixPras3R s
  | .matrixPras3W v => Sys2Proof.Machine.execMatrixPras3W v s
  | .matrixPras4R => Sys2Proof.Machine.execMatrixPras4R s
  | .matrixPras4W v => Sys2Proof.Machine.execMatrixPras4W v s
  | .matrixMrcrR => Sys2Proof.Machine.execMatrixMrcrR s
  | .matrixMrcrW v => Sys2Proof.Machine.execMatrixMrcrW v s
  | .matrixEbiCsaR => Sys2Proof.Machine.execMatrixEbiCsaR s
  | .matrixEbiCsaW v => Sys2Proof.Machine.execMatrixEbiCsaW v s
  | .rstcCrW v => Sys2Proof.Machine.execRstcCrW v s
  | .rstcSrR => Sys2Proof.Machine.execRstcSrR s
  | .rstcMrR => Sys2Proof.Machine.execRstcMrR s
  | .rstcMrW v => Sys2Proof.Machine.execRstcMrW v s
  | .sdramcMrR => Sys2Proof.Machine.execSdramcMrR s
  | .sdramcMrW v => Sys2Proof.Machine.execSdramcMrW v s
  | .sdramcTrR => Sys2Proof.Machine.execSdramcTrR s
  | .sdramcTrW v => Sys2Proof.Machine.execSdramcTrW v s
  | .sdramcCrR => Sys2Proof.Machine.execSdramcCrR s
  | .sdramcCrW v => Sys2Proof.Machine.execSdramcCrW v s
  | .sdramcLprR => Sys2Proof.Machine.execSdramcLprR s
  | .sdramcLprW v => Sys2Proof.Machine.execSdramcLprW v s
  | .sdramcIerW v => Sys2Proof.Machine.execSdramcIerW v s
  | .sdramcIdrW v => Sys2Proof.Machine.execSdramcIdrW v s
  | .sdramcImrR => Sys2Proof.Machine.execSdramcImrR s
  | .sdramcIsrR => Sys2Proof.Machine.execSdramcIsrR s
  | .sdramcMdrR => Sys2Proof.Machine.execSdramcMdrR s
  | .sdramcMdrW v => Sys2Proof.Machine.execSdramcMdrW v s
  | .usartDataIn u seq payload => Sys2Proof.Machine.execUsartDataIn u seq payload s
  | .usartDataOut u payload => Sys2Proof.Machine.execUsartDataOut u payload s
  | .usartFaultOvre u seq payload => Sys2Proof.Machine.execUsartFaultOvre u seq payload s
  | .usartFaultFrame u seq payload => Sys2Proof.Machine.execUsartFaultFrame u seq payload s
  | .usartFaultPare u seq payload => Sys2Proof.Machine.execUsartFaultPare u seq payload s
  | .usartFaultTimeout u seq payload => Sys2Proof.Machine.execUsartFaultTimeout u seq payload s
  | .spiDataIn u seq payload => Sys2Proof.Machine.execSpiDataIn u seq payload s
  | .spiDataOut u payload => Sys2Proof.Machine.execSpiDataOut u payload s
  | .spiFaultModf u seq payload => Sys2Proof.Machine.execSpiFaultModf u seq payload s
  | .spiFaultOvres u seq payload => Sys2Proof.Machine.execSpiFaultOvres u seq payload s
  | .twiDataIn seq payload => Sys2Proof.Machine.execTwiDataIn seq payload s
  | .twiDataOut payload => Sys2Proof.Machine.execTwiDataOut payload s
  | .twiCtrlStart => Sys2Proof.Machine.execTwiCtrlStart s
  | .twiCtrlStop => Sys2Proof.Machine.execTwiCtrlStop s
  | .twiFaultOvre seq payload => Sys2Proof.Machine.execTwiFaultOvre seq payload s
  | .twiFaultNack seq payload => Sys2Proof.Machine.execTwiFaultNack seq payload s
  | .twiFaultArblst seq payload => Sys2Proof.Machine.execTwiFaultArblst seq payload s
  | .pioPinstateEnable p seq payload => Sys2Proof.Machine.execPioPinstateEnable p seq payload s
  | .pioPinstateDisable p seq payload => Sys2Proof.Machine.execPioPinstateDisable p seq payload s
  | .pioPinstateOut p => Sys2Proof.Machine.execPioPinstateOut p s
  | .pioPinstateGet p seq payload => Sys2Proof.Machine.execPioPinstateGet p seq payload s
  | .sdramcFaultRes seq payload => Sys2Proof.Machine.execSdramcFaultRes seq payload s

end Sys2Proof.Machine
end

