-- ==== Sys2Proof/Machine/Agents.lean ====
section
/-! DEFINITION. The steps of every agent (R9, R10): what a bus transaction does after decoding, the inbound side of a
link (R721 to R727), the clocks, the console, the pins, the SD bus and the host's reset; and which agent moves next. -/

namespace Sys2Proof.Machine

noncomputable section

/-! ### The CPU -/

/-- What a transaction that decodes to no instruction does (R127, R158, R162, R163, R774). -/
def rejectTxn (t : BusTxn) (r : Reject) (s : State) : Host.Outcome State Fault Refusal :=
  match r with
  | .reserved =>
    runBus (fun s => s.raise (.reserved t.addr (s.redirect t.addr) t.dir t.size t.wdata)) s
  | .accessSize => runBus (fun s => s.raise (.accessSize (s.redirect t.addr) t.size)) s
  | .undefOffset p off => runBus (fun s => s.raise (.undefOffset p off t.dir t.wdata)) s
  | .accessDir p off =>
    if s.params.accessStrict then runBus (fun s => s.raise (.accessDir p off t.dir t.wdata)) s
    else
      match t.dir with
      | .read => .refused (.writeOnlyRead p off)
      | .write => runBus id s
  | .unknownFrame => .next s
  | .unknownOut => .next s

/-- A bus transaction (R150). -/
def runTxn (t : BusTxn) (s : State) : Host.Outcome State Fault Refusal :=
  match decode s.params.sizes (.bus t) with
  | .ok i => exec i s
  | .reject r => rejectTxn t r s

/-! ### The links -/

/-- The frame a buffer holds (R725): its header and exactly the payload bytes the header declares. -/
def frameOf : List Byte → Option Frame
  | seq :: cat :: id :: len :: payload =>
    if payload.length = len.toNat then some ⟨seq, cat, id, payload⟩ else none
  | _ => none

/-- `handle` (R737): an unlisted frame is ignored (R132). -/
def handleFrame (l : LinkId) (f : Frame) (s : State) : Host.Outcome State Fault Refusal :=
  match decode s.params.sizes (.frameIn l f) with
  | .ok i => exec i s
  | .reject _ => .next s

/-- One byte from the client (R723): it joins the buffer, and a frame it completes is handled. -/
def feedByte (l : LinkId) (b : Byte) (s : State) : Host.Outcome State Fault Refusal :=
  let x := s.link l
  match frameOf (x.inbuf ++ [b]) with
  | some f => handleFrame l f (s.setLink l { x with inbuf := [] })
  | none => .next (s.setLink l { x with inbuf := x.inbuf ++ [b] })

/-- Bytes from the client, one after another (R723); an abort ends the step (R770). -/
def feed (l : LinkId) : List Byte → State → Host.Outcome State Fault Refusal
  | [], s => .next s
  | b :: bs, s =>
    match feedByte l b s with
    | .next t => if t.fault.isSome then .next t else feed l bs t
    | .fault e => .fault e
    | .refused r => .refused r

/-- `CONNECT` (R721): a second client is turned away. -/
def linkConnect (l : LinkId) (s : State) : State := s.setLink l { s.link l with client := true }

/-- `DISCONNECT` (R722): a partial frame and the frames not taken are lost; `seq` stays. -/
def linkDisconnect (l : LinkId) (s : State) : State :=
  s.setLink l { s.link l with client := false, inbuf := [], outq := [] }

/-- `TAKE` (R733): the client removes the oldest frame. -/
def linkTake (l : LinkId) (s : State) : State := s.setLink l { s.link l with outq := (s.link l).outq.tail }

/-- The owner of a link sends a frame (R133, R730). -/
def runTransmit (l : LinkId) (cat id : Byte) (data : List Byte) (s : State) : Host.Outcome State Fault Refusal :=
  match decode s.params.sizes (.frameOut l cat id data) with
  | .ok i => exec i s
  | .reject _ => .next s

/-! ### The other agents -/

/-- One tick of a counter's clock (R550). -/
def runTick (c : ClockId) (s : State) : State :=
  match c with
  | .tc k => tcTick k s
  | .pit => pitTick s
  | .rtt => rttTick s

/-- The `Pins` agent drives lines 0, 29, 30 and 31 only (R10, R780). -/
def isPin (n : Fin 32) : Bool := decide (n.val = 0) || decide (29 ≤ n.val)

/-- What the environment says a card will answer (R11, R481). -/
def scriptCard (c : Fin 2) (f : SdCard → SdCard) (s : State) : State := s.setSdCard c (f s.sd.cards[c.val])

/-! ### The step of an agent -/

/-- One step of an agent (R9). A step that is not enabled (a tick of a stopped counter, an expiry of a timer that is not
armed, bytes on a link with no client) has no effect. -/
def runInput (i : Input) (s : State) : Host.Outcome State Fault Refusal :=
  match i with
  | .bus t => runTxn t s
  | .bytes l bs => if s.clientConnected l then feed l bs s else .next s
  | .transmit l cat id data => runTransmit l cat id data s
  | .connect l => .next (linkConnect l s)
  | .disconnect l => .next (linkDisconnect l s)
  | .take l => .next (linkTake l s)
  | .linkError l e => .next (s.raise (.ioxIo l e))
  | .tick c => .next (runTick c s)
  | .twiFlush => .next (if s.twi.debounceArmed then twiFlush s else s)
  | .console b => .next (dbguInput b s)
  | .pin n level => .next (if isPin n then driveLine n level s else s)
  | .sdResponse c r => .next (scriptCard c (fun x => { x with responses := x.responses ++ [r] }) s)
  | .sdData c bs => .next (scriptCard c (fun x => { x with readBytes := x.readBytes ++ bs }) s)
  | .sdReady c b => .next (scriptCard c (fun x => { x with ready := some b }) s)
  | .socReset => .next (socReset s)

/-- A bus transaction of the CPU. -/
def isBusInput : Input → Bool
  | .bus _ => true
  | _ => false

/-- The next step in the agents' order, and the steps left: while an SPI awaits an echo the CPU's transactions wait
in their place and every other agent moves (R390). -/
def nextInput (held : Bool) : List Input → Option (Input × List Input)
  | [] => none
  | i :: is =>
    if held && isBusInput i then (nextInput held is).map fun r => (r.1, i :: r.2)
    else some (i, is)

/-- One step of the machine (R9, R770): the next enabled agent's, or none. -/
def agentStep (s : State) : Host.Outcome State Fault Refusal :=
  match s.fault with
  | some e => .fault e
  | none =>
    match nextInput s.held s.inputs with
    | none => .next s
    | some (i, rest) => runInput i (s.setInputs rest)

/-! ### Placing an operation -/

/-- The bytes of a frame on the wire (R130). -/
def frameBytes (f : Frame) : List Byte := f.seq :: f.cat :: f.id :: BitVec.ofNat 8 f.payload.length :: f.payload

/-- No SPI awaits an echo. -/
def releaseHold (s : State) : State :=
  let s := s.setSpi 0 { s.spi 0 with awaiting := none }
  s.setSpi 1 { s.spi 1 with awaiting := none }

/-- The operation stands first in the agents' order and is enabled: a transaction finds no hold, a frame finds a client
and an empty buffer. -/
def placeOp (op : Op) (s : State) : State :=
  let s := s.setFault none
  match op with
  | .bus t =>
    let s := releaseHold s
    s.setInputs (.bus t :: s.inputs)
  | .frameIn l f =>
    let s := s.setLink l { s.link l with client := true, inbuf := [] }
    s.setInputs (.bytes l (frameBytes f) :: s.inputs)
  | .frameOut l cat id data => s.setInputs (.transmit l cat id data :: s.inputs)

/-- The operation of a table word, placed; a word the decoder rejects is placed as the transaction it is. -/
def placeTableWord (nbits w : Nat) (s : State) : State :=
  match opOfTableWord nbits w with
  | some r => placeOp r.1 s
  | none => placeOp (.bus (busOfTableWord w)) s

end

end Sys2Proof.Machine
end

