-- ==== Sys2Proof/Machine/Step.lean ====
section
/-! DEFINITION. The step of the machine and the placing of an operation where the step takes its next one. -/

namespace Sys2Proof.Machine

noncomputable section

/-- One step (R9). -/
def step (s : State) : Host.Outcome State Fault Refusal := agentStep s

/-- The state with the operation of a table word first in the agents' order. -/
def State.withFetchWord (s : State) (nbits w : Nat) : State := placeTableWord nbits w s

end

end Sys2Proof.Machine
end

