-- ==== Sys2Proof/Safety.lean ====
section
/-! DEFINITION. When a transaction is served, what a safe run is, and what a state that the rules maintain looks
like. -/

namespace Sys2Proof.Machine

/-- The conditions under which a bus transaction is served at once (R150): no abort has happened and no SPI holds the
CPU. -/
def State.ready (s : State) : Bool := s.fault.isNone && !s.held

/-- The state after `n` steps, or what stopped the machine. -/
noncomputable def runFor (n : Nat) (s : State) : Host.Outcome State Fault Refusal :=
  match n with
  | 0 => .next s
  | n + 1 =>
    match step s with
    | .next t => runFor n t
    | .fault e => .fault e
    | .refused r => .refused r

/-- A run of `n` steps that ends with no abort: every step had a meaning and kept to its contract (R12, R770). -/
def State.safeFor (s : State) (n : Nat) : Prop := ∃ t, runFor n s = .next t ∧ t.fault = none

/-- The bytes of a DMA buffer of `n` bytes at `p` may be written (R95). -/
def State.writableBuffer (s : State) (p : Word) (n : Nat) : Bool := s.dmaAll (dmaWritable s.params.sizes) p n

/-- The bytes of a DMA buffer of `n` bytes at `p` may be read (R95). -/
def State.readableBuffer (s : State) (p : Word) (n : Nat) : Bool := s.dmaAll (dmaReadable s.params.sizes) p n

/-! ### What a transfer of the PDC leaves

R270 and R272 give a transfer as a loop over two buffers. The definitions below say what it leaves in one go, for a
channel whose two counts are not both 0. -/

/-- The receive pair in use: the next one once the current count is 0 (R270). -/
def Pdc.rxCurrent (p : Pdc) : Pdc :=
  if p.rcr = 0#16 then { p with rpr := p.rnpr, rcr := p.rncr, rncr := 0#16 } else p

/-- The transmit pair in use (R272). -/
def Pdc.txCurrent (p : Pdc) : Pdc :=
  if p.tcr = 0#16 then { p with tpr := p.tnpr, tcr := p.tncr, tncr := 0#16 } else p

/-- The units both receive buffers still take (R270). -/
def Pdc.rxRoom (p : Pdc) : Nat := p.rcr.toNat + p.rncr.toNat

/-- The units both transmit buffers still hold (R272). -/
def Pdc.txCount (p : Pdc) : Nat := p.tcr.toNat + p.tncr.toNat

/-- The receive half after `n` units of `unit` bytes (R270): a buffer that is full sets ENDRX and makes the next pair
current; RXBUFF says that both are full. -/
def Pdc.afterReceive (unit n : Nat) (p : Pdc) : Pdc :=
  let q := p.rxCurrent
  let k := n - q.rcr.toNat
  if n < q.rcr.toNat then
    { q with rpr := q.rpr + BitVec.ofNat 32 (n * unit), rcr := q.rcr - BitVec.ofNat 16 n, rxbuff := false }
  else if q.rncr = 0#16 then
    { q with
      rpr := q.rpr + BitVec.ofNat 32 (q.rcr.toNat * unit), rcr := 0#16, endrx := true, rxbuff := p.rxten }
  else
    { q with
      rpr := q.rnpr + BitVec.ofNat 32 (k * unit), rcr := q.rncr - BitVec.ofNat 16 k, rncr := 0#16, endrx := true
      rxbuff := p.rxten && decide (k = q.rncr.toNat) }

/-- The transmit half after `n` units of `unit` bytes (R272): the next pair becomes current only for a unit of its
own. -/
def Pdc.afterSend (unit n : Nat) (p : Pdc) : Pdc :=
  let q := p.txCurrent
  let k := n - q.tcr.toNat
  if n ≤ q.tcr.toNat then
    { q with
      tpr := q.tpr + BitVec.ofNat 32 (n * unit), tcr := q.tcr - BitVec.ofNat 16 n
      endtx := p.endtx || decide (n = q.tcr.toNat)
      txbufe := p.txten && decide (n = q.tcr.toNat) && decide (q.tncr = 0#16) }
  else
    { q with
      tpr := q.tnpr + BitVec.ofNat 32 (k * unit), tcr := q.tncr - BitVec.ofNat 16 k, tncr := 0#16, endtx := true
      txbufe := p.txten && decide (k = q.tncr.toNat) }

/-- The parts of both receive buffers that `n` units fill may be written (R95). -/
def State.receiveBuffersOk (s : State) (h : PdcHost) (unit n : Nat) : Bool :=
  let q := (s.pdc h).rxCurrent
  s.writableBuffer q.rpr (min n q.rcr.toNat * unit) && s.writableBuffer q.rnpr ((n - q.rcr.toNat) * unit)

/-- The units stored in the current buffer, and what it has no room for in the next (R270). -/
def State.storeReceived (s : State) (h : PdcHost) (us : List (List Byte)) : State :=
  let q := (s.pdc h).rxCurrent
  (s.storeBytes q.rpr (us.take q.rcr.toNat).flatten).storeBytes q.rnpr (us.drop q.rcr.toNat).flatten

/-- The parts of both transmit buffers that `n` units lie in may be read (R95). -/
def State.sendBuffersOk (s : State) (h : PdcHost) (unit n : Nat) : Bool :=
  let q := (s.pdc h).txCurrent
  s.readableBuffer q.tpr (min n q.tcr.toNat * unit) && s.readableBuffer q.tnpr ((n - q.tcr.toNat) * unit)

/-- The bytes of `n` units, one list for each buffer they lie in (R272). -/
def State.sentBuffers (s : State) (h : PdcHost) (unit n : Nat) : List (List Byte) :=
  let q := (s.pdc h).txCurrent
  if n ≤ q.tcr.toNat then [s.loadBytes q.tpr (n * unit)]
  else [s.loadBytes q.tpr (q.tcr.toNat * unit), s.loadBytes q.tnpr ((n - q.tcr.toNat) * unit)]

/-! ### The interrupt output of a PDC's host -/

/-- The AIC line of a PDC's host (R780). -/
def hostLine : PdcHost → Fin 32
  | .usart u => #v[6, 7, 8, 23, 24, 25][u.val]
  | .spi u => #v[12, 13][u.val]
  | .twi => 11
  | .mci => 9

/-- The status word of a PDC's host (R306, R375, R436, R485). The MCI's is that of the question last asked of the card,
which the recomputation of its output has counted (log entry 24). -/
def State.hostStatus (s : State) : PdcHost → Word
  | .usart u => s.usartCsr u
  | .spi u => s.spiSr u
  | .twi => s.twiSr
  | .mci => (s.setSd { s.sd with asks := s.sd.asks - 1 }).mciSr

/-- The interrupt mask of a PDC's host (R305, R376, R437, R486). -/
def State.hostMask (s : State) : PdcHost → Word
  | .usart u => (s.usart u).imr
  | .spi u => (s.spi u).imr
  | .twi => s.twi.imr
  | .mci => s.mci.imr

/-- From `a` to `b` only line `n` of the AIC may have changed (R222): its level and its latch, and the outputs as their
rules give them; every register, every other line and the in-service stack are as before. -/
def Aic.onlyLine (n : Fin 32) (a b : Aic) : Prop :=
  (∀ m : Fin 32, m ≠ n → bit b.line m.val = bit a.line m.val ∧ bit b.latch m.val = bit a.latch m.val)
  ∧ b = { a with line := b.line, latch := b.latch, nirq := b.nirq, nfiq := b.nfiq }
  ∧ (a.update = a → b.update = b)

/-- In `t` the interrupt output of a host is the level of its status under its mask (R269, R778), and that line is all
that has changed at the AIC since `s`. -/
def irqFollows (h : PdcHost) (s t : State) : Prop :=
  bit t.aic.line (hostLine h).val = decide (t.hostStatus h &&& t.hostMask h ≠ 0#32)
  ∧ Aic.onlyLine (hostLine h) s.aic t.aic

/-- Memory is in canonical form. -/
def State.memoryOk (s : State) : Prop := Memory.wf s.mem = true

/-- The two outputs are the functions R217 and R218 give of the rest, no more than eight acknowledges are open (R25),
each with a priority of 0 to 8, and line 0 is not fast-forced (R210). -/
def State.aicOk (s : State) : Prop :=
  s.aic.nirq = s.aic.nirqLevel ∧ s.aic.nfiq = s.aic.nfiqLevel ∧ s.aic.stack.length ≤ Config.aicStackDepth
    ∧ (∀ e, e ∈ s.aic.stack → e.prio ≤ 8) ∧ bit s.aic.ffsr 0 = false

/-- No buffer of a link holds a whole frame, so none holds more than 258 bytes between two steps (R723, R725). -/
def inbufOk : List Byte → Prop
  | _ :: _ :: _ :: len :: payload => payload.length < len.toNat
  | _ => True

/-- Every link's buffer holds an incomplete frame (R725). -/
def State.linksOk (s : State) : Prop := ∀ l, inbufOk (s.link l).inbuf

end Sys2Proof.Machine
end

