-- ==== Sys2Proof/Certificates/Slice0/Obligations.lean ====
section
/-! DEFINITION. The statements for the provers. An operation that is served gives the state its rule says: where a
statement names the next state by the setters of `State`, everything the setters do not name is unchanged, and that is
the instruction's frame. `s.ready` is the condition under which the fabric serves a transaction at once (R150). Names
such as `Instr.usartMrW u` stand for one row of the table per instance (`USART0_MR.W` to `USART5_MR.W`), and
`Instr.pdcRprR h` for one row per host of a PDC (`USART0_RPR.R` to `USART5_RPR.R`, `SPI0_RPR.R`, `SPI1_RPR.R`,
`TWI_RPR.R`, `MCI_RPR.R`). -/

section

open Sys2Proof Sys2Proof.Machine

/-! ### The step and its gates -/

/-- R150, R121, R133: a transaction at the head of the agents' order that decodes to an instruction runs that
instruction, and so does a frame its owner sends. That the order is a list in the state and that a frame is sent by an
input of its own are the model's choices (log entries 2 and 9). -/
def Obligations.StepRunsDecodedOperation : Prop :=
  (∀ (s : State) (t : BusTxn) (rest : List Input) (i : Instr),
    s.ready = true → s.inputs = .bus t :: rest → decode s.params.sizes (.bus t) = .ok i →
      step s = exec i (s.setInputs rest))
  ∧ (∀ (s : State) (l : LinkId) (cat id : Byte) (data : List Byte) (rest : List Input) (i : Instr),
    s.fault = none → s.inputs = .transmit l cat id data :: rest → decode s.params.sizes (.frameOut l cat id data) = .ok i →
      step s = exec i (s.setInputs rest))

/-- R723, R725, R737, R132: the bytes of a whole frame, delivered to an empty buffer in one step, run the instruction
the frame decodes to; every frame the table of its owner lists decodes to one, and any other has no effect and gets no
reply. The list of inputs is the model's choice (log entry 2), and so is that bytes on a link with no client have no
effect (log entry 9). -/
def Obligations.StepRunsDecodedFrame : Prop :=
  (∀ (s : State) (l : LinkId) (f : Frame) (rest : List Input) (i : Instr),
    s.fault = none → s.inputs = .bytes l (frameBytes f) :: rest → (s.link l).client = true →
    (s.link l).inbuf = [] → f.payload.length ≤ 255 → decode s.params.sizes (.frameIn l f) = .ok i →
      step s = exec i (s.setInputs rest))
  ∧ (∀ (s : State) (l : LinkId) (f : Frame) (rest : List Input),
    s.fault = none → s.inputs = .bytes l (frameBytes f) :: rest → (s.link l).client = true →
    (s.link l).inbuf = [] → f.payload.length ≤ 255 →
    let codes : List (Byte × Byte) := match l with
      | .usart _ => [(1, 1), (2, 1), (2, 2), (2, 3), (2, 4)]
      | .spi _ => [(1, 1), (2, 1), (2, 2)]
      | .twi => [(1, 1), (2, 1), (2, 2), (2, 3)]
      | .pio _ => [(1, 1), (1, 2), (1, 4)]
      | .sdramc => [(2, 1)]
    ((f.cat, f.id) ∈ codes → ∃ i, decode s.params.sizes (.frameIn l f) = .ok i ∧ step s = exec i (s.setInputs rest))
    ∧ ((f.cat, f.id) ∉ codes → step s = .next (s.setInputs rest)))
  ∧ ∀ (s : State) (l : LinkId) (bs : List Byte) (rest : List Input),
    s.fault = none → s.inputs = .bytes l bs :: rest → (s.link l).client = false → step s = .next (s.setInputs rest)

/-- R770: from a machine that has not aborted every operation answers a next state (an abort it raises is that state's
`fault`), and none is refused; once an abort has happened no agent takes a step and no operation has an effect. That
an abort is a field of the next state is the model's choice (log entry 6). -/
def Obligations.OperationsAnswerUntilAbort : Prop :=
  (∀ (s : State) (i : Instr), s.fault = none → ∃ t, exec i s = .next t)
  ∧ ∀ (s : State) (e : Fault), s.fault = some e → step s = .fault e ∧ ∀ i : Instr, exec i s = .fault e

/-- R390: while an SPI awaits an echo every bus transaction waits, and the first step of another agent goes ahead of
the transactions that wait. That a waiting transaction keeps its place is the model's choice (log entry 7). -/
def Obligations.HoldStopsOnlyTheCpu : Prop :=
  (∀ (s : State) (i : Instr) (t : BusTxn), s.fault = none → s.held = true → encode i = .bus t →
    exec i s = .next s)
  ∧ (∀ s : State, s.fault = none → s.held = true → (∀ i, i ∈ s.inputs → isBusInput i = true) → step s = .next s)
  ∧ (∀ (s : State) (waiting rest : List Input) (i : Input), s.fault = none → s.held = true →
    (∀ j, j ∈ waiting → isBusInput j = true) → isBusInput i = false → s.inputs = waiting ++ i :: rest →
      step s = runInput i (s.setInputs (waiting ++ rest)))

/-! ### Encoding -/

/-- R120 to R133, R86: decoding the raw form of a well-formed instruction gives the instruction back, whatever the
sizes of NOR and SDRAM, multiples of 4 or not, as long as the two regions meet no other (R83). -/
def Obligations.DecodeOfEncode : Prop :=
  ∀ (z : MemSizes) (i : Instr), z.ok = true → i.wellFormed z = true → decode z (encode i) = .ok i

/-- R86, R120, R131: raw operations written out from the region map, the register tables and the frame codes. -/
def Obligations.DecodeOfWrittenWords : Prop :=
  decode .iobc (.bus ⟨.read, 0xFFFFF108#32, 4, 0#32⟩) = .ok .aicIsrR
  ∧ decode .iobc (.bus ⟨.write, 0xFFFFF018#32, 4, 0x25#32⟩) = .ok (.aicSmrW 6 0x25#32)
  ∧ decode .iobc (.bus ⟨.write, 0xFFFB001C#32, 4, 0x141#32⟩) = .ok (.usart0ThrW 0x141#32)
  ∧ decode .iobc (.bus ⟨.write, 0xFFFC800C#32, 4, 0xA5#32⟩) = .ok (.spi0TdrW 0xA5#32)
  ∧ decode .iobc (.bus ⟨.write, 0xFFFAC034#32, 4, 0xAA#32⟩) = .ok (.twiThrW 0xAA#32)
  ∧ decode .iobc (.bus ⟨.write, 0xFFFA8014#32, 4, 0x00050051#32⟩) = .ok (.mciCmdrW 0x00050051#32)
  ∧ decode .iobc (.bus ⟨.read, 0xFFFFFD38#32, 4, 0#32⟩) = .ok .pitPivrR
  ∧ decode .iobc (.bus ⟨.write, 0xFFFFFC30#32, 4, 1#32⟩) = .ok (.pmcMckrW 1#32)
  ∧ decode .iobc (.bus ⟨.read, 0x20000003#32, 1, 0#32⟩) = .ok (.sdramR 0x20000003#32 .byte)
  ∧ decode .iobc (.bus ⟨.read, 0x00000040#32, 4, 0#32⟩) = .ok (.bootmemR 0x00000040#32 .word)
  ∧ decode .iobc (.frameIn (.usart 3) ⟨0x05#8, 1#8, 1#8, [0x61#8]⟩) = .ok (.usartDataIn 3 0x05#8 [0x61#8])
  ∧ decode .iobc (.frameIn (.pio 1) ⟨0x05#8, 1#8, 4#8, []⟩) = .ok (.pioPinstateGet 1 0x05#8 [])

/-- R93, R94, R158, R162, R163, R774: what a transaction that is no row of the table aborts with; without
`ACCESS_STRICT` a write to a read-only register is ignored and a read of a write-only one refused. The address of a
wrong access to memory may lie in the bootmem window, whose redirected address the diagnostic names. (The address the
diagnostic of a wrong access names is the model's choice, log entry 14.) -/
def Obligations.InvalidTransactionsAbort : Prop :=
  ∀ (s : State) (t : BusTxn) (rest : List Input), s.ready = true → s.inputs = .bus t :: rest →
    (regionOf s.params.sizes t.addr = none → wordAccess t = true →
      ∃ u, step s = .next u ∧ u.fault = some (.reserved t.addr t.addr t.dir t.size t.wdata))
    ∧ (regionOf s.params.sizes t.addr = none → wordAccess t = false →
      ∃ u, step s = .next u ∧ u.fault = some (.accessSize t.addr t.size))
    ∧ (∀ r p, regionOf s.params.sizes t.addr = some r → r.kind = .mmio p → wordAccess t = false →
      ∃ u, step s = .next u ∧ u.fault = some (.accessSize t.addr t.size))
    ∧ (∀ r w, regionOf s.params.sizes t.addr = some r → r.kind = .unimpl w → wordAccess t = false →
      ∃ u, step s = .next u ∧ u.fault = some (.accessSize t.addr t.size))
    ∧ (∀ r m, regionOf s.params.sizes t.addr = some r → r.kind = .memory m → memoryAccess t = none →
      ∃ u, step s = .next u ∧ u.fault = some (.accessSize t.addr t.size))
    ∧ (∀ r, regionOf s.params.sizes t.addr = some r → r.kind = .bootmem → memoryAccess t = none →
      ∃ u, step s = .next u ∧ u.fault = some (.accessSize (bootBase s.bootTarget + t.addr) t.size))
    ∧ (∀ r p, regionOf s.params.sizes t.addr = some r → r.kind = .mmio p → wordAccess t = true →
      decodeRegister p (t.addr.toNat - r.base) t.dir t.wdata = .undefined →
      ∃ u, step s = .next u ∧ u.fault = some (.undefOffset p (t.addr.toNat - r.base) t.dir t.wdata))
    ∧ (∀ r p, regionOf s.params.sizes t.addr = some r → r.kind = .mmio p → wordAccess t = true →
      decodeRegister p (t.addr.toNat - r.base) t.dir t.wdata = .wrongDir → s.params.accessStrict = true →
      ∃ u, step s = .next u ∧ u.fault = some (.accessDir p (t.addr.toNat - r.base) t.dir t.wdata))
    ∧ (∀ r p, regionOf s.params.sizes t.addr = some r → r.kind = .mmio p → wordAccess t = true →
      decodeRegister p (t.addr.toNat - r.base) t.dir t.wdata = .wrongDir → s.params.accessStrict = false →
      (t.dir = .write → step s = .next (s.setInputs rest))
      ∧ (t.dir = .read → step s = .refused (.writeOnlyRead p (t.addr.toNat - r.base))))

/-! ### Reset -/

/-- R821, R10, R826: the machine as constructed: with the defaults of the parameters and nothing loaded it is the reset
state, with the invariants of this file; with sizes of NOR and SDRAM for which the two regions meet no other (R83), a
NOR-flash image stands in NOR and in SDRAM from offset 0 and every other byte is 0. The board's parameters, no agent's
step yet, the values that the model's other own fields and the informational clocks have in the reset state, and what
becomes of an image larger than an array are the model's choices (log entries 1, 2, 3, 4, 21 and 33). -/
def Obligations.ResetState : Prop :=
  State.reset.fault = none ∧ State.reset.mem = [] ∧ State.reset.inputs = [] ∧ State.reset.stubIn = 0#32
  ∧ State.reset.aic.line = 0#32 ∧ State.reset.rstc.rsttyp = 0#3 ∧ State.reset.bootTarget = .ebiNcs0
  ∧ (∀ a, State.reset.byteAt a = 0#8)
  ∧ (∀ l, (State.reset.link l).client = false ∧ (State.reset.link l).inbuf = [] ∧ (State.reset.link l).seq = 0#7
    ∧ (State.reset.link l).outq = [])
  ∧ (∀ p, (State.reset.pio p).extLevel = 0#32)
  ∧ socReset State.reset = State.reset
  ∧ State.reset.ready = true ∧ State.reset.memoryOk ∧ State.reset.aicOk ∧ State.reset.linksOk
  ∧ State.construct Params.iobc [] = State.reset
  ∧ ∀ (p : Params) (image : List Byte), p.sizes.ok = true →
    let s := State.withImage p image
    s.params = p ∧ s.bootTarget = (if p.bms then .rom else .ebiNcs0) ∧ s.memoryOk
    ∧ (∀ i b, i < p.sizes.nor → image[i]? = some b → s.byteAt (BitVec.ofNat 32 (0x10000000 + i)) = b)
    ∧ (∀ i b, i < p.sizes.sdram → image[i]? = some b → s.byteAt (BitVec.ofNat 32 (0x20000000 + i)) = b)
    ∧ (∀ a : Word, (∀ i, i < p.sizes.nor → i < image.length → a.toNat ≠ 0x10000000 + i) →
      (∀ i, i < p.sizes.sdram → i < image.length → a.toNat ≠ 0x20000000 + i) → s.byteAt a = 0#8)
    ∧ s = { State.reset with params := p, mem := s.mem, bootTarget := s.bootTarget, mci := s.mci }
    ∧ s.mci = { State.reset.mci with selectedCard := if p.mciCardPolarity then 0 else 1 }

/-- R822: the values read right after a SoC reset, whatever the state before it. -/
def Obligations.ValuesAfterSocReset : Prop :=
  ∀ s : State, s.fault = none →
    let r := socReset s
    (∀ u, exec (.usartCsrR u) r = .next (r.setRdata 0#32))
    ∧ (∀ u, exec (.spiSrR u) r = .next (r.setRdata 0#32))
    ∧ exec .twiSrR r = .next (r.setRdata 0x00000001#32)
    ∧ (∃ t, exec .mciSrR r = .next t ∧ t.rdata = 0x00000025#32)
    ∧ exec .dbguSrR r = .next (r.setRdata 0x00000202#32)
    ∧ exec .pmcSrR r = .next (r.setRdata 0x00000008#32)
    ∧ exec .pmcCkgrMcfrR r = .next (r.setRdata 0#32)
    ∧ (∀ c, exec (.tcSrR c) r = .next (r.setRdata 0#32) ∧ exec (.tcCvR c) r = .next (r.setRdata 0#32))
    ∧ exec .pitSrR r = .next (r.setRdata 0#32) ∧ exec .pitPivrR r = .next (r.setRdata 0#32)
    ∧ exec .pitPiirR r = .next (r.setRdata 0#32)
    ∧ exec .rttVrR r = .next (r.setRdata 0#32) ∧ exec .rttSrR r = .next (r.setRdata 0#32)
    ∧ exec .pitMrR r = .next (r.setRdata 0x000FFFFF#32)
    ∧ exec .rttMrR r = .next (r.setRdata 0x00008000#32) ∧ exec .rttArR r = .next (r.setRdata 0xFFFFFFFF#32)
    ∧ (∀ p, exec (.pioPsrR p) r = .next (r.setRdata 0xFFFFFFFF#32)
      ∧ exec (.pioPdsrR p) r = .next (r.setRdata (s.pio p).extLevel))
    ∧ exec .aicImrR r = .next (r.setRdata 0#32) ∧ exec .aicIsrR r = .next (r.setRdata 0#32)
    ∧ exec .aicCisrR r = .next (r.setRdata 0#32) ∧ exec .aicFfsrR r = .next (r.setRdata 0#32)
    ∧ exec .aicSpuR r = .next (r.setRdata 0#32)
    ∧ (∀ n, exec (.aicSmrR n) r = .next (r.setRdata 0#32) ∧ exec (.aicSvrR n) r = .next (r.setRdata 0#32))
    ∧ (∃ t, exec .aicIvrR r = .next t ∧ t.rdata = 0#32 ∧ t.aic.stack = [⟨0, 8⟩])
    ∧ exec .aicIprR r = .next (r.setRdata (~~~s.aic.line &&& 0xE0000001#32))
    ∧ exec .rstcSrR State.reset = .next (State.reset.setRdata 0x00010000#32)
    ∧ (∀ v t, field v 31 24 = 0xA5 → (bit v 0 = true ∨ bit v 2 = true) → s.ready = true →
      exec (.rstcCrW v) s = .next t → exec .rstcSrR t = .next (t.setRdata 0x00010300#32))
    ∧ exec .matrixMrcrR r = .next (r.setRdata 0#32)

/-- R820, R740: what a SoC reset does not touch, and the frames it adds: one PINSTATE/OUT of each PIO whose client is
connected; what is not named as kept is as in the reset state, whatever it was before (the boot target, the pin levels
and the card being those of the pins); and the host's reset step is that reset. Kept besides what R820 lists are the
reset type `rsttyp` and the model's own `rdata`, `consoleOut` and `pmc.mclkChanges`, and the step's `inputs`, the
parameters and the record of the SD bus. That a reset by the host leaves the reset type as it was is the model's
reading, because R74 and R820 leave it to the caller (log entry 23, DEDUCED); that the host's step is an input, that the
fields `rdata`, `consoleOut` and `pmc.mclkChanges`, `inputs`, the parameters and the record of the SD bus are fields of
the state and are kept (log entries 3, 2, 1 and 4), and the reset values of the informational clocks that log entry 21
names, are the model's choices. -/
def Obligations.SocResetPreserves : Prop :=
  (∀ s : State,
    (socReset s).params = s.params ∧ (socReset s).mem = s.mem ∧ (socReset s).fault = s.fault
    ∧ (socReset s).inputs = s.inputs ∧ (socReset s).sd = s.sd ∧ (socReset s).consoleOut = s.consoleOut
    ∧ (∀ p, ((socReset s).pio p).extLevel = (s.pio p).extLevel)
    ∧ (∀ n, n ∈ [0, 29, 30, 31] → bit (socReset s).aic.line n = bit s.aic.line n)
    ∧ (∀ l, (∀ p, l ≠ .pio p) → (socReset s).link l = s.link l)
    ∧ (∀ p, (s.link (.pio p)).client = false → (socReset s).link (.pio p) = s.link (.pio p))
    ∧ (∀ p, (s.link (.pio p)).client = true →
      (socReset s).link (.pio p) = { s.link (.pio p) with
        seq := (s.link (.pio p)).seq + 1#7
        outq := (s.link (.pio p)).outq ++
          [⟨0x80#8 ||| (s.link (.pio p)).seq.setWidth 8, 1#8, 3#8, leBytes 4 (s.pio p).extLevel⟩] }))
  ∧ (∀ s : State, socReset s = { State.reset with
      params := s.params, inputs := s.inputs, rdata := s.rdata, fault := s.fault, mem := s.mem, sd := s.sd
      consoleOut := s.consoleOut, links := (socReset s).links
      bootTarget := if s.params.bms then .rom else .ebiNcs0
      aic := { State.reset.aic with line := s.aic.line &&& 0xE0000001#32 }
      mci := { State.reset.mci with
        selectedCard := if bit (s.pio 1).extLevel 7 = s.params.mciCardPolarity then 1 else 0 }
      pios := s.pios.map fun x => { State.reset.pio 0 with pdsr := x.extLevel, extLevel := x.extLevel }
      pmc := { State.reset.pmc with mclkChanges := s.pmc.mclkChanges }
      rstc := { State.reset.rstc with rsttyp := s.rstc.rsttyp } })
  ∧ ∀ (s : State) (rest : List Input), s.fault = none → s.inputs = .socReset :: rest →
    step s = .next (socReset (s.setInputs rest))

/-! ### Memory -/

/-- R8, R90, R94: a read of a memory-backed region whose bytes all lie below its end returns them, the one at the lowest
address least significant, zero-extended, and changes nothing else. A read that runs past the end of its region (of NOR
or SDRAM, where a size is no multiple of 4) aborts, as long as the regions do not overlap. That the code of that abort
is `A_RESERVED`, with the first byte outside, is the model's reading (log entry 34, DEDUCED). -/
def Obligations.MemoryReads : Prop :=
  ∀ (s : State) (a : Word), s.ready = true →
    let z := s.params.sizes
    ∀ (i : AccessSize → Instr) (top : Nat),
      (i, top) ∈ [(.romR a, 0x00108000), (.sram0R a, 0x00204000), (.sram1R a, 0x00304000),
        (.norR a, 0x10000000 + z.nor), (.sdramR a, 0x20000000 + z.sdram)] →
      ((i .byte).wellFormed z = true → exec (i .byte) s = .next (s.setRdata ((s.byteAt a).setWidth 32)))
      ∧ ((i .half).wellFormed z = true → a.toNat + 2 ≤ top →
        exec (i .half) s = .next (s.setRdata ((s.byteAt (a + 1#32) ++ s.byteAt a).setWidth 32)))
      ∧ ((i .word).wellFormed z = true → a.toNat + 4 ≤ top →
        exec (i .word) s = .next (s.setRdata
          (s.byteAt (a + 3#32) ++ s.byteAt (a + 2#32) ++ s.byteAt (a + 1#32) ++ s.byteAt a)))
      ∧ (∀ size : AccessSize, (i size).wellFormed z = true → z.ok = true → top < a.toNat + size.bytes →
        exec (i size) s = .next (s.setFault (some (.reserved a (BitVec.ofNat 32 top) .read size.bytes 0#32))))

/-- R8, R90, R94, R85: a write to SRAM or SDRAM whose bytes all lie below the region's end stores the low bytes of the
datum from the address upwards and leaves every other byte and every other component alone; one that runs past the end
(of SDRAM, where its size is no multiple of 4) aborts with nothing stored, as long as the regions do not overlap; a
write to ROM or to the NOR flash aborts, and the run has ended. That the code of an abort past the end is `A_RESERVED`,
with the first byte outside, is the model's reading (log entry 34, DEDUCED); that an abort ends the run is log entry
6. -/
def Obligations.MemoryWrites : Prop :=
  ∀ (s : State) (a v : Word) (size : AccessSize) (i : Instr), s.ready = true →
    let z := s.params.sizes
    (∀ top, i.wellFormed z = true →
      (i, top) ∈ [(.sram0W a size v, 0x00204000), (.sram1W a size v, 0x00304000),
        (.sdramW a size v, 0x20000000 + z.sdram)] →
      (s.memoryOk → a.toNat + size.bytes ≤ top →
        ∃ t, exec i s = .next t ∧ t = s.setMem t.mem
          ∧ (∀ k, k < size.bytes → t.byteAt (a + BitVec.ofNat 32 k) = (v >>> (8 * k)).setWidth 8)
          ∧ (∀ x, (∀ k, k < size.bytes → x ≠ a + BitVec.ofNat 32 k) → t.byteAt x = s.byteAt x))
      ∧ (z.ok = true → top < a.toNat + size.bytes →
        exec i s = .next (s.setFault (some (.reserved a (BitVec.ofNat 32 top) .write size.bytes v)))))
    ∧ (i ∈ [.romW a size v, .norW a size v] →
      ∃ t, exec i s = .next t ∧ t.fault = some (.romWrite a v) ∧ step t = .fault (.romWrite a v))

/-- R95, R270, R272, R273, R85: the bytes a transfer stores and the bytes it leaves alone (two bytes of one transfer
that the bootmem alias sends to one place are stored in order, so the later one stays); a write that meets a byte it
may not write aborts with nothing stored, and so does a transfer of any host whose buffer may not be accessed; and
what a receive transfer of any host does, over both buffers, with the roll-over between them. Where the byte is one of
ROM or NOR the abort carries the `A_ROM_WRITE` of R85 as its underlying error. That this is how R85 and R95 go together,
that the whole access is judged before a byte moves, and that the abort names the start of the access, are the model's
reading (log entry 13, DEDUCED). -/
def Obligations.DmaTransfers : Prop :=
  (∀ (s : State) (p : Word) (bs : List Byte), s.memoryOk → bs.length < 2 ^ 32 →
    let t := s.storeBytes p bs
    t = s.setMem t.mem
    ∧ (∀ x, (∀ k, k < bs.length → x ≠ s.redirect (p + BitVec.ofNat 32 k)) → t.byteAt x = s.byteAt x)
    ∧ (∀ k b, bs[k]? = some b →
      (∀ j, k < j → j < bs.length →
        s.redirect (p + BitVec.ofNat 32 j) ≠ s.redirect (p + BitVec.ofNat 32 k)) →
      t.byteAt (s.redirect (p + BitVec.ofNat 32 k)) = b))
  ∧ (∀ (s : State) (h : PdcHost) (p : Word) (bs : List Byte),
    (s.writableBuffer p bs.length = true → dmaStore h p bs s = s.storeBytes p bs)
    ∧ ∀ k b, bs[k]? = some b → s.writableBuffer p k = true →
      let a := s.redirect (p + BitVec.ofNat 32 k)
      dmaWritable s.params.sizes a = false →
        dmaStore h p bs s = s.setFault (some (.dma h p
          (if memoryAt s.params.sizes a = some .rom ∨ memoryAt s.params.sizes a = some .nor
          then .romWrite a (b.setWidth 32) else .notMemory))))
  ∧ (∀ (s : State) (h : PdcHost) (unit : Nat) (us : List (List Byte)), s.fault = none →
    (∀ u, u ∈ us → u.length = unit) → (s.pdc h).rxRoom ≠ 0 →
    let p := s.pdc h
    let n := min us.length p.rxRoom
    (s.receiveBuffersOk h unit n = true →
      pdcRx h unit us s =
        (n, pdcUpdateIrq h ((s.storeReceived h (us.take n)).setPdc h (p.afterReceive unit n))))
    ∧ (s.receiveBuffersOk h unit n = false → ∃ e, (pdcRx h unit us s).2.fault = some (.dma h
        (if s.writableBuffer p.rxCurrent.rpr (min n p.rxCurrent.rcr.toNat * unit) then p.rxCurrent.rnpr
          else p.rxCurrent.rpr) e)))
  ∧ ∀ (s : State) (h : PdcHost) (unit : Nat) (send : List Byte → State → State), s.fault = none →
    (s.pdc h).txCount ≠ 0 →
    s.readableBuffer (s.pdc h).txCurrent.tpr ((s.pdc h).txCurrent.tcr.toNat * unit) = false →
      (pdcTx h unit send none s).2.fault = some (.dma h (s.pdc h).txCurrent.tpr .notMemory)

/-- R153, R154, R152, R774: an access through the bootmem window is the access at the same offset of the live target;
what the target's own size does not cover aborts, a whole word as a reserved address and any other access by its size
first; and so does a write to ROM or NOR. (Which address a diagnostic names is the model's choice, log entry 14.) -/
def Obligations.BootmemAlias : Prop :=
  ∀ (s : State) (a v : Word) (size : AccessSize), s.ready = true →
    (Instr.bootmemR a size).wellFormed s.params.sizes = true →
    (s.bootTarget = .rom → a.toNat < 0x8000 →
      exec (.bootmemR a size) s = exec (.romR (0x00100000#32 + a) size) s
      ∧ ∃ t, exec (.bootmemW a size v) s = .next t ∧ t.fault = some (.romWrite (0x00100000#32 + a) v))
    ∧ (s.bootTarget = .sram0 → a.toNat < 0x4000 →
      exec (.bootmemR a size) s = exec (.sram0R (0x00200000#32 + a) size) s
      ∧ exec (.bootmemW a size v) s = exec (.sram0W (0x00200000#32 + a) size v) s
      ∧ exec (.bootmemR a size) s = .next (s.setRdata (leWord (s.loadBytes (0x00200000#32 + a) size.bytes)))
      ∧ exec (.bootmemW a size v) s = .next (s.storeBytes (0x00200000#32 + a) (leBytes size.bytes v)))
    ∧ (s.bootTarget = .ebiNcs0 → a.toNat < s.params.sizes.nor →
      exec (.bootmemR a size) s = exec (.norR (0x10000000#32 + a) size) s
      ∧ ∃ t, exec (.bootmemW a size v) s = .next t ∧ t.fault = some (.romWrite (0x10000000#32 + a) v))
    ∧ ((s.bootTarget = .rom ∧ 0x8000 ≤ a.toNat ∨ s.bootTarget = .sram0 ∧ 0x4000 ≤ a.toNat
        ∨ s.bootTarget = .ebiNcs0 ∧ s.params.sizes.nor ≤ a.toNat) →
      (size = .word →
        (∃ t, exec (.bootmemR a size) s = .next t
          ∧ t.fault = some (.reserved a (bootBase s.bootTarget + a) .read 4 0#32))
        ∧ ∃ t, exec (.bootmemW a size v) s = .next t
          ∧ t.fault = some (.reserved a (bootBase s.bootTarget + a) .write 4 v))
      ∧ (size ≠ .word →
        (∃ t, exec (.bootmemR a size) s = .next t
          ∧ t.fault = some (.accessSize (bootBase s.bootTarget + a) size.bytes))
        ∧ ∃ t, exec (.bootmemW a size v) s = .next t
          ∧ t.fault = some (.accessSize (bootBase s.bootTarget + a) size.bytes)))

/-- R160: an unimplemented window reads 0 and discards writes, or aborts where the policy flag says so; both flags
default to false. For each of the eleven windows `w`, `decodeUnimpl w .read a v` is its row `UNIMPL_<w>.R`
(`unimplUhpR a` to `unimplGpbrR a`) and `decodeUnimpl w .write a v` its row `UNIMPL_<w>.W` (`unimplUhpW a v` to
`unimplGpbrW a v`). -/
def Obligations.UnimplementedWindows : Prop :=
  (Params.iobc.unimplReadAbort = false ∧ Params.iobc.unimplWriteAbort = false)
  ∧ ∀ (s : State) (w : UnimplWindow) (a v : Word), s.ready = true →
    (s.params.unimplReadAbort = false → exec (decodeUnimpl w .read a v) s = .next (s.setRdata 0#32))
    ∧ (s.params.unimplWriteAbort = false → exec (decodeUnimpl w .write a v) s = .next s)
    ∧ (s.params.unimplReadAbort = true → ∃ t, exec (decodeUnimpl w .read a v) s = .next t
      ∧ t.fault = some (.unimpl w (a - unimplBase w).toNat .read 0#32))
    ∧ (s.params.unimplWriteAbort = true → ∃ t, exec (decodeUnimpl w .write a v) s = .next t
      ∧ t.fault = some (.unimpl w (a - unimplBase w).toNat .write v))

/-! ### Matrix, RSTC, SDRAMC -/

/-- R166, R167, R155, R170, R171: the Matrix stores its registers and `MRCR` also selects the bootmem target; the
reset controller obeys its commands under its key. -/
def Obligations.MatrixAndRstcRegisters : Prop :=
  ∀ (s : State) (v : Word), s.ready = true →
    (∀ k : Fin 6,
      exec #v[.matrixMcfg0R, .matrixMcfg1R, .matrixMcfg2R, .matrixMcfg3R, .matrixMcfg4R, .matrixMcfg5R][k.val] s
        = .next (s.setRdata s.matrix.mcfg[k.val])
      ∧ exec #v[.matrixMcfg0W v, .matrixMcfg1W v, .matrixMcfg2W v, .matrixMcfg3W v, .matrixMcfg4W v,
          .matrixMcfg5W v][k.val] s
        = .next (s.setMatrix { s.matrix with mcfg := s.matrix.mcfg.set k.val (v &&& 0x00000007#32) }))
    ∧ (∀ k : Fin 5,
      exec #v[.matrixScfg0R, .matrixScfg1R, .matrixScfg2R, .matrixScfg3R, .matrixScfg4R][k.val] s
        = .next (s.setRdata s.matrix.scfg[k.val])
      ∧ exec #v[.matrixScfg0W v, .matrixScfg1W v, .matrixScfg2W v, .matrixScfg3W v, .matrixScfg4W v][k.val] s
        = .next (s.setMatrix { s.matrix with scfg := s.matrix.scfg.set k.val v })
      ∧ exec #v[.matrixPras0R, .matrixPras1R, .matrixPras2R, .matrixPras3R, .matrixPras4R][k.val] s
        = .next (s.setRdata s.matrix.pras[k.val])
      ∧ exec #v[.matrixPras0W v, .matrixPras1W v, .matrixPras2W v, .matrixPras3W v, .matrixPras4W v][k.val] s
        = .next (s.setMatrix { s.matrix with pras := s.matrix.pras.set k.val v }))
    ∧ exec .matrixEbiCsaR s = .next (s.setRdata s.matrix.ebiCsa)
    ∧ exec (.matrixEbiCsaW v) s = .next (s.setMatrix { s.matrix with ebiCsa := v })
    ∧ exec .matrixMrcrR s = .next (s.setRdata s.matrix.mrcr)
    ∧ exec (.matrixMrcrW v) s = .next ((s.setMatrix { s.matrix with mrcr := v &&& 3#32 }).setBootTarget
        (if bit v 0 = true ∨ bit v 1 = true then .sram0 else if s.params.bms = true then .rom else .ebiNcs0))
    ∧ (field v 31 24 = 0xA5 → (bit v 0 = true ∨ bit v 2 = true) →
      exec (.rstcCrW v) s = .next ((socReset s).setRstc ⟨0#32, 3#3⟩))
    ∧ (field v 31 24 ≠ 0xA5 → exec (.rstcCrW v) s = .next s ∧ exec (.rstcMrW v) s = .next s)
    ∧ (bit v 0 = false → bit v 2 = false → exec (.rstcCrW v) s = .next s)
    ∧ exec .rstcSrR s = .next (s.setRdata ((s.rstc.rsttyp.setWidth 32 <<< 8) ||| 0x00010000#32))
    ∧ exec .rstcMrR s = .next (s.setRdata s.rstc.mr)
    ∧ (field v 31 24 = 0xA5 → exec (.rstcMrW v) s = .next (s.setRstc { s.rstc with mr := v &&& 0x00000FFF#32 }))

/-- R172, R173, R174: the SDRAM controller's storage, its refresh-error latch and its mask. A payload of the fault
frame is ignored, which is the model's choice (log entry 30). -/
def Obligations.SdramcRegisters : Prop :=
  (∀ (s : State) (v : Word), s.ready = true →
    exec .sdramcMrR s = .next (s.setRdata s.sdramc.mr)
    ∧ exec (.sdramcMrW v) s = .next (s.setSdramc { s.sdramc with mr := v &&& 0x00000007#32 })
    ∧ exec .sdramcTrR s = .next (s.setRdata s.sdramc.tr)
    ∧ exec (.sdramcTrW v) s = .next (s.setSdramc { s.sdramc with tr := v &&& 0x00000FFF#32 })
    ∧ exec .sdramcCrR s = .next (s.setRdata s.sdramc.cr)
    ∧ exec (.sdramcCrW v) s = .next (s.setSdramc { s.sdramc with cr := v })
    ∧ exec .sdramcLprR s = .next (s.setRdata s.sdramc.lpr)
    ∧ exec (.sdramcLprW v) s = .next (s.setSdramc { s.sdramc with lpr := v })
    ∧ exec .sdramcMdrR s = .next (s.setRdata s.sdramc.mdr)
    ∧ exec (.sdramcMdrW v) s = .next (s.setSdramc { s.sdramc with mdr := v &&& 0x00000003#32 })
    ∧ exec (.sdramcIerW v) s = .next (sdramcUpdateIrq (s.setSdramc
        { s.sdramc with imr := s.sdramc.imr || bit v 0 }))
    ∧ exec (.sdramcIdrW v) s = .next (sdramcUpdateIrq (s.setSdramc
        { s.sdramc with imr := s.sdramc.imr && !bit v 0 }))
    ∧ exec .sdramcImrR s = .next (s.setRdata (if s.sdramc.imr then 1#32 else 0#32))
    ∧ exec .sdramcIsrR s = .next ((sdramcUpdateIrq (s.setSdramc { s.sdramc with res := false })).setRdata
        (if s.sdramc.res then 1#32 else 0#32)))
  ∧ ∀ (s : State) (seq : Byte) (payload : List Byte), s.fault = none →
    exec (.sdramcFaultRes seq payload) s = .next (sdramcUpdateIrq (s.setSdramc { s.sdramc with res := true }))

/-! ### Interrupts -/

/-- R203 to R210, R220, R221: the AIC's registers. After every write but those of `SVR` and `SPU` both outputs are the
functions R217 and R218 give. -/
def Obligations.AicRegisters : Prop :=
  ∀ (s : State) (v : Word), s.ready = true →
    (∀ n : Fin 32, exec (.aicSmrR n) s = .next (s.setRdata s.aic.smr[n.val])
      ∧ exec (.aicSmrW n v) s = .next (s.setAic ({ s.aic with smr := s.aic.smr.set n.val (v &&& 0x67#32) }).update)
      ∧ exec (.aicSvrR n) s = .next (s.setRdata s.aic.svr[n.val])
      ∧ exec (.aicSvrW n v) s = .next (s.setAic { s.aic with svr := s.aic.svr.set n.val v }))
    ∧ exec .aicSpuR s = .next (s.setRdata s.aic.spu)
    ∧ exec (.aicSpuW v) s = .next (s.setAic { s.aic with spu := v })
    ∧ exec .aicDcrR s = .next (s.setRdata s.aic.dcr)
    ∧ exec (.aicDcrW v) s = .next (s.setAic ({ s.aic with dcr := v &&& 3#32 }).update)
    ∧ exec .aicImrR s = .next (s.setRdata s.aic.imr)
    ∧ exec (.aicIecrW v) s = .next (s.setAic ({ s.aic with imr := s.aic.imr ||| v }).update)
    ∧ exec (.aicIdcrW v) s = .next (s.setAic ({ s.aic with imr := s.aic.imr &&& ~~~v }).update)
    ∧ exec .aicFfsrR s = .next (s.setRdata s.aic.ffsr)
    ∧ exec (.aicFferW v) s = .next (s.setAic ({ s.aic with ffsr := s.aic.ffsr ||| (v &&& 0xFFFFFFFE#32) }).update)
    ∧ exec (.aicFfdrW v) s = .next (s.setAic ({ s.aic with ffsr := s.aic.ffsr &&& ~~~v }).update)
    ∧ (∃ w, exec (.aicIscrW v) s = .next (s.setAic ({ s.aic with latch := w }).update)
      ∧ ∀ n : Fin 32, bit w n.val = (bit s.aic.latch n.val || (bit v n.val && s.aic.isEdge n)))
    ∧ (∃ w, exec (.aicIccrW v) s = .next (s.setAic ({ s.aic with latch := w }).update)
      ∧ ∀ n : Fin 32, bit w n.val = (bit s.aic.latch n.val && !(bit v n.val && s.aic.isEdge n)))
    ∧ (∃ w, exec .aicIprR s = .next (s.setRdata w) ∧ ∀ n : Fin 32, bit w n.val = s.aic.pending n)
    ∧ (s.aic.stack = [] → exec .aicIsrR s = .next (s.setRdata 0#32))
    ∧ (∀ e es, s.aic.stack = es ++ [e] → exec .aicIsrR s = .next (s.setRdata (BitVec.ofNat 32 e.irq.val)))
    ∧ exec .aicCisrR s = .next (s.setRdata
        ((if s.aic.nfiq then 1#32 else 0#32) ||| (if s.aic.nirq then 2#32 else 0#32)))

/-- R212, R214, R215, R216, R219: reading and writing the vector registers, with an overflow of the stack, and the end
of an interrupt. -/
def Obligations.AicAcknowledge : Prop :=
  ∀ (s : State) (v : Word), s.ready = true →
    (∀ n, s.aic.select = some n → bit s.aic.dcr 0 = false → s.aic.stack.length ≠ 8 →
      exec .aicIvrR s = .next ((s.setAic ({ s.aic with
        stack := s.aic.stack ++ [AicEntry.mk n (s.aic.smr[n.val].extractLsb 2 0).toNat]
        latch := if s.aic.isEdge n then s.aic.latch &&& ~~~(1#32 <<< n.val) else s.aic.latch }).update).setRdata
          s.aic.svr[n.val]))
    ∧ (s.aic.select = none → bit s.aic.dcr 0 = false → s.aic.stack.length ≠ 8 →
      exec .aicIvrR s = .next ((s.setAic ({ s.aic with stack := s.aic.stack ++ [AicEntry.mk 0 8] }).update).setRdata
        s.aic.spu))
    ∧ (bit s.aic.dcr 0 = false → s.aic.stack.length = 8 →
      ∃ t, exec .aicIvrR s = .next t ∧ t.fault = some (.aicStack 8))
    ∧ (∀ n, s.aic.select = some n → bit s.aic.dcr 0 = true → exec .aicIvrR s = .next (s.setRdata s.aic.svr[n.val]))
    ∧ (s.aic.select = none → bit s.aic.dcr 0 = true → exec .aicIvrR s = .next (s.setRdata s.aic.spu))
    ∧ (bit s.aic.dcr 0 = false → exec (.aicIvrW v) s = .next s)
    ∧ (∀ n, s.aic.select = some n → bit s.aic.dcr 0 = true → s.aic.stack.length ≠ 8 →
      exec (.aicIvrW v) s = .next (s.setAic ({ s.aic with
        stack := s.aic.stack ++ [AicEntry.mk n (s.aic.smr[n.val].extractLsb 2 0).toNat]
        latch := if s.aic.isEdge n then s.aic.latch &&& ~~~(1#32 <<< n.val) else s.aic.latch }).update))
    ∧ (s.aic.select = none → bit s.aic.dcr 0 = true → s.aic.stack.length ≠ 8 →
      exec (.aicIvrW v) s = .next (s.setAic ({ s.aic with stack := s.aic.stack ++ [AicEntry.mk 0 8] }).update))
    ∧ (bit s.aic.dcr 0 = true → s.aic.stack.length = 8 →
      ∃ t, exec (.aicIvrW v) s = .next t ∧ t.fault = some (.aicStack 8))
    ∧ exec (.aicEoicrW v) s = .next (s.setAic ({ s.aic with stack := s.aic.stack.dropLast }).update)
    ∧ exec .aicFvrR s = .next ((s.setAic ({ s.aic with
        latch := if s.aic.isEdge 0 then s.aic.latch &&& ~~~1#32 else s.aic.latch }).update).setRdata s.aic.svr[0])

/-- R202, R211: when a line is pending; the line selected has the greatest priority of all lines that are pending,
enabled and not fast-forced, and the smallest number among those of that priority; the in-service stack plays no part. -/
def Obligations.AicSelection : Prop :=
  (∀ (a : Aic) (n : Fin 32),
    (a.isEdge n = true → a.pending n = bit a.latch n.val)
    ∧ (a.isEdge n = false → (a.pending n = true ↔
      (a.effType n = .levelHigh ∧ bit a.line n.val = true) ∨ (a.effType n = .levelLow ∧ bit a.line n.val = false))))
  ∧ ∀ a : Aic,
    (∀ n, a.cand n = true ↔
      n.val ≠ 0 ∧ a.pending n = true ∧ bit a.imr n.val = true ∧ bit a.ffsr n.val = false)
    ∧ (∀ n, a.select = some n ↔ a.cand n = true ∧ ∀ m, a.cand m = true →
      a.prio m < a.prio n ∨ a.prio m = a.prio n ∧ n.val ≤ m.val)
    ∧ (a.select = none ↔ ∀ n, a.cand n = false)
    ∧ (∀ n, a.prio n = (a.smr[n.val].extractLsb 2 0).toNat)
    ∧ ∀ st, ({ a with stack := st } : Aic).select = a.select

/-- R201, R217, R218: the type each line has, and both outputs. -/
def Obligations.AicOutputs : Prop :=
  (∀ (a : Aic) (n : Fin 32),
    (1 ≤ n.val → n.val ≤ 28 → a.effType n = if bit a.smr[n.val] 5 then .edgeRising else .levelHigh)
    ∧ (n.val ∈ [0, 29, 30, 31] → a.effType n = match bit a.smr[n.val] 6, bit a.smr[n.val] 5 with
      | false, false => .levelLow
      | false, true => .edgeFalling
      | true, false => .levelHigh
      | true, true => .edgeRising)
    ∧ (a.isEdge n = true ↔ a.effType n = .edgeFalling ∨ a.effType n = .edgeRising))
  ∧ ∀ a : Aic,
    (a.update.nirq = true ↔ bit a.dcr 1 = false ∧ ∃ n, a.cand n = true
      ∧ (a.stack = [] ∨ ∃ es e, a.stack = es ++ [e] ∧ e.prio < a.prio n))
    ∧ (a.update.nfiq = true ↔ bit a.dcr 1 = false ∧ ((a.pending 0 = true ∧ bit a.imr 0 = true)
      ∨ ∃ n : Fin 32, 1 ≤ n.val ∧ bit a.ffsr n.val = true ∧ a.pending n = true ∧ bit a.imr n.val = true))
    ∧ a.update = { a with nirq := a.update.nirq, nfiq := a.update.nfiq }

/-- R223, R225: the acknowledge of line n clears its bit of `IPR` for an edge line and leaves it for a level line,
leaves every other bit alone, and de-asserts nIRQ, since no candidate is above it; the end of interrupt that follows
it takes the entry off the stack. -/
def Obligations.AcknowledgeProtocol : Prop :=
  ∀ (s t : State) (n : Fin 32) (v : Word), s.ready = true → s.aic.select = some n → bit s.aic.dcr 0 = false →
    s.aic.stack.length < 8 → exec .aicIvrR s = .next t →
      t.fault = none
      ∧ (s.aic.isEdge n = true → t.aic.pending n = false)
      ∧ (s.aic.isEdge n = false → t.aic.pending n = true)
      ∧ (∀ m, m ≠ n → t.aic.pending m = s.aic.pending m)
      ∧ t.aic.nirq = false
      ∧ ∃ u, exec (.aicEoicrW v) t = .next u ∧ u.aic.stack = s.aic.stack
        ∧ (s.aic.isEdge n = false → bit s.aic.dcr 1 = false → s.aic.stack = [] → u.aic.nirq = true)

/-- R222, R224: a line takes its new level, an edge of the line's type sets its latch, the outputs follow, and the
level a line already has changes nothing; the stub drives line 1 with the OR of its inputs. A pin is one of the lines
0, 29, 30 and 31 (R780). That a step of a pin on any other line has no effect is the model's choice (log entry 9). -/
def Obligations.InterruptLines : Prop :=
  (∀ (s : State) (n : Fin 32) (b : Bool),
    (bit s.aic.line n.val = b → driveLine n b s = s)
    ∧ (bit s.aic.line n.val ≠ b → ∃ w l, driveLine n b s = s.setAic ({ s.aic with line := w, latch := l }).update
      ∧ bit w n.val = b ∧ (∀ m : Fin 32, m ≠ n → bit w m.val = bit s.aic.line m.val ∧ bit l m.val = bit s.aic.latch m.val)
      ∧ (bit l n.val = true ↔ bit s.aic.latch n.val = true ∨ (s.aic.effType n = .edgeRising ∧ b = true)
        ∨ (s.aic.effType n = .edgeFalling ∧ b = false))))
  ∧ (∀ (s : State) (k : Fin 32) (b : Bool),
    ∃ w, driveStub k b s = driveLine 1 (decide (w ≠ 0#32)) (s.setStubIn w)
      ∧ bit w k.val = b ∧ ∀ m : Fin 32, m ≠ k → bit w m.val = bit s.stubIn m.val)
  ∧ (∀ (s : State) (n : Fin 32) (b : Bool) (rest : List Input), s.fault = none → s.inputs = .pin n b :: rest →
    (n.val ∈ [0, 29, 30, 31] → step s = .next (driveLine n b (s.setInputs rest)))
    ∧ (n.val ∉ [0, 29, 30, 31] → step s = .next (s.setInputs rest)))

/-- R307, R377, R438, R486, R557, R585, R595, R640, R662, R680, R175, R260 and R269 with R778, R780 and R781: the level
of every interrupt output after its recomputation, at the line or stub input it drives, with the frame, and which
output a transfer of each PDC and a write of its counts end with. The count of questions asked of the card, which the
MCI's recomputation moves on by one, is the model's own record (log entries 4 and 24). -/
def Obligations.InterruptOutputs : Prop :=
  ∀ s : State,
    (∀ u : Fin 6, usartUpdateIrq u s = driveLine (#v[6, 7, 8, 23, 24, 25][u.val])
      (decide (s.usartCsr u &&& (s.usart u).imr ≠ 0#32)) s)
    ∧ (∀ u : Fin 2, spiUpdateIrq u s = driveLine (#v[12, 13][u.val]) (decide (s.spiSr u &&& (s.spi u).imr ≠ 0#32)) s)
    ∧ twiUpdateIrq s = driveLine 11 (decide (s.twiSr &&& s.twi.imr ≠ 0#32)) s
    ∧ mciUpdateIrq s = (driveLine 9 (decide (s.mciSr &&& s.mci.imr ≠ 0#32)) s).setSd
      { s.sd with asks := s.sd.asks + 1 }
    ∧ (∀ c : Fin 6, tcUpdateIrq c s = driveLine (#v[17, 18, 19, 26, 27, 28][c.val])
      (decide ((s.tc c).latches &&& (s.tc c).imr ≠ 0#8)) s)
    ∧ (∀ p : Fin 3, pioUpdateIrq p s = driveLine (#v[2, 3, 4][p.val])
      (decide ((s.pio p).isr &&& (s.pio p).imr ≠ 0#32)) s)
    ∧ pitUpdateIrq s = driveStub 0 (s.pit.pits && bit s.pit.mr 25) s
    ∧ rttUpdateIrq s = driveStub 1 ((s.rtt.alms && bit s.rtt.mr 16) || (s.rtt.rttinc && bit s.rtt.mr 17)) s
    ∧ dbguUpdateIrq s = driveStub 2 (decide (s.dbgu.sr &&& s.dbgu.imr ≠ 0#32)) s
    ∧ pmcUpdateIrq s = driveStub 3 (decide (s.pmc.sr &&& s.pmc.imr ≠ 0#32)) s
    ∧ sdramcUpdateIrq s = driveStub 4 (s.sdramc.res && s.sdramc.imr) s
    ∧ (∀ u, pdcUpdateIrq (.usart u) s = usartUpdateIrq u s) ∧ (∀ u, pdcUpdateIrq (.spi u) s = spiUpdateIrq u s)
    ∧ pdcUpdateIrq .twi s = twiUpdateIrq s ∧ pdcUpdateIrq .mci s = mciUpdateIrq s
    ∧ (∀ n b, driveLine n b s = s.setAic (driveLine n b s).aic ∧ bit (driveLine n b s).aic.line n.val = b)
    ∧ ∀ k b, driveStub k b s = (s.setStubIn (driveStub k b s).stubIn).setAic (driveStub k b s).aic

/-! ### PDC -/

/-- R262, R263 to R267: every pointer write takes the datum, and every register that can be read returns its value. -/
def Obligations.PdcPointersAndReads : Prop :=
  ∀ (s : State) (h : PdcHost) (v : Word), s.ready = true →
    exec (.pdcRprR h) s = .next (s.setRdata (s.pdc h).rpr)
    ∧ exec (.pdcTprR h) s = .next (s.setRdata (s.pdc h).tpr)
    ∧ exec (.pdcRnprR h) s = .next (s.setRdata (s.pdc h).rnpr)
    ∧ exec (.pdcTnprR h) s = .next (s.setRdata (s.pdc h).tnpr)
    ∧ exec (.pdcRprW h v) s = .next (s.setPdc h { s.pdc h with rpr := v })
    ∧ exec (.pdcTprW h v) s = .next (s.setPdc h { s.pdc h with tpr := v })
    ∧ exec (.pdcRnprW h v) s = .next (s.setPdc h { s.pdc h with rnpr := v })
    ∧ exec (.pdcTnprW h v) s = .next (s.setPdc h { s.pdc h with tnpr := v })
    ∧ exec (.pdcRcrR h) s = .next (s.setRdata ((s.pdc h).rcr.setWidth 32))
    ∧ exec (.pdcTcrR h) s = .next (s.setRdata ((s.pdc h).tcr.setWidth 32))
    ∧ exec (.pdcRncrR h) s = .next (s.setRdata ((s.pdc h).rncr.setWidth 32))
    ∧ exec (.pdcTncrR h) s = .next (s.setRdata ((s.pdc h).tncr.setWidth 32))
    ∧ exec (.pdcPtsrR h) s = .next (s.setRdata
        ((if (s.pdc h).rxten then 1#32 else 0#32) ||| (if (s.pdc h).txten then 0x100#32 else 0#32)))

/-- R263 to R265 with R268: a count written while no transfer starts is stored, a non-zero one clears the end flag, a
count of 0 on an enabled channel sets it, and the buffer flag follows both counts. A write that starts a transfer
stores the count and then runs the start procedure of its host, and the interrupt output follows unless that aborts:
what the procedures do is in `UsartDmaReceive`, `UsartDmaTransmit`, `SpiLoopback`, `SpiClientTransfer`, `TwiReceive`,
`TwiTransmit` and `MciPdcTransfers`. -/
def Obligations.PdcCounts : Prop :=
  ∀ (s : State) (h : PdcHost) (v : Word), s.ready = true →
    let p := s.pdc h
    let n : BitVec 16 := v.extractLsb 15 0
    (p.rxten = false → exec (.pdcRcrW h v) s = .next (pdcUpdateIrq h (s.setPdc h
        { p with rcr := n, endrx := p.endrx && decide (n = 0#16), rxbuff := false })))
    ∧ (p.txten = false → exec (.pdcTcrW h v) s = .next (pdcUpdateIrq h (s.setPdc h
        { p with tcr := n, endtx := p.endtx && decide (n = 0#16), txbufe := false })))
    ∧ (p.rxten = false → exec (.pdcRncrW h v) s = .next (pdcUpdateIrq h (s.setPdc h
        { p with rncr := n, endrx := p.endrx && decide (n = 0#16), rxbuff := false })))
    ∧ (p.txten = false → exec (.pdcTncrW h v) s = .next (pdcUpdateIrq h (s.setPdc h
        { p with tncr := n, endtx := p.endtx && decide (n = 0#16), txbufe := false })))
    ∧ (p.rxten = true → n = 0#16 → exec (.pdcRcrW h v) s = .next (pdcUpdateIrq h (s.setPdc h
        { p with rcr := 0#16, endrx := true, rxbuff := decide (p.rncr = 0#16) })))
    ∧ (p.txten = true → n = 0#16 → exec (.pdcTcrW h v) s = .next (pdcUpdateIrq h (s.setPdc h
        { p with tcr := 0#16, endtx := true, txbufe := decide (p.tncr = 0#16) })))
    ∧ (p.rxten = true → p.rcr ≠ 0#16 → exec (.pdcRncrW h v) s = .next (pdcUpdateIrq h (s.setPdc h
        { p with rncr := n, endrx := p.endrx && decide (n = 0#16), rxbuff := false })))
    ∧ (p.txten = true → p.tcr ≠ 0#16 → exec (.pdcTncrW h v) s = .next (pdcUpdateIrq h (s.setPdc h
        { p with tncr := n, endtx := p.endtx && decide (n = 0#16), txbufe := false })))
    ∧ (p.rxten = true → p.rcr = 0#16 → n = 0#16 → exec (.pdcRncrW h v) s = .next (pdcUpdateIrq h (s.setPdc h
        { p with rncr := 0#16, endrx := true, rxbuff := true })))
    ∧ (p.txten = true → p.tcr = 0#16 → n = 0#16 → exec (.pdcTncrW h v) s = .next (pdcUpdateIrq h (s.setPdc h
        { p with tncr := 0#16, endtx := true, txbufe := true })))
    ∧ (p.rxten = true → n ≠ 0#16 →
      let t := pdcRxStart h (s.setPdc h { p with rcr := n, endrx := false, rxbuff := false })
      exec (.pdcRcrW h v) s = .next (if t.fault = none then pdcUpdateIrq h t else t))
    ∧ (p.txten = true → n ≠ 0#16 →
      let t := pdcTxStart h (s.setPdc h { p with tcr := n, endtx := false, txbufe := false })
      exec (.pdcTcrW h v) s = .next (if t.fault = none then pdcUpdateIrq h t else t))
    ∧ (p.rxten = true → p.rcr = 0#16 → n ≠ 0#16 →
      let t := pdcRxStart h (s.setPdc h { p with rncr := n, endrx := false, rxbuff := false })
      exec (.pdcRncrW h v) s = .next (if t.fault = none then pdcUpdateIrq h t else t))
    ∧ (p.txten = true → p.tcr = 0#16 → n ≠ 0#16 →
      let t := pdcTxStart h (s.setPdc h { p with tncr := n, endtx := false, txbufe := false })
      exec (.pdcTncrW h v) s = .next (if t.fault = none then pdcUpdateIrq h t else t))

/-- R266: `PTCR`. A disable bit wins over the enable bit of the same write; in the half-duplex instances (TWI and MCI)
enabling the receiver disables the transmitter and keeps it from being enabled; the end flag of an enabled channel
whose count is 0 is set and the buffer flags follow; then an enabled receiver with something to receive into starts,
and after it an enabled transmitter with something to send, unless the receiver's start has aborted. What the start
procedures do is in the statements that `PdcCounts` names. -/
def Obligations.PdcControl : Prop :=
  ∀ (s : State) (h : PdcHost) (v : Word), s.ready = true →
    let p := s.pdc h
    let half := decide (h = .twi) || decide (h = .mci)
    let rx := p.rxten || bit v 0
    let tx := (p.txten && !(bit v 0 && half)) || (bit v 8 && !(half && rx))
    let rxten := rx && !bit v 1
    let txten := tx && !bit v 9
    let q : Pdc := { p with
      rxten := rxten, txten := txten
      endrx := p.endrx || (rxten && decide (p.rcr = 0#16)), endtx := p.endtx || (txten && decide (p.tcr = 0#16))
      rxbuff := rxten && decide (p.rcr = 0#16) && decide (p.rncr = 0#16)
      txbufe := txten && decide (p.tcr = 0#16) && decide (p.tncr = 0#16) }
    let s1 := s.setPdc h q
    let s2 := if rxten = true ∧ (p.rcr ≠ 0#16 ∨ p.rncr ≠ 0#16) then pdcRxStart h s1 else s1
    let r := s2.pdc h
    let s3 := if s2.fault = none ∧ r.txten = true ∧ (r.tcr ≠ 0#16 ∨ r.tncr ≠ 0#16) then pdcTxStart h s2 else s2
    ((rxten = false ∨ p.rcr = 0#16 ∧ p.rncr = 0#16) → (txten = false ∨ p.tcr = 0#16 ∧ p.tncr = 0#16) →
      exec (.pdcPtcrW h v) s = .next (pdcUpdateIrq h s1))
    ∧ exec (.pdcPtcrW h v) s = .next (if s3.fault = none then pdcUpdateIrq h s3 else s3)

/-- R270, R310, R322, property 4 of the source: bytes that arrive on a USART whose receive DMA is armed go to memory,
into the current buffer and, after the roll-over, into the next; the counts and flags follow, and the first byte the
buffers have no room for is offered through `RHR`. The same holds of characters that were waiting when the channel
starts. A buffer that may not be written aborts (R273). The USART's interrupt output is then the level of its status
under its mask, and no other line changes (R269, R778). -/
def Obligations.UsartDmaReceive : Prop :=
  (∀ (s : State) (u : Fin 6) (seq : Byte) (bs : List Byte),
    let x := s.usart u
    let p := s.pdc (.usart u)
    let n := min bs.length p.rxRoom
    s.fault = none → x.rxEnabled = true → x.rxq = [] → x.rxrdy = false → p.rxten = true → p.rxRoom ≠ 0 → bs ≠ [] →
    (s.receiveBuffersOk (.usart u) 1 n = true →
      ∃ t, exec (.usartDataIn u seq bs) s = .next t
        ∧ t.fault = none
        ∧ t.mem = (s.storeReceived (.usart u) ((bs.take n).map fun b => [b])).mem
        ∧ t.pdc (.usart u) = p.afterReceive 1 n
        ∧ (bs.length ≤ p.rxRoom → t.usart u = x)
        ∧ (∀ c cs, bs.drop n = c :: cs →
          t.usart u = { x with rhr := c.setWidth 9, rxrdy := true, rxq := cs.map (·.setWidth 9) })
        ∧ t.link (.usart u) = { s.link (.usart u) with
            outq := (s.link (.usart u)).outq ++ [⟨seq, 1#8, 1#8, [0#8, 0#8, 0#8, 0#8]⟩] }
        ∧ t = ((((s.setMem t.mem).setPdc (.usart u) (t.pdc (.usart u))).setUsart u (t.usart u)).setLink (.usart u)
            (t.link (.usart u))).setAic t.aic
        ∧ irqFollows (.usart u) s t)
    ∧ (s.receiveBuffersOk (.usart u) 1 n = false →
      ∃ t a e, exec (.usartDataIn u seq bs) s = .next t ∧ t.fault = some (.dma (.usart u) a e)))
  ∧ ∀ (s : State) (u : Fin 6),
    let x := s.usart u
    let p := s.pdc (.usart u)
    let n := min x.rxq.length p.rxRoom
    let t := pdcRxStart (.usart u) s
    s.fault = none → x.rxEnabled = true → x.rxq ≠ [] → p.rxten = true → p.rxRoom ≠ 0 →
    (s.receiveBuffersOk (.usart u) 1 n = true →
      t.fault = none
      ∧ t.mem = (s.storeReceived (.usart u) ((x.rxq.take n).map fun c => [c.setWidth 8])).mem
      ∧ t.pdc (.usart u) = p.afterReceive 1 n
      ∧ t.usart u = (match x.rxq.drop n with
        | [] => { x with rxq := [] }
        | c :: cs => if x.rxrdy then { x with rxq := c :: cs } else { x with rhr := c, rxrdy := true, rxq := cs })
      ∧ t = (((s.setMem t.mem).setPdc (.usart u) (t.pdc (.usart u))).setUsart u (t.usart u)).setAic t.aic
      ∧ irqFollows (.usart u) s t)
    ∧ (s.receiveBuffersOk (.usart u) 1 n = false →
      ∃ a e, t.fault = some (.dma (.usart u) a e))

/-- R264 to R266, R272, R314: the transmit DMA of a USART sends each of its buffers as one transmission inside the
step that starts it: a write of `TCR`, a write of `TNCR` with the current buffer used up, or the enabling of the
channel. A buffer that may not be read aborts (R273), and the second of two is judged after the first has left. The
USART's interrupt output is then the level of its status under its mask, and no other line changes (R269, R778). -/
def Obligations.UsartDmaTransmit : Prop :=
  ∀ (s : State) (u : Fin 6),
    let h := PdcHost.usart u
    let p := s.pdc h
    (s.fault = none → p.txten = true → p.txCount ≠ 0 → s.sendBuffersOk h 1 p.txCount = true →
      let t := pdcTxStart h s
      t.fault = none
      ∧ t.pdc h = p.afterSend 1 p.txCount
      ∧ t.link (.usart u) = ((s.sentBuffers h 1 p.txCount).foldl (fun r b => emitData (.usart u) b r) s).link (.usart u)
      ∧ t = ((s.setPdc h (t.pdc h)).setLink (.usart u) (t.link (.usart u))).setAic t.aic
      ∧ irqFollows h s t)
    ∧ (s.fault = none → p.txten = true → p.txCount ≠ 0 → s.sendBuffersOk h 1 p.txCount = false →
      (pdcTxStart h s).fault = some (.dma h
        (if s.readableBuffer p.txCurrent.tpr p.txCurrent.tcr.toNat then p.txCurrent.tnpr else p.txCurrent.tpr)
        .notMemory))
    ∧ (∀ v : Word,
      let n : BitVec 16 := v.extractLsb 15 0
      s.ready = true → p.txten = true → p.tncr = 0#16 → n ≠ 0#16 → s.readableBuffer p.tpr n.toNat = true →
        ∃ t, exec (.pdcTcrW h v) s = .next t
          ∧ t.pdc h = { p with tpr := p.tpr + BitVec.ofNat 32 n.toNat, tcr := 0#16, endtx := true, txbufe := true }
          ∧ t.link (.usart u) = (emitData (.usart u) (s.loadBytes p.tpr n.toNat) s).link (.usart u)
          ∧ t = ((s.setPdc h (t.pdc h)).setLink (.usart u) (t.link (.usart u))).setAic t.aic
          ∧ irqFollows h s t)
    ∧ (∀ v : Word,
      let n : BitVec 16 := v.extractLsb 15 0
      s.ready = true → p.txten = true → p.tcr = 0#16 → n ≠ 0#16 → s.readableBuffer p.tnpr n.toNat = true →
        ∃ t, exec (.pdcTncrW h v) s = .next t
          ∧ t.pdc h = { p with
              tpr := p.tnpr + BitVec.ofNat 32 n.toNat, tcr := 0#16, tncr := 0#16, endtx := true, txbufe := true }
          ∧ t.link (.usart u) = (emitData (.usart u) (s.loadBytes p.tnpr n.toNat) s).link (.usart u)
          ∧ t = ((s.setPdc h (t.pdc h)).setLink (.usart u) (t.link (.usart u))).setAic t.aic
          ∧ irqFollows h s t)
    ∧ (s.ready = true → p.rxten = false → p.tcr ≠ 0#16 → p.tncr ≠ 0#16 → s.sendBuffersOk h 1 p.txCount = true →
        ∃ t, exec (.pdcPtcrW h 0x100#32) s = .next t
          ∧ t.pdc h = { p with
              tpr := p.tnpr + BitVec.ofNat 32 p.tncr.toNat, tcr := 0#16, tncr := 0#16, txten := true, endtx := true
              txbufe := true, rxbuff := false }
          ∧ t.link (.usart u) = (emitData (.usart u) (s.loadBytes p.tnpr p.tncr.toNat)
              (emitData (.usart u) (s.loadBytes p.tpr p.tcr.toNat) s)).link (.usart u)
          ∧ t = ((s.setPdc h (t.pdc h)).setLink (.usart u) (t.link (.usart u))).setAic t.aic
          ∧ irqFollows h s t)

/-! ### USART -/

/-- R302, R305, R306, R318, R319, R320: the USART's storage registers under their layouts, its mask and its status.
The baud rate is the informational number of R318: 0 with `CD` = 0, and the formula of the mode else, for every frequency
of the clocks that are neither MCK nor MCK/8. The codes of `USCLKS` and of the ISO7816 modes, that MCK/8 is rounded first,
which of two modes wins and the 0 for a zero ratio are the model's choices (log entry 21). -/
def Obligations.UsartRegisters : Prop :=
  ∀ (s : State) (u : Fin 6) (v : Word), s.ready = true →
    let x := s.usart u
    let p := s.pdc (.usart u)
    (∀ (hz : Nat) (y : Usart), usartBaud u hz y =
      (let clk := match field y.mr 5 4 with
        | 0 => hz
        | 1 => hz / 8
        | code => Config.usartOtherClock u code
      let cd := field y.brgr 15 0
      let ratio := field y.fidi 10 0
      if cd = 0 then 0
      else if field y.mr 3 0 = 4 ∨ field y.mr 3 0 = 6 then (if ratio = 0 then 0 else clk / (cd * ratio))
      else if bit y.mr 8 then clk / cd
      else clk / ((if bit y.mr 19 then 1 else 2) * (8 * cd + field y.brgr 18 16))))
    ∧ exec (.usartMrR u) s = .next (s.setRdata x.mr)
    ∧ exec (.usartMrW u v) s = .next (s.setUsart u { x with mr := v &&& 0xF73FFFFF#32 })
    ∧ exec (.usartIerW u v) s = .next (usartUpdateIrq u (s.setUsart u { x with imr := x.imr ||| (v &&& 0x01FF3FFF#32) }))
    ∧ exec (.usartIdrW u v) s = .next (usartUpdateIrq u (s.setUsart u { x with imr := x.imr &&& ~~~v }))
    ∧ exec (.usartImrR u) s = .next (s.setRdata x.imr)
    ∧ (∃ w, exec (.usartCsrR u) s = .next (s.setRdata w)
      ∧ bit w 0 = (x.rxrdy && x.rxEnabled) ∧ bit w 1 = x.txEnabled ∧ bit w 3 = p.endrx ∧ bit w 4 = p.endtx
      ∧ bit w 5 = x.ovre ∧ bit w 6 = x.frame ∧ bit w 7 = x.pare ∧ bit w 8 = x.timeout ∧ bit w 9 = x.txEnabled
      ∧ bit w 11 = p.txbufe ∧ bit w 12 = p.rxbuff ∧ w &&& 0xFFFFE404#32 = 0#32)
    ∧ exec (.usartBrgrR u) s = .next (s.setRdata x.brgr)
    ∧ exec (.usartBrgrW u v) s = .next (s.setUsart u { x with
        brgr := v &&& 0x0007FFFF#32, baud := usartBaud u s.pmc.mclkHz { x with brgr := v &&& 0x0007FFFF#32 } })
    ∧ exec (.usartRtorR u) s = .next (s.setRdata x.rtor)
    ∧ exec (.usartRtorW u v) s = .next (s.setUsart u { x with rtor := v &&& 0x0000FFFF#32 })
    ∧ exec (.usartTtgrR u) s = .next (s.setRdata x.ttgr)
    ∧ exec (.usartTtgrW u v) s = .next (s.setUsart u { x with ttgr := v &&& 0x000000FF#32 })
    ∧ exec (.usartFidiR u) s = .next (s.setRdata x.fidi)
    ∧ exec (.usartFidiW u v) s = .next (s.setUsart u { x with
        fidi := v &&& 0x000007FF#32, baud := usartBaud u s.pmc.mclkHz { x with fidi := v &&& 0x000007FF#32 } })
    ∧ exec (.usartNerR u) s = .next (s.setRdata 0#32)
    ∧ exec (.usartIfR u) s = .next (s.setRdata x.ifr)
    ∧ exec (.usartIfW u v) s = .next (s.setUsart u { x with ifr := v &&& 0x000000FF#32 })
    ∧ exec (.usartManR u) s = .next (s.setRdata x.man)
    ∧ exec (.usartManW u v) s = .next (s.setUsart u { x with man := v })

/-- R303, R304: the enables, the receive queue and the latches after a `CR` write; a disable bit wins. The receive
pump runs after them: with the receive DMA armed it is the start procedure of `UsartDmaReceive`, and the interrupt
output follows unless that aborts; without it the receiver, if it is on afterwards and `RHR` is free, takes the first
character waiting. -/
def Obligations.UsartControl : Prop :=
  ∀ (s : State) (u : Fin 6) (v : Word), s.ready = true →
    let x := s.usart u
    let rst := bit v 2
    let y : Usart := { x with
      rxEnabled := ((x.rxEnabled && !rst) || bit v 4) && !bit v 5
      txEnabled := ((x.txEnabled && !bit v 3) || bit v 6) && !bit v 7
      rxq := if rst then [] else x.rxq
      ovre := x.ovre && !rst && !bit v 8
      frame := x.frame && !rst && !bit v 8
      pare := x.pare && !rst && !bit v 8
      timeout := x.timeout && !rst && !bit v 11 && !bit v 15 }
    let z : Usart := match y.rxq with
      | [] => y
      | c :: cs => if y.rxEnabled && !y.rxrdy then { y with rhr := c, rxrdy := true, rxq := cs } else y
    let r := pdcRxStart (.usart u) (s.setUsart u y)
    exec (.usartCrW u v) s = .next (if r.fault = none then usartUpdateIrq u r else r)
    ∧ ((s.pdc (.usart u)).rxActive = false →
      ∃ t, exec (.usartCrW u v) s = .next t ∧ t = (s.setUsart u z).setAic t.aic
        ∧ t = usartUpdateIrq u (s.setUsart u z))

/-- R308 to R311, R301: a DATA_IN frame and a read of `RHR`: the frame is refused with ENXIO while the receiver is
off; else its characters join the queue, an overrun judged once on the state before the frame, and the receive pump
runs before the reply, which copies `seq`; the read gives the character held and runs the pump. With the receive DMA
armed the pump is the start procedure of `UsartDmaReceive`; without it one character goes to `RHR` if it is free, and
none is lost. -/
def Obligations.UsartReceive : Prop :=
  ∀ (s : State) (u : Fin 6),
    let x := s.usart u
    (∀ seq bs, s.fault = none → x.rxEnabled = false →
      exec (.usartDataIn u seq bs) s = .next (reply (.usart u) seq 6#32 s))
    ∧ (∀ seq bs, s.fault = none → x.rxEnabled = true →
      let t := pdcRxStart (.usart u) (s.setUsart u
        { x with ovre := x.ovre || x.rxrdy, rxq := x.rxq ++ bs.map (·.setWidth 9) })
      exec (.usartDataIn u seq bs) s = .next (if t.fault = none then reply (.usart u) seq 0#32 t else t))
    ∧ (s.ready = true →
      let t := pdcRxStart (.usart u) (s.setUsart u { x with rxrdy := false })
      exec (.usartRhrR u) s = .next (if t.fault = none then t.setRdata (x.rhr.setWidth 32) else t))
    ∧ (∀ seq bs, s.fault = none → x.rxEnabled = true → (s.pdc (.usart u)).rxActive = false → x.rxrdy = true →
      exec (.usartDataIn u seq bs) s = .next (reply (.usart u) seq 0#32 (usartUpdateIrq u (s.setUsart u
        { x with ovre := true, rxq := x.rxq ++ bs.map (·.setWidth 9) }))))
    ∧ (∀ seq bs c cs, s.fault = none → x.rxEnabled = true → (s.pdc (.usart u)).rxActive = false →
      x.rxrdy = false → x.rxq ++ bs.map (·.setWidth 9) = c :: cs →
      exec (.usartDataIn u seq bs) s = .next (reply (.usart u) seq 0#32 (usartUpdateIrq u (s.setUsart u
        { x with rhr := c, rxrdy := true, rxq := cs }))))
    ∧ (∀ seq, s.fault = none → x.rxEnabled = true → x.rxrdy = false → x.rxq = [] →
      exec (.usartDataIn u seq []) s = .next (reply (.usart u) seq 0#32 (usartUpdateIrq u s)))
    ∧ (s.ready = true → (x.rxEnabled = false ∨ x.rxq = []) →
      exec (.usartRhrR u) s = .next ((usartUpdateIrq u (s.setUsart u { x with rxrdy := false })).setRdata
        (x.rhr.setWidth 32)))
    ∧ (∀ c cs, s.ready = true → x.rxEnabled = true → (s.pdc (.usart u)).rxActive = false → x.rxq = c :: cs →
      exec (.usartRhrR u) s = .next ((usartUpdateIrq u (s.setUsart u
        { x with rhr := c, rxrdy := true, rxq := cs })).setRdata (x.rhr.setWidth 32)))

/-- R313, R315, R732: `THR` sends one byte if the transmitter is on and is dropped if not; a transmission of the owner
leaves on the link; each fault frame sets its latch, whatever its payload. A transmission of the owner is an input of
its own (log entry 9), and what the DATA_OUT row does by itself is the model's choice (log entry 20). -/
def Obligations.UsartTransmitAndFaults : Prop :=
  ∀ (s : State) (u : Fin 6),
    let x := s.usart u
    (∀ v, s.ready = true → x.txEnabled = true →
      exec (.usartThrW u v) s = .next (emitData (.usart u) [v.setWidth 8] s))
    ∧ (∀ v, s.ready = true → x.txEnabled = false → exec (.usartThrW u v) s = .next s)
    ∧ (∀ bs, s.fault = none → exec (.usartDataOut u bs) s = .next (emitData (.usart u) bs s))
    ∧ ∀ seq bs, s.fault = none →
      exec (.usartFaultOvre u seq bs) s = .next (usartUpdateIrq u (s.setUsart u { x with ovre := true }))
      ∧ exec (.usartFaultFrame u seq bs) s = .next (usartUpdateIrq u (s.setUsart u { x with frame := true }))
      ∧ exec (.usartFaultPare u seq bs) s = .next (usartUpdateIrq u (s.setUsart u { x with pare := true }))
      ∧ exec (.usartFaultTimeout u seq bs) s = .next (usartUpdateIrq u (s.setUsart u { x with timeout := true }))

/-! ### SPI -/

/-- R373 to R376: the SPI's storage registers, its status with the latches a read clears, and its mask; an illegal
word width aborts. -/
def Obligations.SpiRegisters : Prop :=
  ∀ (s : State) (u : Fin 2) (v : Word), s.ready = true →
    let x := s.spi u
    let p := s.pdc (.spi u)
    exec (.spiMrR u) s = .next (s.setRdata x.mr)
    ∧ exec (.spiMrW u v) s = .next (s.setSpi u { x with mr := v &&& 0xFF0F0097#32 })
    ∧ (∀ k : Fin 4, exec (.spiCsrR u k) s = .next (s.setRdata x.csr[k.val]))
    ∧ (∀ k : Fin 4, field v 7 4 ≤ 8 →
      exec (.spiCsrW u k v) s = .next (s.setSpi u { x with csr := x.csr.set k.val (v &&& 0xFFFFFFFB#32) }))
    ∧ (∀ k : Fin 4, 8 < field v 7 4 →
      ∃ t, exec (.spiCsrW u k v) s = .next t ∧ t.fault = some (.spiBits u (0x30 + 4 * k.val) v))
    ∧ (∃ w, exec (.spiSrR u) s = .next ((spiUpdateIrq u (s.setSpi u
        { x with modf := false, ovres := false })).setRdata w)
      ∧ bit w 0 = x.rdrf ∧ bit w 1 = x.enabled ∧ bit w 2 = x.modf ∧ bit w 3 = x.ovres ∧ bit w 4 = p.endrx
      ∧ bit w 5 = p.endtx ∧ bit w 6 = p.rxbuff ∧ bit w 7 = p.txbufe ∧ bit w 9 = x.enabled ∧ bit w 16 = x.enabled
      ∧ w &&& 0xFFFEFD00#32 = 0#32)
    ∧ exec (.spiIerW u v) s = .next (spiUpdateIrq u (s.setSpi u { x with imr := x.imr ||| (v &&& 0x3FF#32) }))
    ∧ exec (.spiIdrW u v) s = .next (spiUpdateIrq u (s.setSpi u { x with imr := x.imr &&& ~~~v }))
    ∧ exec (.spiImrR u) s = .next (s.setRdata x.imr)

/-- R372, R393, R389: the software reset and the enables of `CR`; a transmit DMA armed while the SPI was disabled
starts when the write leaves it enabled, and the interrupt output follows unless that aborts (what the start does is
in `SpiLoopback` and `SpiClientTransfer`); and the fault frames. A payload of a fault frame is ignored, which is the
model's choice (log entry 30). -/
def Obligations.SpiControlAndFaults : Prop :=
  ∀ (s : State) (u : Fin 2),
    let x := s.spi u
    (∀ v, s.ready = true → (s.pdc (.spi u)).txActive = false →
      let y : Spi := if bit v 7 then
          { mr := 0, csr := #v[0, 0, 0, 0], imr := 0, enabled := false, rdrData := 0, rdrPcs := 0, rdrf := false
            ovres := false, modf := false, rxq := [], awaiting := none, echoAcc := [], lastPcs := 0, lastBits := 8 }
        else x
      exec (.spiCrW u v) s = .next (spiUpdateIrq u (s.setSpi u
        { y with enabled := (y.enabled || bit v 0) && !bit v 1 })))
    ∧ (∀ v, s.ready = true →
      let y : Spi := if bit v 7 then
          { mr := 0, csr := #v[0, 0, 0, 0], imr := 0, enabled := false, rdrData := 0, rdrPcs := 0, rdrf := false
            ovres := false, modf := false, rxq := [], awaiting := none, echoAcc := [], lastPcs := 0, lastBits := 8 }
        else x
      let e := (y.enabled || bit v 0) && !bit v 1
      let s1 := s.setSpi u { y with enabled := e }
      let t := if e = true ∧ (s.pdc (.spi u)).txActive = true then pdcTxStart (.spi u) s1 else s1
      exec (.spiCrW u v) s = .next (if t.fault = none then spiUpdateIrq u t else t))
    ∧ ∀ seq bs, s.fault = none →
      exec (.spiFaultModf u seq bs) s = .next (spiUpdateIrq u (s.setSpi u { x with modf := true }))
      ∧ exec (.spiFaultOvres u seq bs) s = .next (spiUpdateIrq u (s.setSpi u { x with ovres := true }))

/-- R378, R379, R380, R381 to R387: the chip-select decode; with no client a word written to `TDR`, or a buffer of the
transmit DMA, comes back, masked to the width of its chip select; the read of `RDR` that takes a word; and the receive
pump, by which the words that came back go to memory where the receive DMA is armed (one byte each for words of 8
bits, else two), so that a full-duplex transfer copies memory. That the unsupported slave mode is ignored when its
flag is off is the spec's reading of a warning (R773), and that a chip select is missing before memory is read is log
entry 17. After a transfer of the DMA the SPI's interrupt output is the level of its status under its mask, and no
other line changes (R269, R778). -/
def Obligations.SpiLoopback : Prop :=
  (∀ (x : Spi) (pcs : BitVec 4),
    (bit x.mr 2 = false → x.select pcs =
      if pcs.getLsbD 0 = false then some (0, 0)
      else if pcs.getLsbD 1 = false then some (1, 1)
      else if pcs.getLsbD 2 = false then some (2, 2)
      else if pcs.getLsbD 3 = false then some (3, 3)
      else none)
    ∧ (bit x.mr 2 = true → pcs = 15#4 → x.select pcs = none)
    ∧ (bit x.mr 2 = true → pcs ≠ 15#4 → ∃ k : Fin 4, k.val = pcs.toNat / 4 ∧ x.select pcs = some (pcs.toNat, k)))
  ∧ (∀ (s : State) (u : Fin 2) (v : Word), s.ready = true →
    let x := s.spi u
    let pcs : BitVec 4 := if bit x.mr 1 then v.extractLsb 19 16 else x.mr.extractLsb 19 16
    (x.enabled = false → exec (.spiTdrW u v) s = .next s)
    ∧ (x.enabled = true → bit x.mr 0 = false → s.params.abortSpiSlave = true →
      ∃ t, exec (.spiTdrW u v) s = .next t ∧ t.fault = some (.spiSlave u))
    ∧ (x.enabled = true → bit x.mr 0 = false → s.params.abortSpiSlave = false → exec (.spiTdrW u v) s = .next s)
    ∧ (x.enabled = true → bit x.mr 0 = true → x.select pcs = none →
      ∃ t, exec (.spiTdrW u v) s = .next t ∧ t.fault = some (.spiPcs u pcs))
    ∧ (∀ n k, x.enabled = true → bit x.mr 0 = true → x.select pcs = some (n, k) →
      (s.link (.spi u)).client = false →
      let bits := 8 + field x.csr[k.val] 7 4
      let d : BitVec 16 := v.extractLsb 15 0 &&& BitVec.ofNat 16 (2 ^ bits - 1)
      exec (.spiTdrW u v) s = .next (pdcRxStart (.spi u) (s.setSpi u
        { x with lastPcs := pcs, lastBits := bits, ovres := x.ovres || x.rdrf, rxq := x.rxq ++ [d] }))
      ∧ ((s.pdc (.spi u)).rxActive = false → x.rdrf = true → exec (.spiTdrW u v) s = .next (spiUpdateIrq u (s.setSpi u
        { x with lastPcs := pcs, lastBits := bits, ovres := true, rxq := x.rxq ++ [d] })))
      ∧ (∀ c cs, (s.pdc (.spi u)).rxActive = false → x.rdrf = false → x.rxq ++ [d] = c :: cs →
        exec (.spiTdrW u v) s = .next (spiUpdateIrq u (s.setSpi u
        { x with lastPcs := pcs, lastBits := bits, rdrData := c, rdrPcs := pcs, rdrf := true, rxq := cs }))))
    ∧ (let t := pdcRxStart (.spi u) (s.setSpi u { x with rdrf := false })
      exec (.spiRdrR u) s = .next (if t.fault = none then
        t.setRdata (x.rdrPcs.setWidth 32 <<< 16 ||| x.rdrData.setWidth 32) else t))
    ∧ (x.rxq = [] → exec (.spiRdrR u) s = .next ((spiUpdateIrq u (s.setSpi u { x with rdrf := false })).setRdata
        (x.rdrPcs.setWidth 32 <<< 16 ||| x.rdrData.setWidth 32)))
    ∧ (∀ d ds, x.rxq = d :: ds → (s.pdc (.spi u)).rxActive = false →
      exec (.spiRdrR u) s = .next ((spiUpdateIrq u (s.setSpi u
        { x with rdrData := d, rdrPcs := x.lastPcs, rdrf := true, rxq := ds })).setRdata
          (x.rdrPcs.setWidth 32 <<< 16 ||| x.rdrData.setWidth 32))))
  ∧ (∀ (s : State) (u : Fin 2),
    let h := PdcHost.spi u
    let x := s.spi u
    let p := s.pdc h
    let w := if x.lastBits = 8 then 1 else 2
    let n := min x.rxq.length p.rxRoom
    let t := pdcRxStart h s
    s.fault = none → x.rxq ≠ [] → p.rxten = true → p.rxRoom ≠ 0 →
    (s.receiveBuffersOk h w n = true →
      t.fault = none
      ∧ t.mem = (s.storeReceived h ((x.rxq.take n).map fun d : BitVec 16 =>
          if w = 1 then [d.setWidth 8] else [d.setWidth 8, (d >>> 8).setWidth 8])).mem
      ∧ t.pdc h = p.afterReceive w n
      ∧ t.spi u = (match x.rxq.drop n with
        | [] => { x with rxq := [] }
        | d :: ds => if x.rdrf then { x with rxq := d :: ds }
          else { x with rdrData := d, rdrPcs := x.lastPcs, rdrf := true, rxq := ds })
      ∧ t = (((s.setMem t.mem).setPdc h (t.pdc h)).setSpi u (t.spi u)).setAic t.aic
      ∧ irqFollows h s t)
    ∧ (s.receiveBuffersOk h w n = false → ∃ a e, t.fault = some (.dma h a e)))
  ∧ ∀ (s : State) (u : Fin 2) (n : Nat) (k : Fin 4),
    let h := PdcHost.spi u
    let x := s.spi u
    let p := s.pdc h
    let pcs : BitVec 4 := x.mr.extractLsb 19 16
    let bits := 8 + field x.csr[k.val] 7 4
    let w := if bits = 8 then 1 else 2
    let m := p.tcr.toNat
    s.fault = none → x.enabled = true → bit x.mr 0 = true → bit x.mr 1 = false → x.select pcs = some (n, k) →
    (s.link (.spi u)).client = false → p.txten = true → p.tcr ≠ 0#16 → p.tncr = 0#16 → x.rxq = [] →
    s.readableBuffer p.tpr (m * w) = true →
    let ds : List (BitVec 16) := (List.range m).map fun i =>
      (if w = 1 then (s.loadBytes (p.tpr + BitVec.ofNat 32 i) 1).headD 0#8 |>.setWidth 16
        else leWord (s.loadBytes (p.tpr + BitVec.ofNat 32 (2 * i)) 2) |>.setWidth 16)
      &&& BitVec.ofNat 16 (2 ^ bits - 1)
    let t := pdcTxStart h s
    (p.rxten = true → m ≤ p.rcr.toNat → p.rncr = 0#16 → s.writableBuffer p.rpr (m * w) = true →
      t.fault = none
      ∧ t.mem = (s.storeBytes p.rpr (ds.flatMap fun d : BitVec 16 =>
          if w = 1 then [d.setWidth 8] else [d.setWidth 8, (d >>> 8).setWidth 8])).mem
      ∧ t.pdc h = (p.afterSend w m).afterReceive w m
      ∧ t.spi u = { x with lastPcs := pcs, lastBits := bits, ovres := x.ovres || x.rdrf }
      ∧ t = (((s.setMem t.mem).setPdc h (t.pdc h)).setSpi u (t.spi u)).setAic t.aic
      ∧ irqFollows h s t)
    ∧ (p.rxten = false → ∀ c cs, ds = c :: cs →
      t.fault = none
      ∧ t.pdc h = p.afterSend w m
      ∧ t.spi u = (if x.rdrf then { x with lastPcs := pcs, lastBits := bits, ovres := true, rxq := ds }
        else { x with lastPcs := pcs, lastBits := bits, rdrData := c, rdrPcs := pcs, rdrf := true, rxq := cs })
      ∧ t = ((s.setPdc h (t.pdc h)).setSpi u (t.spi u)).setAic t.aic
      ∧ irqFollows h s t)

/-- R379, R381, R386, R387, R388, R390: with a client connected the unit word leaves on the link and the CPU is held;
a buffer of the transmit DMA leaves as one transmission of its units, and the channel awaits them all; the frame that
completes the echo releases it and delivers the low 16 bits of each unit, to `RDR` or to the armed receive DMA; what
no transfer awaits is dropped. A disabled SPI keeps its transmit DMA armed; a buffer that may not be read aborts
(R273), and so does a unit with no chip select. The unsupported slave mode aborts, or with its flag off sends nothing,
which is the spec's reading of a warning (R773). That `MR.PCS` selecting no chip aborts before memory is read and
whatever the PDC holds is the model's reading (log entry 17, DEDUCED). That a transmission of the owner by itself is
awaited like a transfer is the model's choice (log entry 20). After a transfer of the DMA the SPI's interrupt output
is the level of its status under its mask, and no other line changes (R269, R778). -/
def Obligations.SpiClientTransfer : Prop :=
  (∀ (s : State) (u : Fin 2),
    let x := s.spi u
    (∀ v n k, s.ready = true → (s.link (.spi u)).client = true → x.enabled = true → bit x.mr 0 = true →
      let pcs : BitVec 4 := if bit x.mr 1 then v.extractLsb 19 16 else x.mr.extractLsb 19 16
      x.select pcs = some (n, k) →
      let bits := 8 + field x.csr[k.val] 7 4
      let d : BitVec 16 := v.extractLsb 15 0 &&& BitVec.ofNat 16 (2 ^ bits - 1)
      ∃ t, exec (.spiTdrW u v) s = .next t
        ∧ t.spi u = { x with lastPcs := pcs, lastBits := bits, awaiting := some 1 }
        ∧ t.link (.spi u) = (emitData (.spi u) [d.setWidth 8, (d >>> 8).setWidth 8, BitVec.ofNat 8 (bits - 8),
            BitVec.ofNat 8 n] s).link (.spi u)
        ∧ t = (s.setSpi u (t.spi u)).setLink (.spi u) (t.link (.spi u))
        ∧ t.held = true)
    ∧ (∀ bs, s.fault = none → (s.link (.spi u)).client = true → bs.length % 4 = 0 → bs ≠ [] →
      exec (.spiDataOut u bs) s = .next ((s.setLink (.spi u) ((emitData (.spi u) bs s).link (.spi u))).setSpi u
        { x with awaiting := match x.awaiting with
            | none => some (bs.length / 4)
            | some m => some (bs.length / 4 + m) }))
    ∧ (s.fault = none → (s.link (.spi u)).client = true →
      exec (.spiDataOut u []) s = .next (emitData (.spi u) [] s))
    ∧ (∀ bs, s.fault = none → (s.link (.spi u)).client = false → exec (.spiDataOut u bs) s = .next s)
    ∧ (∀ seq bs, s.fault = none → x.awaiting = none →
      exec (.spiDataIn u seq bs) s = .next (reply (.spi u) seq 0#32 s))
    ∧ (∀ seq bs n, s.fault = none → x.awaiting = some n →
      (x.echoAcc ++ bs).length < n * s.params.spiInUnitBytes →
      exec (.spiDataIn u seq bs) s = .next (reply (.spi u) seq 0#32 (s.setSpi u
        { x with echoAcc := x.echoAcc ++ bs })))
    ∧ (∀ seq bs n, s.fault = none → x.awaiting = some n → 0 < n →
      n * s.params.spiInUnitBytes ≤ (x.echoAcc ++ bs).length →
      ∃ ds : List (BitVec 16), ds.length = n
        ∧ (∀ i, i < n → ds[i]? = some ((leWord (((x.echoAcc ++ bs).drop (i * s.params.spiInUnitBytes)).take
          s.params.spiInUnitBytes)).setWidth 16))
        ∧ (let t := pdcRxStart (.spi u) (s.setSpi u { x with
            awaiting := none, echoAcc := [], ovres := x.ovres || x.rdrf, rxq := x.rxq ++ ds })
          exec (.spiDataIn u seq bs) s = .next (if t.fault = none then reply (.spi u) seq 0#32 t else t)))
    ∧ (∀ seq bs n, s.fault = none → x.awaiting = some n → 0 < n → s.params.spiInUnitBytes = 4 →
      4 * n ≤ (x.echoAcc ++ bs).length →
      ∃ d ds, (d :: ds).length = n
        ∧ (∀ i, i < n → ∃ b0 b1, (x.echoAcc ++ bs)[4 * i]? = some b0 ∧ (x.echoAcc ++ bs)[4 * i + 1]? = some b1
          ∧ (d :: ds)[i]? = some (b1 ++ b0))
        ∧ (let t := pdcRxStart (.spi u) (s.setSpi u { x with
            awaiting := none, echoAcc := [], ovres := x.ovres || x.rdrf, rxq := x.rxq ++ d :: ds })
          exec (.spiDataIn u seq bs) s = .next (if t.fault = none then reply (.spi u) seq 0#32 t else t))
        ∧ ((s.pdc (.spi u)).rxActive = false → x.rdrf = false → x.rxq = [] →
          exec (.spiDataIn u seq bs) s = .next (reply (.spi u) seq 0#32 (spiUpdateIrq u (s.setSpi u
          { x with
            awaiting := none, echoAcc := [], rdrData := d, rdrPcs := x.lastPcs, rdrf := true, rxq := ds }))))))
  ∧ ∀ (s : State) (u : Fin 2),
    let h := PdcHost.spi u
    let x := s.spi u
    let p := s.pdc h
    let m := p.txCount
    let pcsOf : List Byte → BitVec 4 := fun g =>
      if bit x.mr 1 then (leWord g).extractLsb 19 16 else x.mr.extractLsb 19 16
    let wire : List Byte → List Byte := fun g =>
      match x.select (pcsOf g) with
      | some (n, k) =>
        let bits := 8 + field x.csr[k.val] 7 4
        let d : BitVec 16 := (leWord g).setWidth 16 &&& BitVec.ofNat 16 (2 ^ bits - 1)
        [d.setWidth 8, (d >>> 8).setWidth 8, BitVec.ofNat 8 (bits - 8), BitVec.ofNat 8 n]
      | none => []
    (x.enabled = false → pdcTxStart h s = s)
    ∧ (x.enabled = true → bit x.mr 0 = false → s.params.abortSpiSlave = true →
      (pdcTxStart h s).fault = some (.spiSlave u))
    ∧ (x.enabled = true → bit x.mr 0 = false → s.params.abortSpiSlave = false → pdcTxStart h s = s)
    ∧ (x.enabled = true → bit x.mr 0 = true → bit x.mr 1 = false → x.select (x.mr.extractLsb 19 16) = none →
      (pdcTxStart h s).fault = some (.spiPcs u (x.mr.extractLsb 19 16)))
    ∧ ∀ w : Nat, s.fault = none → x.enabled = true → bit x.mr 0 = true → p.txten = true → m ≠ 0 →
      (bit x.mr 1 = true → w = 4) →
      (bit x.mr 1 = false → ∃ n k, x.select (x.mr.extractLsb 19 16) = some (n, k)
        ∧ w = if field x.csr[k.val] 7 4 = 0 then 1 else 2) →
      (s.readableBuffer p.txCurrent.tpr (p.txCurrent.tcr.toNat * w) = false →
        (pdcTxStart h s).fault = some (.dma h p.txCurrent.tpr .notMemory))
      ∧ (s.sendBuffersOk h w m = true → (s.link (.spi u)).client = true →
        let bufs := s.sentBuffers h w m
        (∀ b g, b ∈ bufs → g ∈ groupsOf w b.length b → (x.select (pcsOf g)).isSome = true) →
        let t := pdcTxStart h s
        t.fault = none
        ∧ t.pdc h = p.afterSend w m
        ∧ t.link (.spi u) = (bufs.foldl (fun r b =>
            emitData (.spi u) ((groupsOf w b.length b).flatMap wire) r) s).link (.spi u)
        ∧ (∀ g n k, g = bufs.flatten.drop ((m - 1) * w) → x.select (pcsOf g) = some (n, k) →
          t.spi u = { x with
            lastPcs := pcsOf g, lastBits := 8 + field x.csr[k.val] 7 4
            awaiting := some (m + x.awaiting.getD 0) })
        ∧ t = (((s.setPdc h (t.pdc h)).setSpi u (t.spi u)).setLink (.spi u) (t.link (.spi u))).setAic t.aic
        ∧ irqFollows h s t)
      ∧ (s.sendBuffersOk h w m = true → p.txCurrent.tncr = 0#16 →
        ∀ (i : Nat) (g : List Byte),
          (groupsOf w (m * w) (s.loadBytes p.txCurrent.tpr (m * w)))[i]? = some g → x.select (pcsOf g) = none →
          (∀ (j : Nat) (g' : List Byte), j < i →
            (groupsOf w (m * w) (s.loadBytes p.txCurrent.tpr (m * w)))[j]? = some g' →
            (x.select (pcsOf g')).isSome = true) →
          (pdcTxStart h s).fault = some (.spiPcs u (pcsOf g)))

/-! ### TWI -/

/-- R434 to R437: the TWI's storage registers, its status with the latches a read clears, and its mask. The clock is
the informational number of R435. Its rounding is the model's choice (log entry 21). -/
def Obligations.TwiRegisters : Prop :=
  ∀ (s : State) (v : Word), s.ready = true →
    let x := s.twi
    let p := s.pdc .twi
    exec .twiMmrR s = .next (s.setRdata x.mmr)
    ∧ exec (.twiMmrW v) s = .next (s.setTwi { x with mmr := v &&& 0x007F1300#32 })
    ∧ exec .twiSmrR s = .next (s.setRdata x.smr)
    ∧ exec (.twiSmrW v) s = .next (s.setTwi { x with smr := v &&& 0x007F0000#32 })
    ∧ exec .twiIadrR s = .next (s.setRdata x.iadr)
    ∧ exec (.twiIadrW v) s = .next (s.setTwi { x with iadr := v &&& 0x00FFFFFF#32 })
    ∧ exec .twiCwgrR s = .next (s.setRdata x.cwgr)
    ∧ exec (.twiCwgrW v) s = .next (s.setTwi { x with
        cwgr := v &&& 0x0007FFFF#32
        clockHz := s.pmc.mclkHz / ((field v 7 0 + field v 15 8) * 2 ^ field v 18 16 + 8) })
    ∧ (∃ w, exec .twiSrR s = .next ((twiUpdateIrq (s.setTwi
        { x with ovre := false, nack := false, arblst := false })).setRdata w)
      ∧ bit w 0 = x.txcomp ∧ bit w 1 = x.rxrdy ∧ bit w 2 = decide (x.mode = .master) ∧ bit w 6 = x.ovre
      ∧ bit w 8 = x.nack ∧ bit w 9 = x.arblst ∧ bit w 12 = p.endrx ∧ bit w 13 = p.endtx ∧ bit w 14 = p.rxbuff
      ∧ bit w 15 = p.txbufe ∧ w &&& 0xFFFF0CB8#32 = 0#32)
    ∧ exec (.twiIerW v) s = .next (twiUpdateIrq (s.setTwi { x with imr := x.imr ||| (v &&& 0x0000FF7F#32) }))
    ∧ exec (.twiIdrW v) s = .next (twiUpdateIrq (s.setTwi { x with imr := x.imr &&& ~~~v }))
    ∧ exec .twiImrR s = .next (s.setRdata x.imr)

/-- R432, R431, R448, R450, R451: the actions of `CR` in their order: the software reset, the modes, the opening and
the closing of a read transaction; then a transmit DMA that was armed starts if the TWI is master (what the start does
is in `TwiTransmit`), and the interrupt output follows unless that aborts; and the two aborts of a request for slave
mode. That the software reset leaves the four PDC flags with the PDC is the model's reading (log entry 31, DEDUCED),
that it re-derives the informational clock is the model's choice (log entry 21), and that the request is ignored when
its flag is off (R773) is its reading (log entry 18). -/
def Obligations.TwiControl : Prop :=
  ∀ (s : State) (v : Word), s.ready = true →
    let a : Twi := if bit v 7 then
        { mmr := 0, smr := 0, iadr := 0, cwgr := 0, imr := 0, mode := .offline, txcomp := true, rxrdy := false
          ovre := false, nack := false, arblst := false, rhr := 0, rxq := [], txbuf := [], debounceArmed := false
          started := false, clockHz := s.pmc.mclkHz / 8 }
      else s.twi
    let mode := if bit v 3 then (if a.mode = .master then .offline else a.mode)
      else if bit v 2 then .master else a.mode
    let b : Twi := { a with mode := mode }
    let s1 := s.setTwi b
    let s2 := if bit v 0 = true ∧ b.mode = .master ∧ bit b.mmr 12 = true ∧ b.started = false then
        (twiEmitStart s1).setTwi { b with started := true, txcomp := false }
      else s1
    let s3 := if bit v 1 = true ∧ s2.twi.started = true then
        (twiEmitStop s2).setTwi { s2.twi with started := false, txcomp := true }
      else s2
    ((bit v 4 = false ∨ s.params.abortTwiSlave = false ∧ ¬(a.mode = .master ∧ a.txcomp = false)) →
      (b.mode = .master → (s.pdc .twi).txActive = false) →
      exec (.twiCrW v) s = .next (twiUpdateIrq s3))
    ∧ ((bit v 4 = false ∨ s.params.abortTwiSlave = false ∧ ¬(a.mode = .master ∧ a.txcomp = false)) →
      let t := if b.mode = .master ∧ (s.pdc .twi).txActive = true then pdcTxStart .twi s3 else s3
      exec (.twiCrW v) s = .next (if t.fault = none then twiUpdateIrq t else t))
    ∧ (bit v 4 = true → a.mode = .master → a.txcomp = false →
      ∃ t, exec (.twiCrW v) s = .next t ∧ t.fault = some (.twiMode v))
    ∧ (bit v 4 = true → ¬(a.mode = .master ∧ a.txcomp = false) → s.params.abortTwiSlave = true →
      ∃ t, exec (.twiCrW v) s = .next t ∧ t.fault = some (.twiSlave v))

/-- R440 to R442, R450: a byte written to `THR` waits for the debounce timer, whose step sends one START, data, STOP
burst and sets TXCOMP; the transmit DMA sends what waits, then its buffers between one START and one STOP, inside the
step that starts it, in master mode only, and a buffer that may not be read aborts (R273); and the frames of the owner
by themselves. That the frames of the owner are inputs of their own and that an expiry of a timer that is not armed
has no effect are the model's choices (log entry 9), and so is the DATA_OUT row by itself (log entry 20). After a
burst or a transfer of the DMA the TWI's interrupt output is the level of its status under its mask, and no other line
changes (R269, R778). -/
def Obligations.TwiTransmit : Prop :=
  ∀ s : State,
    let x := s.twi
    let p := s.pdc .twi
    (∀ v, s.ready = true → x.mode = .master → exec (.twiThrW v) s = .next (twiUpdateIrq (s.setTwi
      { x with txbuf := x.txbuf ++ [v.setWidth 8], txcomp := false, debounceArmed := true })))
    ∧ (∀ v, s.ready = true → x.mode ≠ .master → exec (.twiThrW v) s = .next s)
    ∧ (s.fault = none → s.params.twiStartDadr = .low7 →
      exec .twiCtrlStart s = .next (emit .twi 1#8 3#8 [BitVec.ofNat 8 (field x.mmr 22 16),
        BitVec.ofNat 8 (field x.mmr 9 8), x.iadr.extractLsb 7 0, x.iadr.extractLsb 15 8, x.iadr.extractLsb 23 16] s))
    ∧ (s.fault = none → exec .twiCtrlStart s = .next (twiEmitStart s))
    ∧ (s.fault = none → exec .twiCtrlStop s = .next (emit .twi 1#8 4#8 [] s))
    ∧ (∀ bs, s.fault = none → exec (.twiDataOut bs) s = .next (emitData .twi bs s))
    ∧ (∀ rest, s.fault = none → s.inputs = .twiFlush :: rest → x.debounceArmed = true → x.txbuf ≠ [] →
      ∃ t, step s = .next t
        ∧ t.twi = { x with txbuf := [], debounceArmed := false, txcomp := true }
        ∧ t.link .twi = (emit .twi 1#8 4#8 [] (emitData .twi x.txbuf (twiEmitStart s))).link .twi
        ∧ t = (((s.setInputs rest).setTwi t.twi).setLink .twi (t.link .twi)).setAic t.aic
        ∧ irqFollows .twi s t)
    ∧ (∀ rest, s.fault = none → s.inputs = .twiFlush :: rest → x.debounceArmed = false →
      step s = .next (s.setInputs rest))
    ∧ (x.mode ≠ .master → pdcTxStart .twi s = s)
    ∧ (s.fault = none → x.mode = .master → p.txten = true → p.txCount ≠ 0 →
      let t := pdcTxStart .twi s
      let a := if x.txbuf = [] then s else emit .twi 1#8 4#8 [] (emitData .twi x.txbuf (twiEmitStart s))
      (s.sendBuffersOk .twi 1 p.txCount = true →
        t.fault = none
        ∧ t.pdc .twi = p.afterSend 1 p.txCount
        ∧ t.twi = { x with
            txbuf := [], debounceArmed := x.debounceArmed && decide (x.txbuf = []), txcomp := true }
        ∧ t.link .twi = (emit .twi 1#8 4#8 [] ((s.sentBuffers .twi 1 p.txCount).foldl
            (fun r b => emitData .twi b r) (twiEmitStart a))).link .twi
        ∧ t = (((s.setPdc .twi (t.pdc .twi)).setTwi t.twi).setLink .twi (t.link .twi)).setAic t.aic
        ∧ irqFollows .twi s t)
      ∧ (s.sendBuffersOk .twi 1 p.txCount = false → t.fault = some (.dma .twi
        (if s.readableBuffer p.txCurrent.tpr p.txCurrent.tcr.toNat then p.txCurrent.tnpr else p.txCurrent.tpr)
        .notMemory)))

/-- R445 to R447, R449, R450: the TWI's receive path: a frame's bytes join the queue and the pump runs; where no
receive DMA is armed the first byte goes to `RHR`, and an armed one takes what waits to memory, with an abort for a
buffer that may not be written (R273); and its fault frames. That a fault frame's payload is ignored is the model's
choice (log entry 30). After a transfer of the DMA the TWI's interrupt output is the level of its status under its
mask, and no other line changes (R269, R778). -/
def Obligations.TwiReceive : Prop :=
  ∀ s : State,
    let x := s.twi
    (∀ seq bs, s.fault = none →
      let t := pdcRxStart .twi (s.setTwi { x with ovre := x.ovre || x.rxrdy, rxq := x.rxq ++ bs })
      exec (.twiDataIn seq bs) s = .next (if t.fault = none then reply .twi seq 0#32 t else t))
    ∧ (∀ seq bs, s.fault = none → (s.pdc .twi).rxActive = false → x.rxrdy = true →
      exec (.twiDataIn seq bs) s = .next (reply .twi seq 0#32 (twiUpdateIrq (s.setTwi
        { x with ovre := true, rxq := x.rxq ++ bs }))))
    ∧ (∀ seq bs c cs, s.fault = none → (s.pdc .twi).rxActive = false → x.rxrdy = false → x.rxq ++ bs = c :: cs →
      exec (.twiDataIn seq bs) s = .next (reply .twi seq 0#32 (twiUpdateIrq (s.setTwi
        { x with rhr := c, rxrdy := true, rxq := cs }))))
    ∧ (∀ seq, s.fault = none → x.rxrdy = false → x.rxq = [] →
      exec (.twiDataIn seq []) s = .next (reply .twi seq 0#32 (twiUpdateIrq s)))
    ∧ (s.ready = true →
      let t := pdcRxStart .twi (s.setTwi { x with rxrdy := false })
      exec .twiRhrR s = .next (if t.fault = none then t.setRdata (x.rhr.setWidth 32) else t))
    ∧ (s.ready = true → x.rxq = [] →
      exec .twiRhrR s = .next ((twiUpdateIrq (s.setTwi { x with rxrdy := false })).setRdata (x.rhr.setWidth 32)))
    ∧ (∀ c cs, s.ready = true → (s.pdc .twi).rxActive = false → x.rxq = c :: cs →
      exec .twiRhrR s = .next ((twiUpdateIrq (s.setTwi { x with rhr := c, rxrdy := true, rxq := cs })).setRdata
        (x.rhr.setWidth 32)))
    ∧ (s.fault = none → x.rxq ≠ [] → (s.pdc .twi).rxten = true → (s.pdc .twi).rxRoom ≠ 0 →
      let p := s.pdc .twi
      let n := min x.rxq.length p.rxRoom
      let t := pdcRxStart .twi s
      (s.receiveBuffersOk .twi 1 n = true →
        t.fault = none
        ∧ t.mem = (s.storeReceived .twi ((x.rxq.take n).map fun b => [b])).mem
        ∧ t.pdc .twi = p.afterReceive 1 n
        ∧ t.twi = (match x.rxq.drop n with
          | [] => { x with rxq := [] }
          | c :: cs => if x.rxrdy then { x with rxq := c :: cs } else { x with rhr := c, rxrdy := true, rxq := cs })
        ∧ t = (((s.setMem t.mem).setPdc .twi (t.pdc .twi)).setTwi t.twi).setAic t.aic
        ∧ irqFollows .twi s t)
      ∧ (s.receiveBuffersOk .twi 1 n = false → ∃ a e, t.fault = some (.dma .twi a e)))
    ∧ ∀ seq bs, s.fault = none →
      exec (.twiFaultOvre seq bs) s = .next (twiUpdateIrq (s.setTwi { x with ovre := true }))
      ∧ exec (.twiFaultNack seq bs) s = .next (twiUpdateIrq (s.setTwi { x with nack := true }))
      ∧ exec (.twiFaultArblst seq bs) s = .next (twiUpdateIrq (s.setTwi { x with arblst := true }))

/-! ### MCI -/

/-- R482 to R486, R511: the MCI's storage registers, with the one `BLKLEN` seen at two addresses, its status with the
latches a read clears, its mask, and its software reset, which keeps the selected card. RXRDY is 1 exactly when a read
transfer with bytes left is active, `MR.PDCMODE` is 0 and the selected card answers `data_ready` with true. That the
software reset leaves the four PDC flags with the PDC is the model's reading (log entry 31, DEDUCED), and so is that a read of `SR` and the
recomputation it causes share one answer of the card (log entry 24, DEDUCED); the answers are the environment's or free
values (log entry 4). -/
def Obligations.MciRegisters : Prop :=
  ∀ (s : State) (v : Word), s.ready = true →
    let x := s.mci
    let p := s.pdc .mci
    let dataReady := match s.sd.cards[x.selectedCard.val].ready with
      | some b => b
      | none => Config.sdReady s.sd.asks x.selectedCard
    exec .mciMrR s = .next (s.setRdata (x.blklen ++ x.mrLow))
    ∧ exec (.mciMrW v) s = .next (s.setMci { x with blklen := v.extractLsb 31 16, mrLow := v.extractLsb 15 0 })
    ∧ exec .mciBlkrR s = .next (s.setRdata (x.blklen ++ x.bcnt))
    ∧ exec (.mciBlkrW v) s = .next (s.setMci { x with blklen := v.extractLsb 31 16, bcnt := v.extractLsb 15 0 })
    ∧ exec .mciDtorR s = .next (s.setRdata x.dtor)
    ∧ exec (.mciDtorW v) s = .next (s.setMci { x with dtor := v &&& 0x0000007F#32 })
    ∧ exec .mciSdcrR s = .next (s.setRdata x.sdcr)
    ∧ exec (.mciSdcrW v) s = .next (s.setMci { x with sdcr := v &&& 0x00000083#32 })
    ∧ exec .mciArgrR s = .next (s.setRdata x.argr)
    ∧ exec (.mciArgrW v) s = .next (s.setMci { x with argr := v })
    ∧ (∃ w, exec .mciSrR s = .next ((mciUpdateIrq (s.setMci
        { x with blke := false, dcrce := false, dtoe := false })).setRdata w)
      ∧ bit w 0 = x.cmdrdy
      ∧ (bit w 1 = true ↔ (∃ rem pos blk, x.xfer = .active .read rem pos blk ∧ rem ≠ .bytes 0)
        ∧ x.mrLow.getLsbD 15 = false ∧ dataReady = true)
      ∧ bit w 2 = true ∧ bit w 3 = x.blke
      ∧ bit w 4 = decide (x.xfer ≠ .idle) ∧ bit w 5 = true ∧ bit w 6 = p.endrx ∧ bit w 7 = p.endtx
      ∧ bit w 14 = p.rxbuff ∧ bit w 15 = p.txbufe ∧ bit w 16 = x.rinde ∧ bit w 17 = x.rdire ∧ bit w 18 = x.rcrce
      ∧ bit w 19 = x.rende ∧ bit w 20 = x.rtoe ∧ bit w 21 = x.dcrce ∧ bit w 22 = x.dtoe ∧ bit w 30 = x.ovre
      ∧ bit w 31 = x.unre ∧ w &&& 0x3F803F00#32 = 0#32)
    ∧ exec (.mciIerW v) s = .next (mciUpdateIrq (s.setMci { x with imr := x.imr ||| (v &&& 0xC07FC3FF#32) }))
    ∧ exec (.mciIdrW v) s = .next (mciUpdateIrq (s.setMci { x with imr := x.imr &&& ~~~v }))
    ∧ exec .mciImrR s = .next (s.setRdata x.imr)
    ∧ (bit v 7 = false → exec (.mciCrW v) s = .next (mciUpdateIrq (s.setMci
        { x with enabled := (x.enabled || bit v 0) && !bit v 1 })))
    ∧ (bit v 7 = true → exec (.mciCrW v) s = .next (mciUpdateIrq (s.setMci
        { mrLow := 0, blklen := 0, bcnt := 0, dtor := 0, sdcr := 0, argr := 0, rspr := #v[0, 0, 0, 0], rdr := 0, imr := 0
          enabled := bit v 0 && !bit v 1, selectedCard := x.selectedCard, rspWords := 0, rspIdx := 0, xfer := .idle
          cmdrdy := true, blke := false, rtoe := false, rinde := false, rdire := false, rcrce := false, rende := false
          dcrce := false, dtoe := false, ovre := false, unre := false })))

/-- R487, R490, R492: a command: its answer in `RSPR`, most significant byte first, the errors cleared, RTOE for an
answer that is missing; one that starts a data transfer and has its answer computes the transfer's length and block
size from `TRTYP`, `BLKLEN` and `BCNT`, ends it at once when it has no bytes, aborts when the block size does not fit
the DMA's words, and runs the DMA in PDC mode (what that does is in `MciPdcTransfers`); the reserved codes abort; and
the one read port of the answer. (The answers of the card are the environment's or free values, log entry 4; that the
unsupported stream transfer is not started when its flag is off, R773, is the model's reading, log entry 25.) -/
def Obligations.MciCommand : Prop :=
  ∀ (s : State) (v : Word), s.ready = true →
    let x := s.mci
    let c : Mci := { x with rtoe := false, rinde := false, rdire := false, rcrce := false, rende := false }
    let q := sdCommand x.selectedCard (v.extractLsb 5 0) x.argr (s.setMci c)
    let d : Mci := match q.1 with
      | .none => { c with rspWords := 0, rtoe := decide (field v 7 6 ≠ 0) }
      | .short b0 b1 b2 b3 => { c with rspWords := 1, rspr := c.rspr.set 0 (b0 ++ b1 ++ b2 ++ b3) }
      | .long w => { c with rspWords := 4, rspr := #v[w[0] ++ w[1] ++ w[2] ++ w[3], w[4] ++ w[5] ++ w[6] ++ w[7],
          w[8] ++ w[9] ++ w[10] ++ w[11], w[12] ++ w[13] ++ w[14] ++ w[15]] }
    let len := x.blklen.toNat
    let cnt := x.bcnt.toNat
    let size : MciRemaining × Nat := match field v 21 19 with
      | 0 => (.bytes len, len)
      | 1 => if cnt = 0 then (.infinite, len) else (.bytes (len * cnt), len)
      | 4 => (.bytes cnt, cnt)
      | _ => (.bytes (len * cnt), len)
    let dir := if bit v 18 then MciDir.read else MciDir.write
    let pdc := x.mrLow.getLsbD 15
    let misfit := pdc && !x.mrLow.getLsbD 13 && decide (size.2 % 4 ≠ 0)
    let e : Mci := { d with rspIdx := 0, cmdrdy := true, ovre := false, unre := false }
    (field v 7 6 ≠ 3 → field v 17 16 ≠ 1 → field v 17 16 ≠ 3 →
      exec (.mciCmdrW v) s = .next (mciUpdateIrq (q.2.setMci { d with
        rspIdx := 0, cmdrdy := true, xfer := if field v 17 16 = 2 then .idle else x.xfer })))
    ∧ (field v 17 16 = 1 → field v 21 19 ∈ [0, 1, 4, 5] → field v 7 6 ∈ [1, 2] → q.1 = .none →
      exec (.mciCmdrW v) s = .next (mciUpdateIrq (q.2.setMci { d with rspIdx := 0, cmdrdy := true })))
    ∧ (field v 17 16 = 1 → field v 21 19 ∈ [0, 1, 4, 5] → field v 7 6 ≠ 3 → (q.1 ≠ .none ∨ field v 7 6 = 0) →
      (misfit = true → ∃ t, exec (.mciCmdrW v) s = .next t ∧ t.fault = some (.mciBlklen size.2))
      ∧ (misfit = false → size.1 = .bytes 0 →
        exec (.mciCmdrW v) s = .next (mciUpdateIrq (q.2.setMci { e with xfer := .idle, blke := true })))
      ∧ (pdc = false → size.1 ≠ .bytes 0 →
        exec (.mciCmdrW v) s = .next (mciUpdateIrq (q.2.setMci { e with xfer := .active dir size.1 0 size.2 })))
      ∧ (pdc = true → misfit = false → size.1 ≠ .bytes 0 →
        let a := q.2.setMci { e with xfer := .active dir size.1 0 size.2 }
        let t := match dir with
          | .read => pdcRxStart .mci a
          | .write => pdcTxStart .mci a
        exec (.mciCmdrW v) s = .next (if t.fault = none then mciUpdateIrq t else t)))
    ∧ ((field v 7 6 = 3 ∨ field v 17 16 = 3) → ∃ t, exec (.mciCmdrW v) s = .next t ∧ t.fault = some (.mciCmdr v))
    ∧ (field v 7 6 ≠ 3 → field v 17 16 = 1 → field v 21 19 ∈ [3, 6, 7] →
      ∃ t, exec (.mciCmdrW v) s = .next t ∧ t.fault = some (.mciTrtyp v))
    ∧ (field v 7 6 ≠ 3 → field v 17 16 = 1 → field v 21 19 = 2 → s.params.abortMciStream = true →
      ∃ t, exec (.mciCmdrW v) s = .next t ∧ t.fault = some (.mciStream v))
    ∧ (field v 7 6 ≠ 3 → field v 17 16 = 1 → field v 21 19 = 2 → s.params.abortMciStream = false →
      exec (.mciCmdrW v) s = .next (mciUpdateIrq (q.2.setMci { d with rspIdx := 0, cmdrdy := true })))
    ∧ (∀ (k j : Fin 4), x.rspIdx = j.val → x.rspIdx < x.rspWords →
      exec (.mciRsprR k) s = .next ((s.setMci { x with rspIdx := x.rspIdx + 1 }).setRdata x.rspr[j.val]))
    ∧ (∀ k : Fin 4, x.rspWords ≤ x.rspIdx →
      ∃ t, exec (.mciRsprR k) s = .next t ∧ t.fault = some (.mciRspr (0x20 + 4 * k.val)))

/-- R492, R497, R499, R502: a single-block command of at least one byte outside PDC mode makes its transfer active;
the CPU then moves up to four bytes with each access of `RDR` or `TDR`, and the last one ends the transfer and sets
BLKE, which outside PDC mode each block boundary of a write sets too. `TDR` with no write transfer aborts; `RDR` with
no read transfer gives the last word again. (The answers of the card are the environment's or free values, log entry
4; the block position in mid-transfer is the model's reading, log entry 16.) After the command the MCI's interrupt
output is the level of its status under its mask, and no other line changes (R486, R778); the status is that of the
question last asked of the card (log entry 24). -/
def Obligations.MciData : Prop :=
  ∀ s : State, s.ready = true →
    let x := s.mci
    (∀ v b0 b1 b2 b3 rs, field v 7 6 ≠ 3 → field v 17 16 = 1 → field v 21 19 = 0 →
      x.mrLow.getLsbD 15 = false → x.blklen ≠ 0#16 →
      s.sd.cards[x.selectedCard.val].responses = .short b0 b1 b2 b3 :: rs →
        ∃ t, exec (.mciCmdrW v) s = .next t
          ∧ t.mci.xfer = .active (if bit v 18 then .read else .write) (.bytes x.blklen.toNat) 0 x.blklen.toNat
          ∧ t.fault = none ∧ t.mci.rtoe = false ∧ t.mci.ovre = false ∧ t.mci.unre = false
          ∧ t = ((s.setMci t.mci).setSd t.sd).setAic t.aic
          ∧ irqFollows .mci s t)
    ∧ (∀ rem pos blk, x.xfer = .active .read rem pos blk →
      (∀ n, rem = .bytes n → 4 < n →
        let q := sdRead x.selectedCard 4 s
        exec .mciRdrR s = .next ((mciUpdateIrq (q.2.setMci { x with
          rdr := leWord q.1, xfer := .active .read (.bytes (n - 4)) (blockPos pos 4 blk) blk })).setRdata
            (leWord q.1)))
      ∧ (∀ n, rem = .bytes n → 0 < n → n ≤ 4 →
        let q := sdRead x.selectedCard n s
        exec .mciRdrR s = .next ((mciUpdateIrq (q.2.setMci { x with
          rdr := leWord q.1, xfer := .idle, blke := true })).setRdata (leWord q.1)))
      ∧ (rem = .infinite →
        let q := sdRead x.selectedCard 4 s
        exec .mciRdrR s = .next ((mciUpdateIrq (q.2.setMci { x with
          rdr := leWord q.1, xfer := .active .read .infinite (blockPos pos 4 blk) blk })).setRdata (leWord q.1))))
    ∧ ((∀ rem pos blk, x.xfer ≠ .active .read rem pos blk) → exec .mciRdrR s = .next (s.setRdata x.rdr))
    ∧ (∀ v rem pos blk, x.xfer = .active .write rem pos blk →
      let boundary := !x.mrLow.getLsbD 15 && decide (blk ≠ 0) && decide (blk ≤ pos + 4)
      (∀ n, rem = .bytes n → 4 < n →
        exec (.mciTdrW v) s = .next (mciUpdateIrq ((sdWrite x.selectedCard (leBytes 4 v) s).setMci { x with
          blke := x.blke || boundary, xfer := .active .write (.bytes (n - 4)) (blockPos pos 4 blk) blk })))
      ∧ (∀ n, rem = .bytes n → 0 < n → n ≤ 4 →
        exec (.mciTdrW v) s = .next (mciUpdateIrq ((sdWrite x.selectedCard (leBytes n v) s).setMci { x with
          blke := true, xfer := .idle })))
      ∧ (rem = .infinite →
        exec (.mciTdrW v) s = .next (mciUpdateIrq ((sdWrite x.selectedCard (leBytes 4 v) s).setMci { x with
          blke := x.blke || boundary, xfer := .active .write .infinite (blockPos pos 4 blk) blk }))))
    ∧ ∀ v, (∀ rem pos blk, x.xfer ≠ .active .write rem pos blk) →
      ∃ t, exec (.mciTdrW v) s = .next t ∧ t.fault = some (.mciTdr v)

/-- R270, R272, R495, R497, R504, R505, R514: the DMA of the MCI. With a transfer active and the channel armed, as
many units (words, or bytes with `PDCFBYTE` = 1) as the buffers and the transfer allow go between the card and memory
inside the step, in order, over both buffers; the counts, the flags and what remains of the transfer follow, and the
last byte ends it and sets BLKE. A buffer that may not be accessed aborts (R273). Where no transfer of the direction is
active, or the channel is not armed, or no unit can move, a start moves nothing and recomputes the interrupt output, so
that the PDC may be armed before the command; a transmit that a transfer with less than a unit left allows no unit also
recomputes TXBUFE, which is 0 with the buffers not used up. With a read transfer of n units active, a receive count of n
starts it and ends it, and so, with the count written first, does a single-block read command, as in scenario S4 of the
source. (The bytes of the card are the environment's or free values, log entry 4; the block position, the one pass of a
read and what a start does with less than a unit left are the model's reading, log entry 16; that a transmit whose limit
ends exactly with the current buffer leaves the next pair where it is is the model's reading, log entry 15, DEDUCED.)
The MCI's interrupt output is then the level of its status under its mask, and no other line changes (R269, R778); the
status is that of the question last asked of the card (log entry 24). -/
def Obligations.MciPdcTransfers : Prop :=
  (∀ (s : State) (rem : MciRemaining) (pos blk n : Nat),
    let x := s.mci
    let p := s.pdc .mci
    let w := if x.mrLow.getLsbD 13 then 1 else 4
    let q := sdRead x.selectedCard (n * w) s
    let t := pdcRxStart .mci s
    s.fault = none → x.xfer = .active .read rem pos blk → p.rxten = true →
    (∀ r, rem = .bytes r → n = min p.rxRoom (r / w)) → (rem = .infinite → n = p.rxRoom) →
    (n ≠ 0 → s.receiveBuffersOk .mci w n = true →
      t.fault = none
      ∧ t.mem = (s.storeReceived .mci (groupsOf w n q.1)).mem
      ∧ t.pdc .mci = p.afterReceive w n
      ∧ (rem = .bytes (n * w) → t.mci = { x with xfer := .idle, blke := true })
      ∧ (∀ r, rem = .bytes r → n * w < r →
        t.mci = { x with xfer := .active .read (.bytes (r - n * w)) (blockPos pos (n * w) blk) blk })
      ∧ (rem = .infinite → t.mci = { x with xfer := .active .read .infinite (blockPos pos (n * w) blk) blk })
      ∧ t.sd.cards = q.2.sd.cards
      ∧ t = ((((s.setMem t.mem).setPdc .mci (t.pdc .mci)).setMci t.mci).setSd t.sd).setAic t.aic
      ∧ irqFollows .mci s t)
    ∧ (n ≠ 0 → s.receiveBuffersOk .mci w n = false → ∃ a e, t.fault = some (.dma .mci a e))
    ∧ (n = 0 → t = mciUpdateIrq s ∧ irqFollows .mci s t))
  ∧ (∀ (s : State) (rem : MciRemaining) (pos blk n : Nat),
    let x := s.mci
    let p := s.pdc .mci
    let w := if x.mrLow.getLsbD 13 then 1 else 4
    let t := pdcTxStart .mci s
    s.fault = none → x.xfer = .active .write rem pos blk → p.txten = true →
    (∀ r, rem = .bytes r → n = min p.txCount (r / w)) → (rem = .infinite → n = p.txCount) →
    (n ≠ 0 → s.sendBuffersOk .mci w n = true →
      t.fault = none
      ∧ t.pdc .mci = p.afterSend w n
      ∧ (rem = .bytes (n * w) → t.mci = { x with xfer := .idle, blke := true })
      ∧ (∀ r, rem = .bytes r → n * w < r →
        t.mci = { x with xfer := .active .write (.bytes (r - n * w)) (blockPos pos (n * w) blk) blk })
      ∧ (rem = .infinite → t.mci = { x with xfer := .active .write .infinite (blockPos pos (n * w) blk) blk })
      ∧ t.sd.cards = (sdWrite x.selectedCard (s.sentBuffers .mci w n).flatten s).sd.cards
      ∧ t = (((s.setPdc .mci (t.pdc .mci)).setMci t.mci).setSd t.sd).setAic t.aic
      ∧ irqFollows .mci s t)
    ∧ (n ≠ 0 → s.sendBuffersOk .mci w n = false → ∃ a, t.fault = some (.dma .mci a .notMemory))
    ∧ (n = 0 → (p.txCount = 0 ∨ rem = .bytes 0) → t = mciUpdateIrq s ∧ irqFollows .mci s t)
    ∧ (n = 0 → p.txCount ≠ 0 → rem ≠ .bytes 0 →
      t = mciUpdateIrq (mciUpdateIrq (s.setPdc .mci { p with txbufe := false })) ∧ irqFollows .mci s t))
  ∧ (∀ s : State,
    ((∀ rem pos blk, s.mci.xfer ≠ .active .read rem pos blk) ∨ (s.pdc .mci).rxten = false →
      pdcRxStart .mci s = mciUpdateIrq s ∧ irqFollows .mci s (pdcRxStart .mci s))
    ∧ ((∀ rem pos blk, s.mci.xfer ≠ .active .write rem pos blk) ∨ (s.pdc .mci).txten = false →
      pdcTxStart .mci s = mciUpdateIrq s ∧ irqFollows .mci s (pdcTxStart .mci s)))
  ∧ (∀ (s : State) (v : Word) (pos blk : Nat),
    let x := s.mci
    let p := s.pdc .mci
    let n : BitVec 16 := v.extractLsb 15 0
    let w := if x.mrLow.getLsbD 13 then 1 else 4
    let q := sdRead x.selectedCard (n.toNat * w) s
    s.ready = true → x.xfer = .active .read (.bytes (n.toNat * w)) pos blk →
    p.rxten = true → p.rncr = 0#16 → n ≠ 0#16 → s.writableBuffer p.rpr (n.toNat * w) = true →
      ∃ t, exec (.pdcRcrW .mci v) s = .next t
        ∧ t.fault = none
        ∧ t.mem = (s.storeBytes p.rpr q.1).mem
        ∧ t.pdc .mci = { p with
            rpr := p.rpr + BitVec.ofNat 32 (n.toNat * w), rcr := 0#16, endrx := true, rxbuff := true }
        ∧ t.mci = { x with xfer := .idle, blke := true }
        ∧ t.sd.cards = q.2.sd.cards
        ∧ t = ((((s.setMem t.mem).setPdc .mci (t.pdc .mci)).setMci t.mci).setSd t.sd).setAic t.aic
        ∧ irqFollows .mci s t)
  ∧ ∀ (s : State) (v : Word) (b0 b1 b2 b3 : Byte) (rs : List SdResponse),
    let x := s.mci
    let p := s.pdc .mci
    let len := x.blklen.toNat
    let q := sdRead x.selectedCard len (sdCommand x.selectedCard (v.extractLsb 5 0) x.argr s).2
    s.ready = true → field v 7 6 ≠ 3 → field v 17 16 = 1 → field v 21 19 = 0 → bit v 18 = true →
    x.mrLow.getLsbD 15 = true → x.mrLow.getLsbD 13 = false → x.blklen ≠ 0#16 → len = 4 * p.rcr.toNat →
    p.rxten = true → p.rncr = 0#16 → s.sd.cards[x.selectedCard.val].responses = .short b0 b1 b2 b3 :: rs →
    s.writableBuffer p.rpr len = true →
      ∃ t, exec (.mciCmdrW v) s = .next t
        ∧ t.fault = none
        ∧ t.mem = (s.storeBytes p.rpr q.1).mem
        ∧ t.pdc .mci = { p with rpr := p.rpr + BitVec.ofNat 32 len, rcr := 0#16, endrx := true, rxbuff := true }
        ∧ t.mci.xfer = .idle ∧ t.mci.blke = true ∧ t.mci.rspWords = 1 ∧ t.mci.rspr[0] = b0 ++ b1 ++ b2 ++ b3
        ∧ t.sd.cards = q.2.sd.cards
        ∧ t = ((((s.setMem t.mem).setPdc .mci (t.pdc .mci)).setMci t.mci).setSd t.sd).setAic t.aic
        ∧ irqFollows .mci s t

/-! ### Timers -/

/-- R552 to R559: the registers of the TC channels and blocks, with the two unsupported features of R773 under their
flags, the burst judged first. The frequency is the informational number of R553; that `CMR` keeps all 32 bits, also
with a flag off, is the model's reading (log entry 22), and the frequency 0 of an external clock is its choice (log
entry 21). -/
def Obligations.TcRegisters : Prop :=
  ∀ (s : State) (c : Fin 6) (v : Word), s.ready = true →
    let x := s.tc c
    (∃ y, exec (.tcCcrW c v) s = .next (s.setTc c y)
      ∧ (let e := (x.clkEnabled || bit v 0) && !bit v 1
         y = if bit v 2 && e then { x with clkEnabled := true, running := true, cv := 0, down := false }
           else { x with clkEnabled := e, running := x.running && !bit v 1 }))
    ∧ exec (.tcCmrR c) s = .next (s.setRdata x.cmr)
    ∧ ((field v 5 4 = 0 ∨ s.params.abortTcBurst = false) → (field v 2 0 < 5 ∨ s.params.abortTcClock = false) →
      exec (.tcCmrW c v) s = .next (s.setTc c { x with
        cmr := v
        freqHz := match field v 2 0 with
          | 0 => s.pmc.mclkHz / 2
          | 1 => s.pmc.mclkHz / 8
          | 2 => s.pmc.mclkHz / 32
          | 3 => s.pmc.mclkHz / 128
          | 4 => 32768
          | _ => 0 }))
    ∧ (field v 5 4 ≠ 0 → s.params.abortTcBurst = true →
      ∃ t, exec (.tcCmrW c v) s = .next t ∧ t.fault = some (.tcBurst c v))
    ∧ ((field v 5 4 = 0 ∨ s.params.abortTcBurst = false) → 5 ≤ field v 2 0 → s.params.abortTcClock = true →
      ∃ t, exec (.tcCmrW c v) s = .next t ∧ t.fault = some (.tcClock c v))
    ∧ exec (.tcCvR c) s = .next (s.setRdata (x.cv.setWidth 32))
    ∧ exec (.tcRaR c) s = .next (s.setRdata (x.ra.setWidth 32))
    ∧ exec (.tcRbR c) s = .next (s.setRdata (x.rb.setWidth 32))
    ∧ exec (.tcRcR c) s = .next (s.setRdata (x.rc.setWidth 32))
    ∧ exec (.tcRaW c v) s = .next (if bit x.cmr 15 then s.setTc c { x with ra := v.extractLsb 15 0 } else s)
    ∧ exec (.tcRbW c v) s = .next (if bit x.cmr 15 then s.setTc c { x with rb := v.extractLsb 15 0 } else s)
    ∧ exec (.tcRcW c v) s = .next (s.setTc c { x with rc := v.extractLsb 15 0 })
    ∧ exec (.tcSrR c) s = .next ((tcUpdateIrq c (s.setTc c { x with latches := 0 })).setRdata
        (x.latches.setWidth 32 ||| if x.clkEnabled then 0x00010000#32 else 0#32))
    ∧ exec (.tcIerW c v) s = .next (tcUpdateIrq c (s.setTc c { x with imr := x.imr ||| v.extractLsb 7 0 }))
    ∧ exec (.tcIdrW c v) s = .next (tcUpdateIrq c (s.setTc c { x with imr := x.imr &&& ~~~(v.extractLsb 7 0) }))
    ∧ exec (.tcImrR c) s = .next (s.setRdata (x.imr.setWidth 32))
    ∧ (∀ b : Fin 2, exec (.tcbBmrR b) s = .next (s.setRdata (s.bmr b))
      ∧ exec (.tcbBmrW b v) s = .next (s.setBmr b (v &&& 0x0000003F#32))
      ∧ (bit v 0 = false → exec (.tcbBcrW b v) s = .next s)
      ∧ (bit v 0 = true → ∃ t, exec (.tcbBcrW b v) s = .next t ∧ t = { s with tcs := t.tcs }
        ∧ ∀ j : Fin 6, t.tc j =
          if j.val / 3 = b.val ∧ (s.tc j).clkEnabled = true then
            { s.tc j with cv := 0, down := false, running := true }
          else s.tc j))

/-- R560: a tick of a channel by cases on its shape. The sawtooth shapes and capture mode count up, go to 0 from `RC`
where an RC compare resets them, and wrap at 0xFFFF with COVFS; the triangular shapes turn at the top and at 0, and
the turn at 0xFFFF sets COVFS; no other count changes COVFS. The compares are made on the new value: each sets its
latch and clears none, and an RC compare stops or disables the channel where its mode says so, and nothing else stops
it. In the sawtooth that an RC compare resets (`WAVSEL` = 2), with no stop and no disable on the compare, the counter
is back at 0 after exactly `RC` + 1 ticks, having passed every value in between. The step of the clock runs the tick
while the channel runs. That a tick of a stopped channel has no effect is the model's choice (log entry 9), and that a
channel on an external clock never counts is its reading of R773 (log entry 22). -/
def Obligations.TcTick : Prop :=
  (∀ x : TcChannel,
    let y := x.tick
    let wave := bit x.cmr 15
    let sel := field x.cmr 14 13
    let saw := !wave || decide (sel = 0) || decide (sel = 2)
    let rcTrg := if wave then decide (sel = 2) else bit x.cmr 14
    let top : BitVec 16 := if sel = 3 then x.rc else 0xFFFF#16
    let same := y.latches.getLsbD 0 = x.latches.getLsbD 0
    (saw = true → y.down = x.down
      ∧ (rcTrg = true → x.cv = x.rc → y.cv = 0#16 ∧ same)
      ∧ ((rcTrg = false ∨ x.cv ≠ x.rc) → x.cv = 0xFFFF#16 → y.cv = 0#16 ∧ y.latches.getLsbD 0 = true)
      ∧ ((rcTrg = false ∨ x.cv ≠ x.rc) → x.cv ≠ 0xFFFF#16 → y.cv = x.cv + 1#16 ∧ same))
    ∧ (saw = false → x.down = false → x.cv ≠ top → y.cv = x.cv + 1#16 ∧ y.down = false ∧ same)
    ∧ (saw = false → x.down = false → x.cv = top → y.down = true
      ∧ y.cv = (if top = 0#16 then x.cv else x.cv - 1#16)
      ∧ y.latches.getLsbD 0 = (x.latches.getLsbD 0 || decide (top = 0xFFFF#16)))
    ∧ (saw = false → x.down = true → x.cv ≠ 0#16 → y.cv = x.cv - 1#16 ∧ y.down = true ∧ same)
    ∧ (saw = false → x.down = true → x.cv = 0#16 → y.down = false
      ∧ y.cv = (if top = 0#16 then 0#16 else 1#16) ∧ same)
    ∧ y.latches.getLsbD 2 = (x.latches.getLsbD 2 || (wave && decide (y.cv = x.ra)))
    ∧ y.latches.getLsbD 3 = (x.latches.getLsbD 3 || (wave && decide (y.cv = x.rb)))
    ∧ y.latches.getLsbD 4 = (x.latches.getLsbD 4 || decide (y.cv = x.rc))
    ∧ (∀ i, i ∈ [1, 5, 6, 7] → y.latches.getLsbD i = x.latches.getLsbD i)
    ∧ y.running = (x.running && !(decide (y.cv = x.rc) && wave && (bit x.cmr 6 || bit x.cmr 7)))
    ∧ y.clkEnabled = (x.clkEnabled && !(decide (y.cv = x.rc) && wave && bit x.cmr 7))
    ∧ y = { x with
        cv := y.cv, down := y.down, latches := y.latches, running := y.running, clkEnabled := y.clkEnabled })
  ∧ (∀ (x : TcChannel), bit x.cmr 15 = true → field x.cmr 14 13 = 2 → bit x.cmr 6 = false → bit x.cmr 7 = false →
    x.cv = 0#16 →
    (∀ n : Nat, n ≤ x.rc.toNat → (TcChannel.tick^[n] x).cv = BitVec.ofNat 16 n)
    ∧ (TcChannel.tick^[x.rc.toNat + 1] x).cv = 0#16
    ∧ (TcChannel.tick^[x.rc.toNat + 1] x).latches.getLsbD 4 = true
    ∧ ∀ n : Nat, (TcChannel.tick^[n] x).running = x.running ∧ (TcChannel.tick^[n] x).rc = x.rc)
  ∧ ∀ (s : State) (c : Fin 6) (rest : List Input), s.fault = none → s.inputs = .tick (.tc c) :: rest →
    ((s.tc c).running = true → field (s.tc c).cmr 2 0 < 5 →
      step s = .next (tcUpdateIrq c ((s.setInputs rest).setTc c (s.tc c).tick)))
    ∧ ((s.tc c).running = false → step s = .next (s.setInputs rest))
    ∧ (5 ≤ field (s.tc c).cmr 2 0 → step s = .next (s.setInputs rest))

/-- R580 to R584, R590 to R594: the registers of the PIT and the RTT and their ticks. A tick of the PIT wraps where
`CPIV` equals `PIV` and else adds one modulo 2^20, so that a counter above `PIV` (lowered while it counted) goes round
through 0 first. From `CPIV` = 0 the PIT's period is `PIV` + 1 ticks, each period adds one to `PICNT` modulo 4096 and
sets PITS, and a cleared `PITEN` stops the counter only there. The RTT always runs, and its alarm is set when the
counter passes `AR` + 1. The nominal rate of the RTT follows its prescaler, 0 standing for 65536; its rounding is the
model's choice (log entry 21), and so is that a tick of a stopped PIT has no effect (log entry 9). -/
def Obligations.PitAndRtt : Prop :=
  (∀ (s : State) (v : Word), s.ready = true →
    exec .pitMrR s = .next (s.setRdata s.pit.mr)
    ∧ exec (.pitMrW v) s = .next (pitUpdateIrq (s.setPit
        { s.pit with mr := v &&& 0x030FFFFF#32, running := s.pit.running || bit v 24 }))
    ∧ exec .pitSrR s = .next (s.setRdata (if s.pit.pits then 1#32 else 0#32))
    ∧ exec .pitPivrR s = .next ((pitUpdateIrq (s.setPit { s.pit with picnt := 0, pits := false })).setRdata
        (s.pit.picnt ++ s.pit.cpiv))
    ∧ exec .pitPiirR s = .next (s.setRdata (s.pit.picnt ++ s.pit.cpiv)))
  ∧ (∀ x : Pit,
    (x.cpiv.toNat = field x.mr 19 0 →
      x.tick = { x with cpiv := 0#20, picnt := x.picnt + 1#12, pits := true, running := x.running && bit x.mr 24 })
    ∧ (x.cpiv.toNat ≠ field x.mr 19 0 → x.tick = { x with cpiv := x.cpiv + 1#20 })
    ∧ (field x.mr 19 0 < x.cpiv.toNat → Pit.tick^[2 ^ 20 - x.cpiv.toNat] x = { x with cpiv := 0#20 }))
  ∧ (∀ x : Pit, x.cpiv = 0#20 →
    (∀ n : Nat, n ≤ field x.mr 19 0 → Pit.tick^[n] x = { x with cpiv := BitVec.ofNat 20 n })
    ∧ Pit.tick^[field x.mr 19 0 + 1] x =
      { x with picnt := x.picnt + 1#12, pits := true, running := x.running && bit x.mr 24 })
  ∧ (∀ (s : State) (rest : List Input), s.fault = none → s.inputs = .tick .pit :: rest →
    (s.pit.running = true → step s = .next (pitUpdateIrq ((s.setInputs rest).setPit s.pit.tick)))
    ∧ (s.pit.running = false → step s = .next (s.setInputs rest)))
  ∧ (∀ (s : State) (v : Word), s.ready = true →
    exec .rttMrR s = .next (s.setRdata s.rtt.mr)
    ∧ exec (.rttMrW v) s = .next (rttUpdateIrq (s.setRtt
        { s.rtt with
          mr := v &&& 0x0003FFFF#32
          crtv := if bit v 18 then 0#32 else s.rtt.crtv
          freqHz := 32768 / (if field v 15 0 = 0 then 65536 else field v 15 0) }))
    ∧ exec .rttArR s = .next (s.setRdata s.rtt.ar)
    ∧ exec (.rttArW v) s = .next (s.setRtt { s.rtt with ar := v })
    ∧ exec .rttVrR s = .next (s.setRdata s.rtt.crtv)
    ∧ exec .rttSrR s = .next ((rttUpdateIrq (s.setRtt { s.rtt with alms := false, rttinc := false })).setRdata
        ((if s.rtt.alms then 1#32 else 0#32) ||| if s.rtt.rttinc then 2#32 else 0#32)))
  ∧ ∀ (s : State) (rest : List Input), s.fault = none → s.inputs = .tick .rtt :: rest →
    step s = .next (rttUpdateIrq ((s.setInputs rest).setRtt { s.rtt with
      crtv := s.rtt.crtv + 1#32, rttinc := true
      alms := s.rtt.alms || decide (s.rtt.crtv + 1#32 = s.rtt.ar + 1#32) }))

/-! ### DBGU, PIO, PMC -/

/-- R631 to R638: the DBGU's registers, the console's byte out and the console's byte in. -/
def Obligations.DbguRegisters : Prop :=
  (∀ (s : State) (v : Word), s.ready = true →
    exec (.dbguCrW v) s = .next (dbguUpdateIrq (s.setDbgu { s.dbgu with ovre := s.dbgu.ovre && !bit v 8 }))
    ∧ exec .dbguMrR s = .next (s.setRdata s.dbgu.mr)
    ∧ exec (.dbguMrW v) s = .next (s.setDbgu { s.dbgu with mr := v &&& 0x0000CE00#32 })
    ∧ exec (.dbguIerW v) s = .next (dbguUpdateIrq (s.setDbgu
        { s.dbgu with imr := s.dbgu.imr ||| (v &&& 0xC0001AFB#32) }))
    ∧ exec (.dbguIdrW v) s = .next (dbguUpdateIrq (s.setDbgu { s.dbgu with imr := s.dbgu.imr &&& ~~~v }))
    ∧ exec .dbguImrR s = .next (s.setRdata s.dbgu.imr)
    ∧ exec .dbguSrR s = .next (s.setRdata ((if s.dbgu.rxrdy then 0x203#32 else 0x202#32)
        ||| if s.dbgu.ovre then 0x20#32 else 0#32))
    ∧ exec .dbguRhrR s = .next ((dbguUpdateIrq (s.setDbgu { s.dbgu with rxrdy := false })).setRdata
        (s.dbgu.rhr.setWidth 32))
    ∧ exec (.dbguThrW v) s = .next (s.setConsoleOut (s.consoleOut ++ [v.setWidth 8]))
    ∧ exec .dbguBrgrR s = .next (s.setRdata s.dbgu.brgr)
    ∧ exec (.dbguBrgrW v) s = .next (s.setDbgu { s.dbgu with brgr := v &&& 0x0000FFFF#32 })
    ∧ exec .dbguCidrR s = .next (s.setRdata Config.dbguCidr)
    ∧ exec .dbguExidR s = .next (s.setRdata Config.dbguExid))
  ∧ ∀ (s : State) (b : Byte) (rest : List Input), s.fault = none → s.inputs = .console b :: rest →
    step s = .next (dbguUpdateIrq ((s.setInputs rest).setDbgu
      { s.dbgu with ovre := s.dbgu.ovre || s.dbgu.rxrdy, rhr := b, rxrdy := true }))

/-- R651 to R661: every write of a PIO changes its own latch, `ODSR` under `OWSR`, and ends with the pin update; every
read but `ISR`'s changes nothing. -/
def Obligations.PioRegisters : Prop :=
  ∀ (s : State) (p : Fin 3) (v : Word), s.ready = true →
    let x := s.pio p
    exec (.pioPerW p v) s = .next (pioUpdate p (s.setPio p { x with psr := x.psr ||| v }))
    ∧ exec (.pioPdrW p v) s = .next (pioUpdate p (s.setPio p { x with psr := x.psr &&& ~~~v }))
    ∧ exec (.pioPsrR p) s = .next (s.setRdata x.psr)
    ∧ exec (.pioOerW p v) s = .next (pioUpdate p (s.setPio p { x with osr := x.osr ||| v }))
    ∧ exec (.pioOdrW p v) s = .next (pioUpdate p (s.setPio p { x with osr := x.osr &&& ~~~v }))
    ∧ exec (.pioOsrR p) s = .next (s.setRdata x.osr)
    ∧ exec (.pioIferW p v) s = .next (pioUpdate p (s.setPio p { x with ifsr := x.ifsr ||| v }))
    ∧ exec (.pioIfdrW p v) s = .next (pioUpdate p (s.setPio p { x with ifsr := x.ifsr &&& ~~~v }))
    ∧ exec (.pioIfsrR p) s = .next (s.setRdata x.ifsr)
    ∧ exec (.pioSodrW p v) s = .next (pioUpdate p (s.setPio p { x with odsr := x.odsr ||| v }))
    ∧ exec (.pioCodrW p v) s = .next (pioUpdate p (s.setPio p { x with odsr := x.odsr &&& ~~~v }))
    ∧ exec (.pioOdsrR p) s = .next (s.setRdata x.odsr)
    ∧ exec (.pioOdsrW p v) s = .next (pioUpdate p (s.setPio p
        { x with odsr := (x.odsr &&& ~~~x.owsr) ||| (v &&& x.owsr) }))
    ∧ exec (.pioPdsrR p) s = .next (s.setRdata x.pdsr)
    ∧ exec (.pioIerW p v) s = .next (pioUpdate p (s.setPio p { x with imr := x.imr ||| v }))
    ∧ exec (.pioIdrW p v) s = .next (pioUpdate p (s.setPio p { x with imr := x.imr &&& ~~~v }))
    ∧ exec (.pioImrR p) s = .next (s.setRdata x.imr)
    ∧ exec (.pioIsrR p) s = .next ((pioUpdateIrq p (s.setPio p { x with isr := 0 })).setRdata x.isr)
    ∧ exec (.pioMderW p v) s = .next (pioUpdate p (s.setPio p { x with mdsr := x.mdsr ||| v }))
    ∧ exec (.pioMddrW p v) s = .next (pioUpdate p (s.setPio p { x with mdsr := x.mdsr &&& ~~~v }))
    ∧ exec (.pioMdsrR p) s = .next (s.setRdata x.mdsr)
    ∧ exec (.pioPudrW p v) s = .next (pioUpdate p (s.setPio p { x with pusr := x.pusr ||| v }))
    ∧ exec (.pioPuerW p v) s = .next (pioUpdate p (s.setPio p { x with pusr := x.pusr &&& ~~~v }))
    ∧ exec (.pioPusrR p) s = .next (s.setRdata x.pusr)
    ∧ exec (.pioAsrW p v) s = .next (pioUpdate p (s.setPio p { x with absr := x.absr &&& ~~~v }))
    ∧ exec (.pioBsrW p v) s = .next (pioUpdate p (s.setPio p { x with absr := x.absr ||| v }))
    ∧ exec (.pioAbsrR p) s = .next (s.setRdata x.absr)
    ∧ exec (.pioOwerW p v) s = .next (pioUpdate p (s.setPio p { x with owsr := x.owsr ||| v }))
    ∧ exec (.pioOwdrW p v) s = .next (pioUpdate p (s.setPio p { x with owsr := x.owsr &&& ~~~v }))
    ∧ exec (.pioOwsrR p) s = .next (s.setRdata x.owsr)

/-- R662, R663, R510: the pin update, pin by pin: a pin the PIO drives shows its latch, any other the level outside; a
change is accumulated in `ISR` and announced; PIOB's pin 7 selects the card. And the frames of a PIO. The announcement
by itself is an input of its own (log entry 9). Of a payload longer than the mask the first four bytes count, which is
the model's choice too (log entry 32). -/
def Obligations.PioPins : Prop :=
  (∀ (s : State) (p : Fin 3), ∃ w i,
    (∀ n : Fin 32, bit w n.val = if bit (s.pio p).psr n.val && bit (s.pio p).osr n.val then bit (s.pio p).odsr n.val
      else bit (s.pio p).extLevel n.val)
    ∧ i = (s.pio p).isr ||| (w ^^^ (s.pio p).pdsr)
    ∧ (pioUpdate p s).pio p = { s.pio p with pdsr := w, isr := i }
    ∧ (w = (s.pio p).pdsr → (pioUpdate p s).link (.pio p) = s.link (.pio p))
    ∧ (w ≠ (s.pio p).pdsr → (pioUpdate p s).link (.pio p) = (emit (.pio p) 1#8 3#8 (leBytes 4 w) s).link (.pio p))
    ∧ (pioUpdate p s).mci = (if p = 1 then
        { s.mci with selectedCard := if bit w 7 = s.params.mciCardPolarity then 1 else 0 } else s.mci)
    ∧ pioUpdate p s = (((s.setPio p ((pioUpdate p s).pio p)).setLink (.pio p) ((pioUpdate p s).link (.pio p))).setMci
        (pioUpdate p s).mci).setAic (pioUpdate p s).aic
    ∧ bit (pioUpdate p s).aic.line (p.val + 2) = decide (i &&& (s.pio p).imr ≠ 0#32)
    ∧ ∀ n : Fin 32, n.val = p.val + 2 → Aic.onlyLine n s.aic (pioUpdate p s).aic)
  ∧ ∀ (s : State) (p : Fin 3) (seq : Byte), s.fault = none →
    (∀ b0 b1 b2 b3 more,
      exec (.pioPinstateEnable p seq (b0 :: b1 :: b2 :: b3 :: more)) s = .next (pioUpdate p (s.setPio p
        { s.pio p with extLevel := (s.pio p).extLevel ||| (b3 ++ b2 ++ b1 ++ b0) }))
      ∧ exec (.pioPinstateDisable p seq (b0 :: b1 :: b2 :: b3 :: more)) s = .next (pioUpdate p (s.setPio p
        { s.pio p with extLevel := (s.pio p).extLevel &&& ~~~(b3 ++ b2 ++ b1 ++ b0) })))
    ∧ (∀ bs : List Byte, bs.length < 4 →
      exec (.pioPinstateEnable p seq bs) s = .next s ∧ exec (.pioPinstateDisable p seq bs) s = .next s)
    ∧ exec (.pioPinstateOut p) s = .next (emit (.pio p) 1#8 3#8 (leBytes 4 (s.pio p).pdsr) s)
    ∧ ∀ bs, exec (.pioPinstateGet p seq bs) s = .next (s.setLink (.pio p) { s.link (.pio p) with
        outq := (s.link (.pio p)).outq ++ [⟨seq, 1#8, 4#8, leBytes 4 (s.pio p).pdsr⟩] })

/-- R671 to R680, R683: every PMC write stores its register and its readiness and ends with the master-clock
recomputation; the reads. -/
def Obligations.PmcRegisters : Prop :=
  ∀ (s : State) (v : Word), s.ready = true →
    let x := s.pmc
    let pllOk := decide (field v 7 0 ≠ 0) && decide (field v 26 16 ≠ 0)
    let pllFreq := if pllOk then 18432000 / field v 7 0 * (field v 26 16 + 1) else 0
    exec (.pmcScerW v) s = .next (pmcUpdate (s.setPmc { x with scsr := x.scsr ||| (v &&& 0x000003C1#32) }))
    ∧ exec (.pmcScdrW v) s = .next (pmcUpdate (s.setPmc { x with scsr := x.scsr &&& ~~~v }))
    ∧ exec .pmcScsrR s = .next (s.setRdata x.scsr)
    ∧ exec (.pmcPcerW v) s = .next (pmcUpdate (s.setPmc { x with pcsr := x.pcsr ||| (v &&& 0xFFFFFFFC#32) }))
    ∧ exec (.pmcPcdrW v) s = .next (pmcUpdate (s.setPmc { x with pcsr := x.pcsr &&& ~~~v }))
    ∧ exec .pmcPcsrR s = .next (s.setRdata x.pcsr)
    ∧ exec (.pmcCkgrMorW v) s = .next (pmcUpdate (s.setPmc { x with mor := v &&& 0x0000FF01#32, moscs := bit v 0 }))
    ∧ exec .pmcCkgrMorR s = .next (s.setRdata x.mor)
    ∧ exec .pmcCkgrMcfrR s = .next (s.setRdata (if bit x.mor 0 then 0x00012328#32 else 0#32))
    ∧ exec (.pmcCkgrPllarW v) s = .next (pmcUpdate (s.setPmc
        { x with pllar := v &&& 0x27FFFFFF#32, locka := pllOk, pllaHz := pllFreq }))
    ∧ exec .pmcCkgrPllarR s = .next (s.setRdata x.pllar)
    ∧ exec (.pmcCkgrPllbrW v) s = .next (pmcUpdate (s.setPmc
        { x with pllbr := v &&& 0x37FFFFFF#32, lockb := pllOk, pllbHz := pllFreq }))
    ∧ exec .pmcCkgrPllbrR s = .next (s.setRdata x.pllbr)
    ∧ exec (.pmcMckrW v) s = .next (pmcUpdate (s.setPmc { x with mckr := v &&& 0x0000131F#32 }))
    ∧ exec .pmcMckrR s = .next (s.setRdata x.mckr)
    ∧ exec (.pmcPck0W v) s = .next (pmcUpdate (s.setPmc { x with pck0 := v &&& 0x0000001F#32 }))
    ∧ exec .pmcPck0R s = .next (s.setRdata x.pck0)
    ∧ exec (.pmcPck1W v) s = .next (pmcUpdate (s.setPmc { x with pck1 := v &&& 0x0000001F#32 }))
    ∧ exec .pmcPck1R s = .next (s.setRdata x.pck1)
    ∧ exec (.pmcIerW v) s = .next (pmcUpdate (s.setPmc { x with imr := x.imr ||| (v &&& 0x0000030F#32) }))
    ∧ exec (.pmcIdrW v) s = .next (pmcUpdate (s.setPmc { x with imr := x.imr &&& ~~~v }))
    ∧ exec .pmcImrR s = .next (s.setRdata x.imr)
    ∧ (∃ w, exec .pmcSrR s = .next (s.setRdata w) ∧ bit w 0 = x.moscs ∧ bit w 1 = x.locka ∧ bit w 2 = x.lockb
      ∧ bit w 3 = x.mckrdy ∧ bit w 8 = bit x.scsr 8 ∧ bit w 9 = bit x.scsr 9 ∧ w &&& 0xFFFFFCF0#32 = 0#32)
    ∧ exec (.pmcPllicprW v) s = .next (pmcUpdate (s.setPmc { x with pllicpr := v }))
    ∧ exec .pmcPllicprR s = .next (s.setRdata x.pllicpr)

/-- R681, R682, R684, R394, R452, R323, R512, R551, R561, property 6 of the source: the master clock the registers
select, announced exactly when a valid selection changes it; the announcement re-derives the informational clocks of
the PIT, the TWI, the USARTs and the TC channels and touches nothing else, and the clocks of the SPIs and of the card
follow; writing the same `MCKR` value again changes nothing at all. The recomputation ends with the PMC's interrupt
output, at its stub input and at line 1 (R680, R670). The baud rate is the formula that `UsartRegisters` spells out.
The numbers themselves, with their rounding, are informational, and where the rules leave them open they are the
model's (log entry 21). -/
def Obligations.PmcMasterClock : Prop :=
  (∀ s : State,
    let x := s.pmc
    let src : Nat × Bool := match field x.mckr 1 0 with
      | 0 => (32768, true)
      | 1 => (18432000, x.moscs)
      | 2 => (x.pllaHz, x.locka)
      | _ => (x.pllbHz, x.lockb)
    let valid := src.2 && decide (field x.mckr 4 2 ≠ 7)
    let hz := src.1 / 2 ^ field x.mckr 4 2 / (match field x.mckr 9 8 with
      | 0 => 1
      | 1 => 2
      | 2 => 4
      | _ => 6)
    let t := pmcUpdate s
    t.pmc = { x with
      mckrdy := valid
      mclkHz := if valid then hz else x.mclkHz
      mclkChanges := if valid ∧ hz ≠ x.mclkHz then x.mclkChanges + 1 else x.mclkChanges }
    ∧ (let level := decide (t.pmc.sr &&& t.pmc.imr ≠ 0#32)
      bit t.stubIn 3 = level ∧ t.stubIn = (driveStub 3 level s).stubIn ∧ t.aic = (driveStub 3 level s).aic)
    ∧ ((valid = true → hz = x.mclkHz) → t = ((s.setPmc t.pmc).setStubIn t.stubIn).setAic t.aic)
    ∧ (valid = true → hz ≠ x.mclkHz →
      t.pit = { s.pit with freqHz := hz / 16 }
      ∧ t.twi = { s.twi with
        clockHz := hz / ((field s.twi.cwgr 7 0 + field s.twi.cwgr 15 8) * 2 ^ field s.twi.cwgr 18 16 + 8) }
      ∧ (∀ u, t.usart u = { s.usart u with baud := usartBaud u hz (s.usart u) })
      ∧ (∀ c, t.tc c = { s.tc c with freqHz := match field (s.tc c).cmr 2 0 with
        | 0 => hz / 2
        | 1 => hz / 8
        | 2 => hz / 32
        | 3 => hz / 128
        | 4 => 32768
        | _ => 0 })
      ∧ (∀ u k, field (s.spi u).csr[k.val] 15 8 ≠ 0 → t.spiClock u k = hz / field (s.spi u).csr[k.val] 15 8)
      ∧ t.mciClock = hz / (2 * ((s.mci.mrLow.extractLsb 7 0).toNat + 1))
      ∧ t = { s with
          pmc := t.pmc, pit := t.pit, twi := t.twi, usarts := t.usarts, tcs := t.tcs, stubIn := t.stubIn
          aic := t.aic })
    ∧ ∀ n : Fin 32, n ≠ 1 → bit t.aic.line n.val = bit s.aic.line n.val)
  ∧ ∀ (s t : State) (v : Word), s.ready = true → exec (.pmcMckrW v) s = .next t → exec (.pmcMckrW v) t = .next t

/-! ### Links -/

/-- R730, R731, R735, R721, R722, R733, R727: the outbound side of a link and its client. That a client's step that is not
enabled, the taking of a frame when none is queued, has no effect is the model's choice (log entry 9). -/
def Obligations.LinkServer : Prop :=
  (∀ (s : State) (l : LinkId) (cat id : Byte) (payload : List Byte),
    ((s.link l).client = false → emit l cat id payload s = s ∧ emitData l payload s = s)
    ∧ ((s.link l).client = true → emit l cat id payload s = s.setLink l { s.link l with
        seq := (s.link l).seq + 1#7
        outq := (s.link l).outq ++ [⟨0x80#8 ||| (s.link l).seq.setWidth 8, cat, id, payload⟩] })
    ∧ ((0x80#8 ||| (s.link l).seq.setWidth 8).getLsbD 7 = true))
  ∧ (∀ (s : State) (l : LinkId) (seq : Byte) (v : Word), reply l seq v s = s.setLink l { s.link l with
      outq := (s.link l).outq ++ [⟨seq, 1#8, 1#8,
        [v.extractLsb 7 0, v.extractLsb 15 8, v.extractLsb 23 16, v.extractLsb 31 24]⟩] })
  ∧ ∀ (s : State) (l : LinkId) (rest : List Input), s.fault = none →
    (s.inputs = .connect l :: rest → step s = .next ((s.setInputs rest).setLink l { s.link l with client := true }))
    ∧ (s.inputs = .disconnect l :: rest → step s = .next ((s.setInputs rest).setLink l
        { s.link l with client := false, inbuf := [], outq := [] }))
    ∧ (s.inputs = .take l :: rest → step s = .next ((s.setInputs rest).setLink l
        { s.link l with outq := (s.link l).outq.tail }))
    ∧ (∀ e, s.inputs = .linkError l e :: rest → ∃ t, step s = .next t ∧ t.fault = some (.ioxIo l e))

/-- R732: one transmission is the bytes cut into pieces of 255, the last one 1 to 255 bytes, or one empty frame for no
bytes; with the parameter for the terminator set, an empty frame follows a transmission of one or more whole pieces of
255; its frames share one sequence number with bit 7 set, and the counter advances once. -/
def Obligations.MultiframeTransmission : Prop :=
  ∀ (s : State) (l : LinkId) (bs : List Byte), (s.link l).client = true →
    ∃ cs : List (List Byte),
      emitData l bs s = s.setLink l { s.link l with
        seq := (s.link l).seq + 1#7
        outq := (s.link l).outq ++ (cs ++ if s.params.multiframeTerminator = true ∧ bs ≠ [] ∧ bs.length % 255 = 0
          then [[]] else []).map fun c => ⟨0x80#8 ||| (s.link l).seq.setWidth 8, 1#8, 2#8, c⟩ }
      ∧ cs.flatten = bs
      ∧ (bs = [] → cs = [[]])
      ∧ (∀ i c, cs[i]? = some c → i + 1 < cs.length → c.length = 255)
      ∧ (∀ c, cs.getLast? = some c → c.length ≤ 255 ∧ (bs ≠ [] → c ≠ []))

/-- R723, R725, property 7 of the source: what a byte stream does on a link does not depend on how it is cut into
deliveries. -/
def Obligations.FrameBoundaryIndependence : Prop :=
  ∀ (s : State) (l : LinkId) (bs cs : List Byte), s.fault = none →
    (∀ t, feed l bs s = .next t → t.fault = none → feed l (bs ++ cs) s = feed l cs t)
    ∧ (∀ t, feed l bs s = .next t → t.fault ≠ none → feed l (bs ++ cs) s = .next t)
    ∧ (∃ t, feed l bs s = .next t)

/-! ### Invariants of every step -/

/-- The memory keeps its canonical form (log entry 5) through every step. -/
def Obligations.StepKeepsMemoryForm : Prop :=
  ∀ s t : State, s.memoryOk → step s = .next t → t.memoryOk

/-- R85, R95, R6: no step changes a byte of ROM or of the NOR flash, and none changes the parameters. That the
parameters are a field of the state is the model's choice (log entry 1). -/
def Obligations.StepKeepsRomAndParameters : Prop :=
  ∀ s t : State, s.memoryOk → step s = .next t →
    t.params = s.params
    ∧ ∀ a : Word, (memoryAt s.params.sizes a = some .rom ∨ memoryAt s.params.sizes a = some .nor) → t.byteAt a = s.byteAt a

/-- R217, R218, R25, R210: after every step both outputs of the AIC are the functions of its state that R217 and R218
give, at most eight acknowledges are open, each at a priority of 0 to 8, and line 0 is not fast-forced. -/
def Obligations.StepKeepsAicConsistent : Prop :=
  ∀ s t : State, s.aicOk → step s = .next t → t.aicOk

/-- R723: between two steps no link's buffer holds a whole frame, so none holds more than 258 bytes. -/
def Obligations.StepKeepsBuffersPartial : Prop :=
  (∀ s t : State, s.linksOk → step s = .next t → t.linksOk)
  ∧ ∀ (s : State) (l : LinkId), s.linksOk → (s.link l).inbuf.length ≤ 258

end
end

