-- ==== Sys2Proof/Laws/Decode.lean ====
section
/-! SUPPORT. What the decoder answers, kind by kind of region, so that a proof about one row needs the row's own facts
only: its region, its alignment and its offset. -/

namespace Sys2Proof

/-- A register row: the region is a window, the access a whole word, and the window holds the register. -/
theorem decodeBus_register {z : MemSizes} {t : BusTxn} {r : Region} {p : Peripheral} {i : Instr} (hr : regionOf z t.addr = some r)
    (hk : r.kind = .mmio p) (hw : wordAccess t = true)
    (hd : decodeRegister p (t.addr.toNat - r.base) t.dir t.wdata = .register i) : decodeBus z t = .ok i := by
  simp [decodeBus, hr, hk, hw, hd]

/-- A memory row. -/
theorem decodeBus_memory {z : MemSizes} {t : BusTxn} {r : Region} {m : MemRegion} {size : AccessSize}
    (hr : regionOf z t.addr = some r) (hk : r.kind = .memory m) (hs : memoryAccess t = some size) :
    decodeBus z t = .ok (decodeMemory m t.dir t.addr size t.wdata) := by
  simp [decodeBus, hr, hk, hs]

/-- A row of the bootmem window. -/
theorem decodeBus_bootmem {z : MemSizes} {t : BusTxn} {r : Region} {size : AccessSize} (hr : regionOf z t.addr = some r)
    (hk : r.kind = .bootmem) (hs : memoryAccess t = some size) :
    decodeBus z t = match t.dir with
      | .read => .ok (.bootmemR t.addr size)
      | .write => .ok (.bootmemW t.addr size t.wdata) := by
  cases hd : t.dir <;> simp [decodeBus, hr, hk, hs, hd]

/-- A row of an unimplemented window. -/
theorem decodeBus_unimpl {z : MemSizes} {t : BusTxn} {r : Region} {w : UnimplWindow} (hr : regionOf z t.addr = some r)
    (hk : r.kind = .unimpl w) (hw : wordAccess t = true) :
    decodeBus z t = .ok (decodeUnimpl w t.dir t.addr t.wdata) := by
  simp [decodeBus, hr, hk, hw]

/-- A word access to an address of no region (R158). -/
theorem decodeBus_reserved {z : MemSizes} {t : BusTxn} (hr : regionOf z t.addr = none) (hw : wordAccess t = true) :
    decodeBus z t = .reject .reserved := by
  simp [decodeBus, hr, hw]

/-- A wrong size or alignment outside memory (R93, R152). -/
theorem decodeBus_accessSize {z : MemSizes} {t : BusTxn} (hb : ∀ r, regionOf z t.addr = some r → r.kind ≠ .bootmem)
    (hm : ∀ r m, regionOf z t.addr = some r → r.kind ≠ .memory m) (hw : wordAccess t = false) :
    decodeBus z t = .reject .accessSize := by
  unfold decodeBus
  cases hr : regionOf z t.addr with
  | none => simp [hw]
  | some r =>
    have h1 := hb r hr
    have h2 := fun m => hm r m hr
    cases hk : r.kind with
    | bootmem => exact absurd hk h1
    | memory m => exact absurd hk (h2 m)
    | unimpl w => simp [hk, hw]
    | mmio p => simp [hk, hw]

/-- An aligned word access, from its size and address. -/
theorem wordAccess_of {t : BusTxn} (hs : t.size = 4) (ha : aligned .word t.addr = true) : wordAccess t = true := by
  simp [wordAccess, memoryAccess, accessSize, hs, ha]

/-- The access of a well-formed memory row. -/
theorem memoryAccess_of {t : BusTxn} {size : AccessSize} (hs : t.size = size.bytes)
    (ha : aligned size t.addr = true) : memoryAccess t = some size := by
  cases size <;> simp_all [memoryAccess, accessSize, AccessSize.bytes]

/-- An address splits into the bits a mask keeps and the bits it frees. -/
theorem mask_split (mask addr : Word) : (addr &&& mask) + (addr &&& ~~~mask) = addr := by
  rw [BitVec.add_eq_or_of_and_eq_zero]
  · ext i hi
    simp only [BitVec.getElem_or, BitVec.getElem_and, BitVec.getElem_not]
    cases addr[i] <;> cases mask[i] <;> rfl
  · ext i hi
    simp only [BitVec.getElem_and, BitVec.getElem_not, BitVec.getElem_zero]
    cases addr[i] <;> cases mask[i] <;> rfl

/-- An address a row selects lies between the row's pattern and the pattern with the free bits set (R123). -/
theorem selects_bounds {mask pattern addr : Word} (h : selects mask pattern addr = true) :
    pattern.toNat ≤ addr.toNat ∧ addr.toNat ≤ pattern.toNat + (~~~mask).toNat := by
  simp only [selects, beq_iff_eq] at h
  have h1 : pattern.toNat ≤ addr.toNat := by rw [← h, BitVec.toNat_and]; exact Nat.and_le_left
  have hy : addr &&& ~~~mask = addr - pattern := by
    rw [BitVec.eq_sub_iff_add_eq, ← h, BitVec.add_comm]; exact mask_split mask addr
  have hle : (addr &&& ~~~mask).toNat ≤ (~~~mask).toNat := by rw [BitVec.toNat_and]; exact Nat.and_le_right
  rw [hy, BitVec.toNat_sub_of_le (by simpa [BitVec.le_def] using h1)] at hle
  omega

/-- The region of an address, from the bounds of a row of the map that no earlier row meets. -/
theorem regionIn_of_not {a : Nat} {r : Region} {rs : List Region} (h : r.holds a = false) :
    regionIn a (r :: rs) = regionIn a rs := by simp [regionIn, h]

/-- The first region of a list that holds the address. -/
theorem regionIn_of_holds {a : Nat} {r : Region} {rs : List Region} (h : r.holds a = true) :
    regionIn a (r :: rs) = some r := by simp [regionIn, h]

end Sys2Proof
end

