-- ==== Sys2Proof/Laws/Dispatch.lean ====
section
/-! SUPPORT. What a row of the opcode table runs, for every instance at once: the operation its meaning hands to the
gate of its agent. -/

namespace Sys2Proof.Machine

/-- A served transaction has its effect (R150). -/
theorem runBus_served {f : State → State} {s : State} (hf : s.fault = none) (hh : s.held = false) :
    runBus f s = .next (f s) := by simp [runBus, hf, hh]

/-- A held transaction waits (R390). -/
theorem runBus_held {f : State → State} {s : State} (hf : s.fault = none) (hh : s.held = true) :
    runBus f s = .next s := by simp [runBus, hf, hh]

/-- An aborted machine answers nothing (R770). -/
theorem runBus_aborted {f : State → State} {s : State} {e : Fault} (hf : s.fault = some e) :
    runBus f s = .fault e := by simp [runBus, hf]

/-- Everything a transaction's gate can do (R150). -/
theorem runBus_cases {f : State → State} {s t : State} (h : runBus f s = .next t) :
    s.fault = none ∧ (s.held = true ∧ t = s ∨ s.held = false ∧ t = f s) := by
  unfold runBus at h
  split at h
  · cases h
  · split at h <;> cases h <;> simp_all

/-- The step of any other agent has its effect (R390). -/
theorem runAgent_live {f : State → State} {s : State} (hf : s.fault = none) : runAgent f s = .next (f s) := by
  simp [runAgent, hf]

/-- An aborted machine answers nothing (R770). -/
theorem runAgent_aborted {f : State → State} {s : State} {e : Fault} (hf : s.fault = some e) :
    runAgent f s = .fault e := by simp [runAgent, hf]

/-- Everything another agent's gate can do. -/
theorem runAgent_cases {f : State → State} {s t : State} (h : runAgent f s = .next t) :
    s.fault = none ∧ t = f s := by
  unfold runAgent at h
  split at h
  · cases h
  · cases h; exact ⟨by assumption, rfl⟩

theorem exec_usartCrW (u : Fin 6) (v : Word) (s : State) :
    exec (Instr.usartCrW u v) s = runBus (usartWriteCr u v) s :=
  match u with | 0 => rfl | 1 => rfl | 2 => rfl | 3 => rfl | 4 => rfl | 5 => rfl

theorem exec_usartMrR (u : Fin 6) (s : State) :
    exec (Instr.usartMrR u) s = runBus (readPlain (fun s => (s.usart u).mr)) s :=
  match u with | 0 => rfl | 1 => rfl | 2 => rfl | 3 => rfl | 4 => rfl | 5 => rfl

theorem exec_usartMrW (u : Fin 6) (v : Word) (s : State) :
    exec (Instr.usartMrW u v) s = runBus (usartWriteMr u v) s :=
  match u with | 0 => rfl | 1 => rfl | 2 => rfl | 3 => rfl | 4 => rfl | 5 => rfl

theorem exec_usartIerW (u : Fin 6) (v : Word) (s : State) :
    exec (Instr.usartIerW u v) s = runBus (usartWriteIer u v) s :=
  match u with | 0 => rfl | 1 => rfl | 2 => rfl | 3 => rfl | 4 => rfl | 5 => rfl

theorem exec_usartIdrW (u : Fin 6) (v : Word) (s : State) :
    exec (Instr.usartIdrW u v) s = runBus (usartWriteIdr u v) s :=
  match u with | 0 => rfl | 1 => rfl | 2 => rfl | 3 => rfl | 4 => rfl | 5 => rfl

theorem exec_usartImrR (u : Fin 6) (s : State) :
    exec (Instr.usartImrR u) s = runBus (readPlain (fun s => (s.usart u).imr)) s :=
  match u with | 0 => rfl | 1 => rfl | 2 => rfl | 3 => rfl | 4 => rfl | 5 => rfl

theorem exec_usartCsrR (u : Fin 6) (s : State) :
    exec (Instr.usartCsrR u) s = runBus (readPlain (fun s => s.usartCsr u)) s :=
  match u with | 0 => rfl | 1 => rfl | 2 => rfl | 3 => rfl | 4 => rfl | 5 => rfl

theorem exec_usartRhrR (u : Fin 6) (s : State) :
    exec (Instr.usartRhrR u) s = runBus (usartReadRhr u) s :=
  match u with | 0 => rfl | 1 => rfl | 2 => rfl | 3 => rfl | 4 => rfl | 5 => rfl

theorem exec_usartThrW (u : Fin 6) (v : Word) (s : State) :
    exec (Instr.usartThrW u v) s = runBus (usartWriteThr u v) s :=
  match u with | 0 => rfl | 1 => rfl | 2 => rfl | 3 => rfl | 4 => rfl | 5 => rfl

theorem exec_usartBrgrR (u : Fin 6) (s : State) :
    exec (Instr.usartBrgrR u) s = runBus (readPlain (fun s => (s.usart u).brgr)) s :=
  match u with | 0 => rfl | 1 => rfl | 2 => rfl | 3 => rfl | 4 => rfl | 5 => rfl

theorem exec_usartBrgrW (u : Fin 6) (v : Word) (s : State) :
    exec (Instr.usartBrgrW u v) s = runBus (usartWriteBrgr u v) s :=
  match u with | 0 => rfl | 1 => rfl | 2 => rfl | 3 => rfl | 4 => rfl | 5 => rfl

theorem exec_usartRtorR (u : Fin 6) (s : State) :
    exec (Instr.usartRtorR u) s = runBus (readPlain (fun s => (s.usart u).rtor)) s :=
  match u with | 0 => rfl | 1 => rfl | 2 => rfl | 3 => rfl | 4 => rfl | 5 => rfl

theorem exec_usartRtorW (u : Fin 6) (v : Word) (s : State) :
    exec (Instr.usartRtorW u v) s = runBus (usartWriteRtor u v) s :=
  match u with | 0 => rfl | 1 => rfl | 2 => rfl | 3 => rfl | 4 => rfl | 5 => rfl

theorem exec_usartTtgrR (u : Fin 6) (s : State) :
    exec (Instr.usartTtgrR u) s = runBus (readPlain (fun s => (s.usart u).ttgr)) s :=
  match u with | 0 => rfl | 1 => rfl | 2 => rfl | 3 => rfl | 4 => rfl | 5 => rfl

theorem exec_usartTtgrW (u : Fin 6) (v : Word) (s : State) :
    exec (Instr.usartTtgrW u v) s = runBus (usartWriteTtgr u v) s :=
  match u with | 0 => rfl | 1 => rfl | 2 => rfl | 3 => rfl | 4 => rfl | 5 => rfl

theorem exec_usartFidiR (u : Fin 6) (s : State) :
    exec (Instr.usartFidiR u) s = runBus (readPlain (fun s => (s.usart u).fidi)) s :=
  match u with | 0 => rfl | 1 => rfl | 2 => rfl | 3 => rfl | 4 => rfl | 5 => rfl

theorem exec_usartFidiW (u : Fin 6) (v : Word) (s : State) :
    exec (Instr.usartFidiW u v) s = runBus (usartWriteFidi u v) s :=
  match u with | 0 => rfl | 1 => rfl | 2 => rfl | 3 => rfl | 4 => rfl | 5 => rfl

theorem exec_usartNerR (u : Fin 6) (s : State) :
    exec (Instr.usartNerR u) s = runBus (readPlain (fun _ => 0#32)) s :=
  match u with | 0 => rfl | 1 => rfl | 2 => rfl | 3 => rfl | 4 => rfl | 5 => rfl

theorem exec_usartIfR (u : Fin 6) (s : State) :
    exec (Instr.usartIfR u) s = runBus (readPlain (fun s => (s.usart u).ifr)) s :=
  match u with | 0 => rfl | 1 => rfl | 2 => rfl | 3 => rfl | 4 => rfl | 5 => rfl

theorem exec_usartIfW (u : Fin 6) (v : Word) (s : State) :
    exec (Instr.usartIfW u v) s = runBus (usartWriteIf u v) s :=
  match u with | 0 => rfl | 1 => rfl | 2 => rfl | 3 => rfl | 4 => rfl | 5 => rfl

theorem exec_usartManR (u : Fin 6) (s : State) :
    exec (Instr.usartManR u) s = runBus (readPlain (fun s => (s.usart u).man)) s :=
  match u with | 0 => rfl | 1 => rfl | 2 => rfl | 3 => rfl | 4 => rfl | 5 => rfl

theorem exec_usartManW (u : Fin 6) (v : Word) (s : State) :
    exec (Instr.usartManW u v) s = runBus (usartWriteMan u v) s :=
  match u with | 0 => rfl | 1 => rfl | 2 => rfl | 3 => rfl | 4 => rfl | 5 => rfl

theorem exec_usartRprR (u : Fin 6) (s : State) :
    exec (Instr.usartRprR u) s = runBus (readPlain (fun s => (s.pdc (.usart u)).rpr)) s :=
  match u with | 0 => rfl | 1 => rfl | 2 => rfl | 3 => rfl | 4 => rfl | 5 => rfl

theorem exec_usartRprW (u : Fin 6) (v : Word) (s : State) :
    exec (Instr.usartRprW u v) s = runBus (pdcWriteRpr (.usart u) v) s :=
  match u with | 0 => rfl | 1 => rfl | 2 => rfl | 3 => rfl | 4 => rfl | 5 => rfl

theorem exec_usartRcrR (u : Fin 6) (s : State) :
    exec (Instr.usartRcrR u) s = runBus (readPlain (fun s => (s.pdc (.usart u)).rcr.setWidth 32)) s :=
  match u with | 0 => rfl | 1 => rfl | 2 => rfl | 3 => rfl | 4 => rfl | 5 => rfl

theorem exec_usartRcrW (u : Fin 6) (v : Word) (s : State) :
    exec (Instr.usartRcrW u v) s = runBus (pdcWriteRcr (.usart u) v) s :=
  match u with | 0 => rfl | 1 => rfl | 2 => rfl | 3 => rfl | 4 => rfl | 5 => rfl

theorem exec_usartTprR (u : Fin 6) (s : State) :
    exec (Instr.usartTprR u) s = runBus (readPlain (fun s => (s.pdc (.usart u)).tpr)) s :=
  match u with | 0 => rfl | 1 => rfl | 2 => rfl | 3 => rfl | 4 => rfl | 5 => rfl

theorem exec_usartTprW (u : Fin 6) (v : Word) (s : State) :
    exec (Instr.usartTprW u v) s = runBus (pdcWriteTpr (.usart u) v) s :=
  match u with | 0 => rfl | 1 => rfl | 2 => rfl | 3 => rfl | 4 => rfl | 5 => rfl

theorem exec_usartTcrR (u : Fin 6) (s : State) :
    exec (Instr.usartTcrR u) s = runBus (readPlain (fun s => (s.pdc (.usart u)).tcr.setWidth 32)) s :=
  match u with | 0 => rfl | 1 => rfl | 2 => rfl | 3 => rfl | 4 => rfl | 5 => rfl

theorem exec_usartTcrW (u : Fin 6) (v : Word) (s : State) :
    exec (Instr.usartTcrW u v) s = runBus (pdcWriteTcr (.usart u) v) s :=
  match u with | 0 => rfl | 1 => rfl | 2 => rfl | 3 => rfl | 4 => rfl | 5 => rfl

theorem exec_usartRnprR (u : Fin 6) (s : State) :
    exec (Instr.usartRnprR u) s = runBus (readPlain (fun s => (s.pdc (.usart u)).rnpr)) s :=
  match u with | 0 => rfl | 1 => rfl | 2 => rfl | 3 => rfl | 4 => rfl | 5 => rfl

theorem exec_usartRnprW (u : Fin 6) (v : Word) (s : State) :
    exec (Instr.usartRnprW u v) s = runBus (pdcWriteRnpr (.usart u) v) s :=
  match u with | 0 => rfl | 1 => rfl | 2 => rfl | 3 => rfl | 4 => rfl | 5 => rfl

theorem exec_usartRncrR (u : Fin 6) (s : State) :
    exec (Instr.usartRncrR u) s = runBus (readPlain (fun s => (s.pdc (.usart u)).rncr.setWidth 32)) s :=
  match u with | 0 => rfl | 1 => rfl | 2 => rfl | 3 => rfl | 4 => rfl | 5 => rfl

theorem exec_usartRncrW (u : Fin 6) (v : Word) (s : State) :
    exec (Instr.usartRncrW u v) s = runBus (pdcWriteRncr (.usart u) v) s :=
  match u with | 0 => rfl | 1 => rfl | 2 => rfl | 3 => rfl | 4 => rfl | 5 => rfl

theorem exec_usartTnprR (u : Fin 6) (s : State) :
    exec (Instr.usartTnprR u) s = runBus (readPlain (fun s => (s.pdc (.usart u)).tnpr)) s :=
  match u with | 0 => rfl | 1 => rfl | 2 => rfl | 3 => rfl | 4 => rfl | 5 => rfl

theorem exec_usartTnprW (u : Fin 6) (v : Word) (s : State) :
    exec (Instr.usartTnprW u v) s = runBus (pdcWriteTnpr (.usart u) v) s :=
  match u with | 0 => rfl | 1 => rfl | 2 => rfl | 3 => rfl | 4 => rfl | 5 => rfl

theorem exec_usartTncrR (u : Fin 6) (s : State) :
    exec (Instr.usartTncrR u) s = runBus (readPlain (fun s => (s.pdc (.usart u)).tncr.setWidth 32)) s :=
  match u with | 0 => rfl | 1 => rfl | 2 => rfl | 3 => rfl | 4 => rfl | 5 => rfl

theorem exec_usartTncrW (u : Fin 6) (v : Word) (s : State) :
    exec (Instr.usartTncrW u v) s = runBus (pdcWriteTncr (.usart u) v) s :=
  match u with | 0 => rfl | 1 => rfl | 2 => rfl | 3 => rfl | 4 => rfl | 5 => rfl

theorem exec_usartPtcrW (u : Fin 6) (v : Word) (s : State) :
    exec (Instr.usartPtcrW u v) s = runBus (pdcWritePtcr (.usart u) v) s :=
  match u with | 0 => rfl | 1 => rfl | 2 => rfl | 3 => rfl | 4 => rfl | 5 => rfl

theorem exec_usartPtsrR (u : Fin 6) (s : State) :
    exec (Instr.usartPtsrR u) s = runBus (readPlain (fun s => (s.pdc (.usart u)).ptsr)) s :=
  match u with | 0 => rfl | 1 => rfl | 2 => rfl | 3 => rfl | 4 => rfl | 5 => rfl

theorem exec_spiCrW (u : Fin 2) (v : Word) (s : State) :
    exec (Instr.spiCrW u v) s = runBus (spiWriteCr u v) s :=
  match u with | 0 => rfl | 1 => rfl

theorem exec_spiMrR (u : Fin 2) (s : State) :
    exec (Instr.spiMrR u) s = runBus (readPlain (fun s => (s.spi u).mr)) s :=
  match u with | 0 => rfl | 1 => rfl

theorem exec_spiMrW (u : Fin 2) (v : Word) (s : State) :
    exec (Instr.spiMrW u v) s = runBus (spiWriteMr u v) s :=
  match u with | 0 => rfl | 1 => rfl

theorem exec_spiRdrR (u : Fin 2) (s : State) :
    exec (Instr.spiRdrR u) s = runBus (spiReadRdr u) s :=
  match u with | 0 => rfl | 1 => rfl

theorem exec_spiTdrW (u : Fin 2) (v : Word) (s : State) :
    exec (Instr.spiTdrW u v) s = runBus (spiWriteTdr u v) s :=
  match u with | 0 => rfl | 1 => rfl

theorem exec_spiSrR (u : Fin 2) (s : State) :
    exec (Instr.spiSrR u) s = runBus (spiReadSr u) s :=
  match u with | 0 => rfl | 1 => rfl

theorem exec_spiIerW (u : Fin 2) (v : Word) (s : State) :
    exec (Instr.spiIerW u v) s = runBus (spiWriteIer u v) s :=
  match u with | 0 => rfl | 1 => rfl

theorem exec_spiIdrW (u : Fin 2) (v : Word) (s : State) :
    exec (Instr.spiIdrW u v) s = runBus (spiWriteIdr u v) s :=
  match u with | 0 => rfl | 1 => rfl

theorem exec_spiImrR (u : Fin 2) (s : State) :
    exec (Instr.spiImrR u) s = runBus (readPlain (fun s => (s.spi u).imr)) s :=
  match u with | 0 => rfl | 1 => rfl

theorem exec_spiCsrR (u : Fin 2) (k : Fin 4) (s : State) :
    exec (Instr.spiCsrR u k) s = runBus (readPlain (fun s => (s.spi u).csr[k.val])) s :=
  match u with | 0 => rfl | 1 => rfl

theorem exec_spiCsrW (u : Fin 2) (k : Fin 4) (v : Word) (s : State) :
    exec (Instr.spiCsrW u k v) s = runBus (spiWriteCsr u k v) s :=
  match u with | 0 => rfl | 1 => rfl

theorem exec_spiRprR (u : Fin 2) (s : State) :
    exec (Instr.spiRprR u) s = runBus (readPlain (fun s => (s.pdc (.spi u)).rpr)) s :=
  match u with | 0 => rfl | 1 => rfl

theorem exec_spiRprW (u : Fin 2) (v : Word) (s : State) :
    exec (Instr.spiRprW u v) s = runBus (pdcWriteRpr (.spi u) v) s :=
  match u with | 0 => rfl | 1 => rfl

theorem exec_spiRcrR (u : Fin 2) (s : State) :
    exec (Instr.spiRcrR u) s = runBus (readPlain (fun s => (s.pdc (.spi u)).rcr.setWidth 32)) s :=
  match u with | 0 => rfl | 1 => rfl

theorem exec_spiRcrW (u : Fin 2) (v : Word) (s : State) :
    exec (Instr.spiRcrW u v) s = runBus (pdcWriteRcr (.spi u) v) s :=
  match u with | 0 => rfl | 1 => rfl

theorem exec_spiTprR (u : Fin 2) (s : State) :
    exec (Instr.spiTprR u) s = runBus (readPlain (fun s => (s.pdc (.spi u)).tpr)) s :=
  match u with | 0 => rfl | 1 => rfl

theorem exec_spiTprW (u : Fin 2) (v : Word) (s : State) :
    exec (Instr.spiTprW u v) s = runBus (pdcWriteTpr (.spi u) v) s :=
  match u with | 0 => rfl | 1 => rfl

theorem exec_spiTcrR (u : Fin 2) (s : State) :
    exec (Instr.spiTcrR u) s = runBus (readPlain (fun s => (s.pdc (.spi u)).tcr.setWidth 32)) s :=
  match u with | 0 => rfl | 1 => rfl

theorem exec_spiTcrW (u : Fin 2) (v : Word) (s : State) :
    exec (Instr.spiTcrW u v) s = runBus (pdcWriteTcr (.spi u) v) s :=
  match u with | 0 => rfl | 1 => rfl

theorem exec_spiRnprR (u : Fin 2) (s : State) :
    exec (Instr.spiRnprR u) s = runBus (readPlain (fun s => (s.pdc (.spi u)).rnpr)) s :=
  match u with | 0 => rfl | 1 => rfl

theorem exec_spiRnprW (u : Fin 2) (v : Word) (s : State) :
    exec (Instr.spiRnprW u v) s = runBus (pdcWriteRnpr (.spi u) v) s :=
  match u with | 0 => rfl | 1 => rfl

theorem exec_spiRncrR (u : Fin 2) (s : State) :
    exec (Instr.spiRncrR u) s = runBus (readPlain (fun s => (s.pdc (.spi u)).rncr.setWidth 32)) s :=
  match u with | 0 => rfl | 1 => rfl

theorem exec_spiRncrW (u : Fin 2) (v : Word) (s : State) :
    exec (Instr.spiRncrW u v) s = runBus (pdcWriteRncr (.spi u) v) s :=
  match u with | 0 => rfl | 1 => rfl

theorem exec_spiTnprR (u : Fin 2) (s : State) :
    exec (Instr.spiTnprR u) s = runBus (readPlain (fun s => (s.pdc (.spi u)).tnpr)) s :=
  match u with | 0 => rfl | 1 => rfl

theorem exec_spiTnprW (u : Fin 2) (v : Word) (s : State) :
    exec (Instr.spiTnprW u v) s = runBus (pdcWriteTnpr (.spi u) v) s :=
  match u with | 0 => rfl | 1 => rfl

theorem exec_spiTncrR (u : Fin 2) (s : State) :
    exec (Instr.spiTncrR u) s = runBus (readPlain (fun s => (s.pdc (.spi u)).tncr.setWidth 32)) s :=
  match u with | 0 => rfl | 1 => rfl

theorem exec_spiTncrW (u : Fin 2) (v : Word) (s : State) :
    exec (Instr.spiTncrW u v) s = runBus (pdcWriteTncr (.spi u) v) s :=
  match u with | 0 => rfl | 1 => rfl

theorem exec_spiPtcrW (u : Fin 2) (v : Word) (s : State) :
    exec (Instr.spiPtcrW u v) s = runBus (pdcWritePtcr (.spi u) v) s :=
  match u with | 0 => rfl | 1 => rfl

theorem exec_spiPtsrR (u : Fin 2) (s : State) :
    exec (Instr.spiPtsrR u) s = runBus (readPlain (fun s => (s.pdc (.spi u)).ptsr)) s :=
  match u with | 0 => rfl | 1 => rfl

theorem exec_tcCcrW (c : Fin 6) (v : Word) (s : State) :
    exec (Instr.tcCcrW c v) s = runBus (tcWriteCcr c v) s :=
  match c with | 0 => rfl | 1 => rfl | 2 => rfl | 3 => rfl | 4 => rfl | 5 => rfl

theorem exec_tcCmrR (c : Fin 6) (s : State) :
    exec (Instr.tcCmrR c) s = runBus (readPlain (fun s => (s.tc c).cmr)) s :=
  match c with | 0 => rfl | 1 => rfl | 2 => rfl | 3 => rfl | 4 => rfl | 5 => rfl

theorem exec_tcCmrW (c : Fin 6) (v : Word) (s : State) :
    exec (Instr.tcCmrW c v) s = runBus (tcWriteCmr c v) s :=
  match c with | 0 => rfl | 1 => rfl | 2 => rfl | 3 => rfl | 4 => rfl | 5 => rfl

theorem exec_tcCvR (c : Fin 6) (s : State) :
    exec (Instr.tcCvR c) s = runBus (readPlain (fun s => (s.tc c).cv.setWidth 32)) s :=
  match c with | 0 => rfl | 1 => rfl | 2 => rfl | 3 => rfl | 4 => rfl | 5 => rfl

theorem exec_tcRaR (c : Fin 6) (s : State) :
    exec (Instr.tcRaR c) s = runBus (readPlain (fun s => (s.tc c).ra.setWidth 32)) s :=
  match c with | 0 => rfl | 1 => rfl | 2 => rfl | 3 => rfl | 4 => rfl | 5 => rfl

theorem exec_tcRaW (c : Fin 6) (v : Word) (s : State) :
    exec (Instr.tcRaW c v) s = runBus (tcWriteRa c v) s :=
  match c with | 0 => rfl | 1 => rfl | 2 => rfl | 3 => rfl | 4 => rfl | 5 => rfl

theorem exec_tcRbR (c : Fin 6) (s : State) :
    exec (Instr.tcRbR c) s = runBus (readPlain (fun s => (s.tc c).rb.setWidth 32)) s :=
  match c with | 0 => rfl | 1 => rfl | 2 => rfl | 3 => rfl | 4 => rfl | 5 => rfl

theorem exec_tcRbW (c : Fin 6) (v : Word) (s : State) :
    exec (Instr.tcRbW c v) s = runBus (tcWriteRb c v) s :=
  match c with | 0 => rfl | 1 => rfl | 2 => rfl | 3 => rfl | 4 => rfl | 5 => rfl

theorem exec_tcRcR (c : Fin 6) (s : State) :
    exec (Instr.tcRcR c) s = runBus (readPlain (fun s => (s.tc c).rc.setWidth 32)) s :=
  match c with | 0 => rfl | 1 => rfl | 2 => rfl | 3 => rfl | 4 => rfl | 5 => rfl

theorem exec_tcRcW (c : Fin 6) (v : Word) (s : State) :
    exec (Instr.tcRcW c v) s = runBus (tcWriteRc c v) s :=
  match c with | 0 => rfl | 1 => rfl | 2 => rfl | 3 => rfl | 4 => rfl | 5 => rfl

theorem exec_tcSrR (c : Fin 6) (s : State) :
    exec (Instr.tcSrR c) s = runBus (tcReadSr c) s :=
  match c with | 0 => rfl | 1 => rfl | 2 => rfl | 3 => rfl | 4 => rfl | 5 => rfl

theorem exec_tcIerW (c : Fin 6) (v : Word) (s : State) :
    exec (Instr.tcIerW c v) s = runBus (tcWriteIer c v) s :=
  match c with | 0 => rfl | 1 => rfl | 2 => rfl | 3 => rfl | 4 => rfl | 5 => rfl

theorem exec_tcIdrW (c : Fin 6) (v : Word) (s : State) :
    exec (Instr.tcIdrW c v) s = runBus (tcWriteIdr c v) s :=
  match c with | 0 => rfl | 1 => rfl | 2 => rfl | 3 => rfl | 4 => rfl | 5 => rfl

theorem exec_tcImrR (c : Fin 6) (s : State) :
    exec (Instr.tcImrR c) s = runBus (readPlain (fun s => (s.tc c).imr.setWidth 32)) s :=
  match c with | 0 => rfl | 1 => rfl | 2 => rfl | 3 => rfl | 4 => rfl | 5 => rfl

theorem exec_tcbBcrW (b : Fin 2) (v : Word) (s : State) :
    exec (Instr.tcbBcrW b v) s = runBus (tcbWriteBcr b v) s :=
  match b with | 0 => rfl | 1 => rfl

theorem exec_tcbBmrR (b : Fin 2) (s : State) :
    exec (Instr.tcbBmrR b) s = runBus (readPlain (fun s => s.bmr b)) s :=
  match b with | 0 => rfl | 1 => rfl

theorem exec_tcbBmrW (b : Fin 2) (v : Word) (s : State) :
    exec (Instr.tcbBmrW b v) s = runBus (tcbWriteBmr b v) s :=
  match b with | 0 => rfl | 1 => rfl

theorem exec_pioPerW (p : Fin 3) (v : Word) (s : State) :
    exec (Instr.pioPerW p v) s = runBus (pioWritePer p v) s :=
  match p with | 0 => rfl | 1 => rfl | 2 => rfl

theorem exec_pioPdrW (p : Fin 3) (v : Word) (s : State) :
    exec (Instr.pioPdrW p v) s = runBus (pioWritePdr p v) s :=
  match p with | 0 => rfl | 1 => rfl | 2 => rfl

theorem exec_pioPsrR (p : Fin 3) (s : State) :
    exec (Instr.pioPsrR p) s = runBus (readPlain (fun s => (s.pio p).psr)) s :=
  match p with | 0 => rfl | 1 => rfl | 2 => rfl

theorem exec_pioOerW (p : Fin 3) (v : Word) (s : State) :
    exec (Instr.pioOerW p v) s = runBus (pioWriteOer p v) s :=
  match p with | 0 => rfl | 1 => rfl | 2 => rfl

theorem exec_pioOdrW (p : Fin 3) (v : Word) (s : State) :
    exec (Instr.pioOdrW p v) s = runBus (pioWriteOdr p v) s :=
  match p with | 0 => rfl | 1 => rfl | 2 => rfl

theorem exec_pioOsrR (p : Fin 3) (s : State) :
    exec (Instr.pioOsrR p) s = runBus (readPlain (fun s => (s.pio p).osr)) s :=
  match p with | 0 => rfl | 1 => rfl | 2 => rfl

theorem exec_pioIferW (p : Fin 3) (v : Word) (s : State) :
    exec (Instr.pioIferW p v) s = runBus (pioWriteIfer p v) s :=
  match p with | 0 => rfl | 1 => rfl | 2 => rfl

theorem exec_pioIfdrW (p : Fin 3) (v : Word) (s : State) :
    exec (Instr.pioIfdrW p v) s = runBus (pioWriteIfdr p v) s :=
  match p with | 0 => rfl | 1 => rfl | 2 => rfl

theorem exec_pioIfsrR (p : Fin 3) (s : State) :
    exec (Instr.pioIfsrR p) s = runBus (readPlain (fun s => (s.pio p).ifsr)) s :=
  match p with | 0 => rfl | 1 => rfl | 2 => rfl

theorem exec_pioSodrW (p : Fin 3) (v : Word) (s : State) :
    exec (Instr.pioSodrW p v) s = runBus (pioWriteSodr p v) s :=
  match p with | 0 => rfl | 1 => rfl | 2 => rfl

theorem exec_pioCodrW (p : Fin 3) (v : Word) (s : State) :
    exec (Instr.pioCodrW p v) s = runBus (pioWriteCodr p v) s :=
  match p with | 0 => rfl | 1 => rfl | 2 => rfl

theorem exec_pioOdsrR (p : Fin 3) (s : State) :
    exec (Instr.pioOdsrR p) s = runBus (readPlain (fun s => (s.pio p).odsr)) s :=
  match p with | 0 => rfl | 1 => rfl | 2 => rfl

theorem exec_pioOdsrW (p : Fin 3) (v : Word) (s : State) :
    exec (Instr.pioOdsrW p v) s = runBus (pioWriteOdsr p v) s :=
  match p with | 0 => rfl | 1 => rfl | 2 => rfl

theorem exec_pioPdsrR (p : Fin 3) (s : State) :
    exec (Instr.pioPdsrR p) s = runBus (readPlain (fun s => (s.pio p).pdsr)) s :=
  match p with | 0 => rfl | 1 => rfl | 2 => rfl

theorem exec_pioIerW (p : Fin 3) (v : Word) (s : State) :
    exec (Instr.pioIerW p v) s = runBus (pioWriteIer p v) s :=
  match p with | 0 => rfl | 1 => rfl | 2 => rfl

theorem exec_pioIdrW (p : Fin 3) (v : Word) (s : State) :
    exec (Instr.pioIdrW p v) s = runBus (pioWriteIdr p v) s :=
  match p with | 0 => rfl | 1 => rfl | 2 => rfl

theorem exec_pioImrR (p : Fin 3) (s : State) :
    exec (Instr.pioImrR p) s = runBus (readPlain (fun s => (s.pio p).imr)) s :=
  match p with | 0 => rfl | 1 => rfl | 2 => rfl

theorem exec_pioIsrR (p : Fin 3) (s : State) :
    exec (Instr.pioIsrR p) s = runBus (pioReadIsr p) s :=
  match p with | 0 => rfl | 1 => rfl | 2 => rfl

theorem exec_pioMderW (p : Fin 3) (v : Word) (s : State) :
    exec (Instr.pioMderW p v) s = runBus (pioWriteMder p v) s :=
  match p with | 0 => rfl | 1 => rfl | 2 => rfl

theorem exec_pioMddrW (p : Fin 3) (v : Word) (s : State) :
    exec (Instr.pioMddrW p v) s = runBus (pioWriteMddr p v) s :=
  match p with | 0 => rfl | 1 => rfl | 2 => rfl

theorem exec_pioMdsrR (p : Fin 3) (s : State) :
    exec (Instr.pioMdsrR p) s = runBus (readPlain (fun s => (s.pio p).mdsr)) s :=
  match p with | 0 => rfl | 1 => rfl | 2 => rfl

theorem exec_pioPudrW (p : Fin 3) (v : Word) (s : State) :
    exec (Instr.pioPudrW p v) s = runBus (pioWritePudr p v) s :=
  match p with | 0 => rfl | 1 => rfl | 2 => rfl

theorem exec_pioPuerW (p : Fin 3) (v : Word) (s : State) :
    exec (Instr.pioPuerW p v) s = runBus (pioWritePuer p v) s :=
  match p with | 0 => rfl | 1 => rfl | 2 => rfl

theorem exec_pioPusrR (p : Fin 3) (s : State) :
    exec (Instr.pioPusrR p) s = runBus (readPlain (fun s => (s.pio p).pusr)) s :=
  match p with | 0 => rfl | 1 => rfl | 2 => rfl

theorem exec_pioAsrW (p : Fin 3) (v : Word) (s : State) :
    exec (Instr.pioAsrW p v) s = runBus (pioWriteAsr p v) s :=
  match p with | 0 => rfl | 1 => rfl | 2 => rfl

theorem exec_pioBsrW (p : Fin 3) (v : Word) (s : State) :
    exec (Instr.pioBsrW p v) s = runBus (pioWriteBsr p v) s :=
  match p with | 0 => rfl | 1 => rfl | 2 => rfl

theorem exec_pioAbsrR (p : Fin 3) (s : State) :
    exec (Instr.pioAbsrR p) s = runBus (readPlain (fun s => (s.pio p).absr)) s :=
  match p with | 0 => rfl | 1 => rfl | 2 => rfl

theorem exec_pioOwerW (p : Fin 3) (v : Word) (s : State) :
    exec (Instr.pioOwerW p v) s = runBus (pioWriteOwer p v) s :=
  match p with | 0 => rfl | 1 => rfl | 2 => rfl

theorem exec_pioOwdrW (p : Fin 3) (v : Word) (s : State) :
    exec (Instr.pioOwdrW p v) s = runBus (pioWriteOwdr p v) s :=
  match p with | 0 => rfl | 1 => rfl | 2 => rfl

theorem exec_pioOwsrR (p : Fin 3) (s : State) :
    exec (Instr.pioOwsrR p) s = runBus (readPlain (fun s => (s.pio p).owsr)) s :=
  match p with | 0 => rfl | 1 => rfl | 2 => rfl

theorem exec_pdcRprR (h : PdcHost) (s : State) :
    exec (Instr.pdcRprR h) s = runBus (readPlain (fun s => (s.pdc h).rpr)) s :=
  match h with
  | .usart u => exec_usartRprR u s
  | .spi u => exec_spiRprR u s
  | .twi => rfl
  | .mci => rfl

theorem exec_pdcRprW (h : PdcHost) (v : Word) (s : State) :
    exec (Instr.pdcRprW h v) s = runBus (pdcWriteRpr h v) s :=
  match h with
  | .usart u => exec_usartRprW u v s
  | .spi u => exec_spiRprW u v s
  | .twi => rfl
  | .mci => rfl

theorem exec_pdcRcrR (h : PdcHost) (s : State) :
    exec (Instr.pdcRcrR h) s = runBus (readPlain (fun s => (s.pdc h).rcr.setWidth 32)) s :=
  match h with
  | .usart u => exec_usartRcrR u s
  | .spi u => exec_spiRcrR u s
  | .twi => rfl
  | .mci => rfl

theorem exec_pdcRcrW (h : PdcHost) (v : Word) (s : State) :
    exec (Instr.pdcRcrW h v) s = runBus (pdcWriteRcr h v) s :=
  match h with
  | .usart u => exec_usartRcrW u v s
  | .spi u => exec_spiRcrW u v s
  | .twi => rfl
  | .mci => rfl

theorem exec_pdcTprR (h : PdcHost) (s : State) :
    exec (Instr.pdcTprR h) s = runBus (readPlain (fun s => (s.pdc h).tpr)) s :=
  match h with
  | .usart u => exec_usartTprR u s
  | .spi u => exec_spiTprR u s
  | .twi => rfl
  | .mci => rfl

theorem exec_pdcTprW (h : PdcHost) (v : Word) (s : State) :
    exec (Instr.pdcTprW h v) s = runBus (pdcWriteTpr h v) s :=
  match h with
  | .usart u => exec_usartTprW u v s
  | .spi u => exec_spiTprW u v s
  | .twi => rfl
  | .mci => rfl

theorem exec_pdcTcrR (h : PdcHost) (s : State) :
    exec (Instr.pdcTcrR h) s = runBus (readPlain (fun s => (s.pdc h).tcr.setWidth 32)) s :=
  match h with
  | .usart u => exec_usartTcrR u s
  | .spi u => exec_spiTcrR u s
  | .twi => rfl
  | .mci => rfl

theorem exec_pdcTcrW (h : PdcHost) (v : Word) (s : State) :
    exec (Instr.pdcTcrW h v) s = runBus (pdcWriteTcr h v) s :=
  match h with
  | .usart u => exec_usartTcrW u v s
  | .spi u => exec_spiTcrW u v s
  | .twi => rfl
  | .mci => rfl

theorem exec_pdcRnprR (h : PdcHost) (s : State) :
    exec (Instr.pdcRnprR h) s = runBus (readPlain (fun s => (s.pdc h).rnpr)) s :=
  match h with
  | .usart u => exec_usartRnprR u s
  | .spi u => exec_spiRnprR u s
  | .twi => rfl
  | .mci => rfl

theorem exec_pdcRnprW (h : PdcHost) (v : Word) (s : State) :
    exec (Instr.pdcRnprW h v) s = runBus (pdcWriteRnpr h v) s :=
  match h with
  | .usart u => exec_usartRnprW u v s
  | .spi u => exec_spiRnprW u v s
  | .twi => rfl
  | .mci => rfl

theorem exec_pdcRncrR (h : PdcHost) (s : State) :
    exec (Instr.pdcRncrR h) s = runBus (readPlain (fun s => (s.pdc h).rncr.setWidth 32)) s :=
  match h with
  | .usart u => exec_usartRncrR u s
  | .spi u => exec_spiRncrR u s
  | .twi => rfl
  | .mci => rfl

theorem exec_pdcRncrW (h : PdcHost) (v : Word) (s : State) :
    exec (Instr.pdcRncrW h v) s = runBus (pdcWriteRncr h v) s :=
  match h with
  | .usart u => exec_usartRncrW u v s
  | .spi u => exec_spiRncrW u v s
  | .twi => rfl
  | .mci => rfl

theorem exec_pdcTnprR (h : PdcHost) (s : State) :
    exec (Instr.pdcTnprR h) s = runBus (readPlain (fun s => (s.pdc h).tnpr)) s :=
  match h with
  | .usart u => exec_usartTnprR u s
  | .spi u => exec_spiTnprR u s
  | .twi => rfl
  | .mci => rfl

theorem exec_pdcTnprW (h : PdcHost) (v : Word) (s : State) :
    exec (Instr.pdcTnprW h v) s = runBus (pdcWriteTnpr h v) s :=
  match h with
  | .usart u => exec_usartTnprW u v s
  | .spi u => exec_spiTnprW u v s
  | .twi => rfl
  | .mci => rfl

theorem exec_pdcTncrR (h : PdcHost) (s : State) :
    exec (Instr.pdcTncrR h) s = runBus (readPlain (fun s => (s.pdc h).tncr.setWidth 32)) s :=
  match h with
  | .usart u => exec_usartTncrR u s
  | .spi u => exec_spiTncrR u s
  | .twi => rfl
  | .mci => rfl

theorem exec_pdcTncrW (h : PdcHost) (v : Word) (s : State) :
    exec (Instr.pdcTncrW h v) s = runBus (pdcWriteTncr h v) s :=
  match h with
  | .usart u => exec_usartTncrW u v s
  | .spi u => exec_spiTncrW u v s
  | .twi => rfl
  | .mci => rfl

theorem exec_pdcPtcrW (h : PdcHost) (v : Word) (s : State) :
    exec (Instr.pdcPtcrW h v) s = runBus (pdcWritePtcr h v) s :=
  match h with
  | .usart u => exec_usartPtcrW u v s
  | .spi u => exec_spiPtcrW u v s
  | .twi => rfl
  | .mci => rfl

theorem exec_pdcPtsrR (h : PdcHost) (s : State) :
    exec (Instr.pdcPtsrR h) s = runBus (readPlain (fun s => (s.pdc h).ptsr)) s :=
  match h with
  | .usart u => exec_usartPtsrR u s
  | .spi u => exec_spiPtsrR u s
  | .twi => rfl
  | .mci => rfl

theorem exec_bootmemR (addr : Word) (size : AccessSize) (s : State) :
    exec (.bootmemR addr size) s = runBus (bootRead addr size) s := rfl

theorem exec_bootmemW (addr : Word) (size : AccessSize) (v : Word) (s : State) :
    exec (.bootmemW addr size v) s = runBus (bootWrite addr size v) s := rfl

theorem exec_romR (addr : Word) (size : AccessSize) (s : State) :
    exec (.romR addr size) s = runBus (memRead addr size) s := rfl

theorem exec_romW (addr : Word) (size : AccessSize) (v : Word) (s : State) :
    exec (.romW addr size v) s = runBus (romWrite addr v) s := rfl

theorem exec_sram0R (addr : Word) (size : AccessSize) (s : State) :
    exec (.sram0R addr size) s = runBus (memRead addr size) s := rfl

theorem exec_sram0W (addr : Word) (size : AccessSize) (v : Word) (s : State) :
    exec (.sram0W addr size v) s = runBus (memWrite addr size v) s := rfl

theorem exec_sram1R (addr : Word) (size : AccessSize) (s : State) :
    exec (.sram1R addr size) s = runBus (memRead addr size) s := rfl

theorem exec_sram1W (addr : Word) (size : AccessSize) (v : Word) (s : State) :
    exec (.sram1W addr size v) s = runBus (memWrite addr size v) s := rfl

theorem exec_norR (addr : Word) (size : AccessSize) (s : State) :
    exec (.norR addr size) s = runBus (memRead addr size) s := rfl

theorem exec_norW (addr : Word) (size : AccessSize) (v : Word) (s : State) :
    exec (.norW addr size v) s = runBus (romWrite addr v) s := rfl

theorem exec_sdramR (addr : Word) (size : AccessSize) (s : State) :
    exec (.sdramR addr size) s = runBus (memRead addr size) s := rfl

theorem exec_sdramW (addr : Word) (size : AccessSize) (v : Word) (s : State) :
    exec (.sdramW addr size v) s = runBus (memWrite addr size v) s := rfl

theorem exec_unimplUhpR (addr : Word) (s : State) :
    exec (.unimplUhpR addr) s = runBus (unimplRead .uhp addr) s := rfl

theorem exec_unimplUhpW (addr v : Word) (s : State) :
    exec (.unimplUhpW addr v) s = runBus (unimplWrite .uhp addr v) s := rfl

theorem exec_unimplUdpR (addr : Word) (s : State) :
    exec (.unimplUdpR addr) s = runBus (unimplRead .udp addr) s := rfl

theorem exec_unimplUdpW (addr v : Word) (s : State) :
    exec (.unimplUdpW addr v) s = runBus (unimplWrite .udp addr v) s := rfl

theorem exec_unimplSscR (addr : Word) (s : State) :
    exec (.unimplSscR addr) s = runBus (unimplRead .ssc addr) s := rfl

theorem exec_unimplSscW (addr v : Word) (s : State) :
    exec (.unimplSscW addr v) s = runBus (unimplWrite .ssc addr v) s := rfl

theorem exec_unimplIsiR (addr : Word) (s : State) :
    exec (.unimplIsiR addr) s = runBus (unimplRead .isi addr) s := rfl

theorem exec_unimplIsiW (addr v : Word) (s : State) :
    exec (.unimplIsiW addr v) s = runBus (unimplWrite .isi addr v) s := rfl

theorem exec_unimplEmacR (addr : Word) (s : State) :
    exec (.unimplEmacR addr) s = runBus (unimplRead .emac addr) s := rfl

theorem exec_unimplEmacW (addr v : Word) (s : State) :
    exec (.unimplEmacW addr v) s = runBus (unimplWrite .emac addr v) s := rfl

theorem exec_unimplAdcR (addr : Word) (s : State) :
    exec (.unimplAdcR addr) s = runBus (unimplRead .adc addr) s := rfl

theorem exec_unimplAdcW (addr v : Word) (s : State) :
    exec (.unimplAdcW addr v) s = runBus (unimplWrite .adc addr v) s := rfl

theorem exec_unimplEccR (addr : Word) (s : State) :
    exec (.unimplEccR addr) s = runBus (unimplRead .ecc addr) s := rfl

theorem exec_unimplEccW (addr v : Word) (s : State) :
    exec (.unimplEccW addr v) s = runBus (unimplWrite .ecc addr v) s := rfl

theorem exec_unimplSmcR (addr : Word) (s : State) :
    exec (.unimplSmcR addr) s = runBus (unimplRead .smc addr) s := rfl

theorem exec_unimplSmcW (addr v : Word) (s : State) :
    exec (.unimplSmcW addr v) s = runBus (unimplWrite .smc addr v) s := rfl

theorem exec_unimplShdwcR (addr : Word) (s : State) :
    exec (.unimplShdwcR addr) s = runBus (unimplRead .shdwc addr) s := rfl

theorem exec_unimplShdwcW (addr v : Word) (s : State) :
    exec (.unimplShdwcW addr v) s = runBus (unimplWrite .shdwc addr v) s := rfl

theorem exec_unimplWdtR (addr : Word) (s : State) :
    exec (.unimplWdtR addr) s = runBus (unimplRead .wdt addr) s := rfl

theorem exec_unimplWdtW (addr v : Word) (s : State) :
    exec (.unimplWdtW addr v) s = runBus (unimplWrite .wdt addr v) s := rfl

theorem exec_unimplGpbrR (addr : Word) (s : State) :
    exec (.unimplGpbrR addr) s = runBus (unimplRead .gpbr addr) s := rfl

theorem exec_unimplGpbrW (addr v : Word) (s : State) :
    exec (.unimplGpbrW addr v) s = runBus (unimplWrite .gpbr addr v) s := rfl

theorem exec_aicSmrR (n : Fin 32) (s : State) :
    exec (.aicSmrR n) s = runBus (readPlain (fun s => s.aic.smr[n.val])) s := rfl

theorem exec_aicSmrW (n : Fin 32) (v : Word) (s : State) :
    exec (.aicSmrW n v) s = runBus (aicWriteSmr n v) s := rfl

theorem exec_aicSvrR (n : Fin 32) (s : State) :
    exec (.aicSvrR n) s = runBus (readPlain (fun s => s.aic.svr[n.val])) s := rfl

theorem exec_aicSvrW (n : Fin 32) (v : Word) (s : State) :
    exec (.aicSvrW n v) s = runBus (aicWriteSvr n v) s := rfl

theorem exec_aicIvrR (s : State) :
    exec (.aicIvrR) s = runBus aicReadIvr s := rfl

theorem exec_aicIvrW (v : Word) (s : State) :
    exec (.aicIvrW v) s = runBus aicWriteIvr s := rfl

theorem exec_aicFvrR (s : State) :
    exec (.aicFvrR) s = runBus aicReadFvr s := rfl

theorem exec_aicIsrR (s : State) :
    exec (.aicIsrR) s = runBus (readPlain (fun s => s.aic.isr)) s := rfl

theorem exec_aicIprR (s : State) :
    exec (.aicIprR) s = runBus (readPlain (fun s => s.aic.ipr)) s := rfl

theorem exec_aicImrR (s : State) :
    exec (.aicImrR) s = runBus (readPlain (fun s => s.aic.imr)) s := rfl

theorem exec_aicCisrR (s : State) :
    exec (.aicCisrR) s = runBus (readPlain (fun s => s.aic.cisr)) s := rfl

theorem exec_aicIecrW (v : Word) (s : State) :
    exec (.aicIecrW v) s = runBus (aicWriteIecr v) s := rfl

theorem exec_aicIdcrW (v : Word) (s : State) :
    exec (.aicIdcrW v) s = runBus (aicWriteIdcr v) s := rfl

theorem exec_aicIccrW (v : Word) (s : State) :
    exec (.aicIccrW v) s = runBus (aicWriteIccr v) s := rfl

theorem exec_aicIscrW (v : Word) (s : State) :
    exec (.aicIscrW v) s = runBus (aicWriteIscr v) s := rfl

theorem exec_aicEoicrW (v : Word) (s : State) :
    exec (.aicEoicrW v) s = runBus aicEndOfInterrupt s := rfl

theorem exec_aicSpuR (s : State) :
    exec (.aicSpuR) s = runBus (readPlain (fun s => s.aic.spu)) s := rfl

theorem exec_aicSpuW (v : Word) (s : State) :
    exec (.aicSpuW v) s = runBus (aicWriteSpu v) s := rfl

theorem exec_aicDcrR (s : State) :
    exec (.aicDcrR) s = runBus (readPlain (fun s => s.aic.dcr)) s := rfl

theorem exec_aicDcrW (v : Word) (s : State) :
    exec (.aicDcrW v) s = runBus (aicWriteDcr v) s := rfl

theorem exec_aicFferW (v : Word) (s : State) :
    exec (.aicFferW v) s = runBus (aicWriteFfer v) s := rfl

theorem exec_aicFfdrW (v : Word) (s : State) :
    exec (.aicFfdrW v) s = runBus (aicWriteFfdr v) s := rfl

theorem exec_aicFfsrR (s : State) :
    exec (.aicFfsrR) s = runBus (readPlain (fun s => s.aic.ffsr)) s := rfl

theorem exec_twiCrW (v : Word) (s : State) :
    exec (.twiCrW v) s = runBus (twiWriteCr v) s := rfl

theorem exec_twiMmrR (s : State) :
    exec (.twiMmrR) s = runBus (readPlain (fun s => s.twi.mmr)) s := rfl

theorem exec_twiMmrW (v : Word) (s : State) :
    exec (.twiMmrW v) s = runBus (twiWriteMmr v) s := rfl

theorem exec_twiSmrR (s : State) :
    exec (.twiSmrR) s = runBus (readPlain (fun s => s.twi.smr)) s := rfl

theorem exec_twiSmrW (v : Word) (s : State) :
    exec (.twiSmrW v) s = runBus (twiWriteSmr v) s := rfl

theorem exec_twiIadrR (s : State) :
    exec (.twiIadrR) s = runBus (readPlain (fun s => s.twi.iadr)) s := rfl

theorem exec_twiIadrW (v : Word) (s : State) :
    exec (.twiIadrW v) s = runBus (twiWriteIadr v) s := rfl

theorem exec_twiCwgrR (s : State) :
    exec (.twiCwgrR) s = runBus (readPlain (fun s => s.twi.cwgr)) s := rfl

theorem exec_twiCwgrW (v : Word) (s : State) :
    exec (.twiCwgrW v) s = runBus (twiWriteCwgr v) s := rfl

theorem exec_twiSrR (s : State) :
    exec (.twiSrR) s = runBus twiReadSr s := rfl

theorem exec_twiIerW (v : Word) (s : State) :
    exec (.twiIerW v) s = runBus (twiWriteIer v) s := rfl

theorem exec_twiIdrW (v : Word) (s : State) :
    exec (.twiIdrW v) s = runBus (twiWriteIdr v) s := rfl

theorem exec_twiImrR (s : State) :
    exec (.twiImrR) s = runBus (readPlain (fun s => s.twi.imr)) s := rfl

theorem exec_twiRhrR (s : State) :
    exec (.twiRhrR) s = runBus twiReadRhr s := rfl

theorem exec_twiThrW (v : Word) (s : State) :
    exec (.twiThrW v) s = runBus (twiWriteThr v) s := rfl

theorem exec_mciCrW (v : Word) (s : State) :
    exec (.mciCrW v) s = runBus (mciWriteCr v) s := rfl

theorem exec_mciMrR (s : State) :
    exec (.mciMrR) s = runBus (readPlain (fun s => s.mci.mr)) s := rfl

theorem exec_mciMrW (v : Word) (s : State) :
    exec (.mciMrW v) s = runBus (mciWriteMr v) s := rfl

theorem exec_mciDtorR (s : State) :
    exec (.mciDtorR) s = runBus (readPlain (fun s => s.mci.dtor)) s := rfl

theorem exec_mciDtorW (v : Word) (s : State) :
    exec (.mciDtorW v) s = runBus (mciWriteDtor v) s := rfl

theorem exec_mciSdcrR (s : State) :
    exec (.mciSdcrR) s = runBus (readPlain (fun s => s.mci.sdcr)) s := rfl

theorem exec_mciSdcrW (v : Word) (s : State) :
    exec (.mciSdcrW v) s = runBus (mciWriteSdcr v) s := rfl

theorem exec_mciArgrR (s : State) :
    exec (.mciArgrR) s = runBus (readPlain (fun s => s.mci.argr)) s := rfl

theorem exec_mciArgrW (v : Word) (s : State) :
    exec (.mciArgrW v) s = runBus (mciWriteArgr v) s := rfl

theorem exec_mciCmdrW (v : Word) (s : State) :
    exec (.mciCmdrW v) s = runBus (mciWriteCmdr v) s := rfl

theorem exec_mciBlkrR (s : State) :
    exec (.mciBlkrR) s = runBus (readPlain (fun s => s.mci.blkr)) s := rfl

theorem exec_mciBlkrW (v : Word) (s : State) :
    exec (.mciBlkrW v) s = runBus (mciWriteBlkr v) s := rfl

theorem exec_mciRsprR (k : Fin 4) (s : State) :
    exec (.mciRsprR k) s = runBus (mciReadRspr k) s := rfl

theorem exec_mciRdrR (s : State) :
    exec (.mciRdrR) s = runBus mciReadRdr s := rfl

theorem exec_mciTdrW (v : Word) (s : State) :
    exec (.mciTdrW v) s = runBus (mciWriteTdr v) s := rfl

theorem exec_mciSrR (s : State) :
    exec (.mciSrR) s = runBus mciReadSr s := rfl

theorem exec_mciIerW (v : Word) (s : State) :
    exec (.mciIerW v) s = runBus (mciWriteIer v) s := rfl

theorem exec_mciIdrW (v : Word) (s : State) :
    exec (.mciIdrW v) s = runBus (mciWriteIdr v) s := rfl

theorem exec_mciImrR (s : State) :
    exec (.mciImrR) s = runBus (readPlain (fun s => s.mci.imr)) s := rfl

theorem exec_pitMrR (s : State) :
    exec (.pitMrR) s = runBus (readPlain (fun s => s.pit.mr)) s := rfl

theorem exec_pitMrW (v : Word) (s : State) :
    exec (.pitMrW v) s = runBus (pitWriteMr v) s := rfl

theorem exec_pitSrR (s : State) :
    exec (.pitSrR) s = runBus (readPlain (fun s => s.pit.sr)) s := rfl

theorem exec_pitPivrR (s : State) :
    exec (.pitPivrR) s = runBus pitReadPivr s := rfl

theorem exec_pitPiirR (s : State) :
    exec (.pitPiirR) s = runBus (readPlain (fun s => s.pit.value)) s := rfl

theorem exec_rttMrR (s : State) :
    exec (.rttMrR) s = runBus (readPlain (fun s => s.rtt.mr)) s := rfl

theorem exec_rttMrW (v : Word) (s : State) :
    exec (.rttMrW v) s = runBus (rttWriteMr v) s := rfl

theorem exec_rttArR (s : State) :
    exec (.rttArR) s = runBus (readPlain (fun s => s.rtt.ar)) s := rfl

theorem exec_rttArW (v : Word) (s : State) :
    exec (.rttArW v) s = runBus (rttWriteAr v) s := rfl

theorem exec_rttVrR (s : State) :
    exec (.rttVrR) s = runBus (readPlain (fun s => s.rtt.crtv)) s := rfl

theorem exec_rttSrR (s : State) :
    exec (.rttSrR) s = runBus rttReadSr s := rfl

theorem exec_dbguCrW (v : Word) (s : State) :
    exec (.dbguCrW v) s = runBus (dbguWriteCr v) s := rfl

theorem exec_dbguMrR (s : State) :
    exec (.dbguMrR) s = runBus (readPlain (fun s => s.dbgu.mr)) s := rfl

theorem exec_dbguMrW (v : Word) (s : State) :
    exec (.dbguMrW v) s = runBus (dbguWriteMr v) s := rfl

theorem exec_dbguIerW (v : Word) (s : State) :
    exec (.dbguIerW v) s = runBus (dbguWriteIer v) s := rfl

theorem exec_dbguIdrW (v : Word) (s : State) :
    exec (.dbguIdrW v) s = runBus (dbguWriteIdr v) s := rfl

theorem exec_dbguImrR (s : State) :
    exec (.dbguImrR) s = runBus (readPlain (fun s => s.dbgu.imr)) s := rfl

theorem exec_dbguSrR (s : State) :
    exec (.dbguSrR) s = runBus (readPlain (fun s => s.dbgu.sr)) s := rfl

theorem exec_dbguRhrR (s : State) :
    exec (.dbguRhrR) s = runBus dbguReadRhr s := rfl

theorem exec_dbguThrW (v : Word) (s : State) :
    exec (.dbguThrW v) s = runBus (dbguWriteThr v) s := rfl

theorem exec_dbguBrgrR (s : State) :
    exec (.dbguBrgrR) s = runBus (readPlain (fun s => s.dbgu.brgr)) s := rfl

theorem exec_dbguBrgrW (v : Word) (s : State) :
    exec (.dbguBrgrW v) s = runBus (dbguWriteBrgr v) s := rfl

theorem exec_dbguCidrR (s : State) :
    exec (.dbguCidrR) s = runBus (readPlain (fun _ => Config.dbguCidr)) s := rfl

theorem exec_dbguExidR (s : State) :
    exec (.dbguExidR) s = runBus (readPlain (fun _ => Config.dbguExid)) s := rfl

theorem exec_pmcScerW (v : Word) (s : State) :
    exec (.pmcScerW v) s = runBus (pmcWriteScer v) s := rfl

theorem exec_pmcScdrW (v : Word) (s : State) :
    exec (.pmcScdrW v) s = runBus (pmcWriteScdr v) s := rfl

theorem exec_pmcScsrR (s : State) :
    exec (.pmcScsrR) s = runBus (readPlain (fun s => s.pmc.scsr)) s := rfl

theorem exec_pmcPcerW (v : Word) (s : State) :
    exec (.pmcPcerW v) s = runBus (pmcWritePcer v) s := rfl

theorem exec_pmcPcdrW (v : Word) (s : State) :
    exec (.pmcPcdrW v) s = runBus (pmcWritePcdr v) s := rfl

theorem exec_pmcPcsrR (s : State) :
    exec (.pmcPcsrR) s = runBus (readPlain (fun s => s.pmc.pcsr)) s := rfl

theorem exec_pmcCkgrMorR (s : State) :
    exec (.pmcCkgrMorR) s = runBus (readPlain (fun s => s.pmc.mor)) s := rfl

theorem exec_pmcCkgrMorW (v : Word) (s : State) :
    exec (.pmcCkgrMorW v) s = runBus (pmcWriteMor v) s := rfl

theorem exec_pmcCkgrMcfrR (s : State) :
    exec (.pmcCkgrMcfrR) s = runBus (readPlain (fun s => s.pmc.mcfr)) s := rfl

theorem exec_pmcCkgrPllarR (s : State) :
    exec (.pmcCkgrPllarR) s = runBus (readPlain (fun s => s.pmc.pllar)) s := rfl

theorem exec_pmcCkgrPllarW (v : Word) (s : State) :
    exec (.pmcCkgrPllarW v) s = runBus (pmcWritePllar v) s := rfl

theorem exec_pmcCkgrPllbrR (s : State) :
    exec (.pmcCkgrPllbrR) s = runBus (readPlain (fun s => s.pmc.pllbr)) s := rfl

theorem exec_pmcCkgrPllbrW (v : Word) (s : State) :
    exec (.pmcCkgrPllbrW v) s = runBus (pmcWritePllbr v) s := rfl

theorem exec_pmcMckrR (s : State) :
    exec (.pmcMckrR) s = runBus (readPlain (fun s => s.pmc.mckr)) s := rfl

theorem exec_pmcMckrW (v : Word) (s : State) :
    exec (.pmcMckrW v) s = runBus (pmcWriteMckr v) s := rfl

theorem exec_pmcPck0R (s : State) :
    exec (.pmcPck0R) s = runBus (readPlain (fun s => s.pmc.pck0)) s := rfl

theorem exec_pmcPck0W (v : Word) (s : State) :
    exec (.pmcPck0W v) s = runBus (pmcWritePck0 v) s := rfl

theorem exec_pmcPck1R (s : State) :
    exec (.pmcPck1R) s = runBus (readPlain (fun s => s.pmc.pck1)) s := rfl

theorem exec_pmcPck1W (v : Word) (s : State) :
    exec (.pmcPck1W v) s = runBus (pmcWritePck1 v) s := rfl

theorem exec_pmcIerW (v : Word) (s : State) :
    exec (.pmcIerW v) s = runBus (pmcWriteIer v) s := rfl

theorem exec_pmcIdrW (v : Word) (s : State) :
    exec (.pmcIdrW v) s = runBus (pmcWriteIdr v) s := rfl

theorem exec_pmcSrR (s : State) :
    exec (.pmcSrR) s = runBus (readPlain (fun s => s.pmc.sr)) s := rfl

theorem exec_pmcImrR (s : State) :
    exec (.pmcImrR) s = runBus (readPlain (fun s => s.pmc.imr)) s := rfl

theorem exec_pmcPllicprR (s : State) :
    exec (.pmcPllicprR) s = runBus (readPlain (fun s => s.pmc.pllicpr)) s := rfl

theorem exec_pmcPllicprW (v : Word) (s : State) :
    exec (.pmcPllicprW v) s = runBus (pmcWritePllicpr v) s := rfl

theorem exec_matrixMcfg0R (s : State) :
    exec (.matrixMcfg0R) s = runBus (readPlain (fun s => s.matrix.mcfg[0])) s := rfl

theorem exec_matrixMcfg0W (v : Word) (s : State) :
    exec (.matrixMcfg0W v) s = runBus (matrixWriteMcfg 0 v) s := rfl

theorem exec_matrixMcfg1R (s : State) :
    exec (.matrixMcfg1R) s = runBus (readPlain (fun s => s.matrix.mcfg[1])) s := rfl

theorem exec_matrixMcfg1W (v : Word) (s : State) :
    exec (.matrixMcfg1W v) s = runBus (matrixWriteMcfg 1 v) s := rfl

theorem exec_matrixMcfg2R (s : State) :
    exec (.matrixMcfg2R) s = runBus (readPlain (fun s => s.matrix.mcfg[2])) s := rfl

theorem exec_matrixMcfg2W (v : Word) (s : State) :
    exec (.matrixMcfg2W v) s = runBus (matrixWriteMcfg 2 v) s := rfl

theorem exec_matrixMcfg3R (s : State) :
    exec (.matrixMcfg3R) s = runBus (readPlain (fun s => s.matrix.mcfg[3])) s := rfl

theorem exec_matrixMcfg3W (v : Word) (s : State) :
    exec (.matrixMcfg3W v) s = runBus (matrixWriteMcfg 3 v) s := rfl

theorem exec_matrixMcfg4R (s : State) :
    exec (.matrixMcfg4R) s = runBus (readPlain (fun s => s.matrix.mcfg[4])) s := rfl

theorem exec_matrixMcfg4W (v : Word) (s : State) :
    exec (.matrixMcfg4W v) s = runBus (matrixWriteMcfg 4 v) s := rfl

theorem exec_matrixMcfg5R (s : State) :
    exec (.matrixMcfg5R) s = runBus (readPlain (fun s => s.matrix.mcfg[5])) s := rfl

theorem exec_matrixMcfg5W (v : Word) (s : State) :
    exec (.matrixMcfg5W v) s = runBus (matrixWriteMcfg 5 v) s := rfl

theorem exec_matrixScfg0R (s : State) :
    exec (.matrixScfg0R) s = runBus (readPlain (fun s => s.matrix.scfg[0])) s := rfl

theorem exec_matrixScfg0W (v : Word) (s : State) :
    exec (.matrixScfg0W v) s = runBus (matrixWriteScfg 0 v) s := rfl

theorem exec_matrixScfg1R (s : State) :
    exec (.matrixScfg1R) s = runBus (readPlain (fun s => s.matrix.scfg[1])) s := rfl

theorem exec_matrixScfg1W (v : Word) (s : State) :
    exec (.matrixScfg1W v) s = runBus (matrixWriteScfg 1 v) s := rfl

theorem exec_matrixScfg2R (s : State) :
    exec (.matrixScfg2R) s = runBus (readPlain (fun s => s.matrix.scfg[2])) s := rfl

theorem exec_matrixScfg2W (v : Word) (s : State) :
    exec (.matrixScfg2W v) s = runBus (matrixWriteScfg 2 v) s := rfl

theorem exec_matrixScfg3R (s : State) :
    exec (.matrixScfg3R) s = runBus (readPlain (fun s => s.matrix.scfg[3])) s := rfl

theorem exec_matrixScfg3W (v : Word) (s : State) :
    exec (.matrixScfg3W v) s = runBus (matrixWriteScfg 3 v) s := rfl

theorem exec_matrixScfg4R (s : State) :
    exec (.matrixScfg4R) s = runBus (readPlain (fun s => s.matrix.scfg[4])) s := rfl

theorem exec_matrixScfg4W (v : Word) (s : State) :
    exec (.matrixScfg4W v) s = runBus (matrixWriteScfg 4 v) s := rfl

theorem exec_matrixPras0R (s : State) :
    exec (.matrixPras0R) s = runBus (readPlain (fun s => s.matrix.pras[0])) s := rfl

theorem exec_matrixPras0W (v : Word) (s : State) :
    exec (.matrixPras0W v) s = runBus (matrixWritePras 0 v) s := rfl

theorem exec_matrixPras1R (s : State) :
    exec (.matrixPras1R) s = runBus (readPlain (fun s => s.matrix.pras[1])) s := rfl

theorem exec_matrixPras1W (v : Word) (s : State) :
    exec (.matrixPras1W v) s = runBus (matrixWritePras 1 v) s := rfl

theorem exec_matrixPras2R (s : State) :
    exec (.matrixPras2R) s = runBus (readPlain (fun s => s.matrix.pras[2])) s := rfl

theorem exec_matrixPras2W (v : Word) (s : State) :
    exec (.matrixPras2W v) s = runBus (matrixWritePras 2 v) s := rfl

theorem exec_matrixPras3R (s : State) :
    exec (.matrixPras3R) s = runBus (readPlain (fun s => s.matrix.pras[3])) s := rfl

theorem exec_matrixPras3W (v : Word) (s : State) :
    exec (.matrixPras3W v) s = runBus (matrixWritePras 3 v) s := rfl

theorem exec_matrixPras4R (s : State) :
    exec (.matrixPras4R) s = runBus (readPlain (fun s => s.matrix.pras[4])) s := rfl

theorem exec_matrixPras4W (v : Word) (s : State) :
    exec (.matrixPras4W v) s = runBus (matrixWritePras 4 v) s := rfl

theorem exec_matrixMrcrR (s : State) :
    exec (.matrixMrcrR) s = runBus (readPlain (fun s => s.matrix.mrcr)) s := rfl

theorem exec_matrixMrcrW (v : Word) (s : State) :
    exec (.matrixMrcrW v) s = runBus (matrixWriteMrcr v) s := rfl

theorem exec_matrixEbiCsaR (s : State) :
    exec (.matrixEbiCsaR) s = runBus (readPlain (fun s => s.matrix.ebiCsa)) s := rfl

theorem exec_matrixEbiCsaW (v : Word) (s : State) :
    exec (.matrixEbiCsaW v) s = runBus (matrixWriteEbiCsa v) s := rfl

theorem exec_rstcCrW (v : Word) (s : State) :
    exec (.rstcCrW v) s = runBus (rstcWriteCr v) s := rfl

theorem exec_rstcSrR (s : State) :
    exec (.rstcSrR) s = runBus (readPlain (fun s => s.rstc.sr)) s := rfl

theorem exec_rstcMrR (s : State) :
    exec (.rstcMrR) s = runBus (readPlain (fun s => s.rstc.mr)) s := rfl

theorem exec_rstcMrW (v : Word) (s : State) :
    exec (.rstcMrW v) s = runBus (rstcWriteMr v) s := rfl

theorem exec_sdramcMrR (s : State) :
    exec (.sdramcMrR) s = runBus (readPlain (fun s => s.sdramc.mr)) s := rfl

theorem exec_sdramcMrW (v : Word) (s : State) :
    exec (.sdramcMrW v) s = runBus (sdramcWriteMr v) s := rfl

theorem exec_sdramcTrR (s : State) :
    exec (.sdramcTrR) s = runBus (readPlain (fun s => s.sdramc.tr)) s := rfl

theorem exec_sdramcTrW (v : Word) (s : State) :
    exec (.sdramcTrW v) s = runBus (sdramcWriteTr v) s := rfl

theorem exec_sdramcCrR (s : State) :
    exec (.sdramcCrR) s = runBus (readPlain (fun s => s.sdramc.cr)) s := rfl

theorem exec_sdramcCrW (v : Word) (s : State) :
    exec (.sdramcCrW v) s = runBus (sdramcWriteCr v) s := rfl

theorem exec_sdramcLprR (s : State) :
    exec (.sdramcLprR) s = runBus (readPlain (fun s => s.sdramc.lpr)) s := rfl

theorem exec_sdramcLprW (v : Word) (s : State) :
    exec (.sdramcLprW v) s = runBus (sdramcWriteLpr v) s := rfl

theorem exec_sdramcIerW (v : Word) (s : State) :
    exec (.sdramcIerW v) s = runBus (sdramcWriteIer v) s := rfl

theorem exec_sdramcIdrW (v : Word) (s : State) :
    exec (.sdramcIdrW v) s = runBus (sdramcWriteIdr v) s := rfl

theorem exec_sdramcImrR (s : State) :
    exec (.sdramcImrR) s = runBus (readPlain (fun s => bitAt s.sdramc.imr 0)) s := rfl

theorem exec_sdramcIsrR (s : State) :
    exec (.sdramcIsrR) s = runBus sdramcReadIsr s := rfl

theorem exec_sdramcMdrR (s : State) :
    exec (.sdramcMdrR) s = runBus (readPlain (fun s => s.sdramc.mdr)) s := rfl

theorem exec_sdramcMdrW (v : Word) (s : State) :
    exec (.sdramcMdrW v) s = runBus (sdramcWriteMdr v) s := rfl

theorem exec_usartDataIn (u : Fin 6) (seq : Byte) (payload : List Byte) (s : State) :
    exec (.usartDataIn u seq payload) s = runAgent (usartDataInFrame u seq payload) s := rfl

theorem exec_usartDataOut (u : Fin 6) (payload : List Byte) (s : State) :
    exec (.usartDataOut u payload) s = runAgent (emitData (.usart u) payload) s := rfl

theorem exec_usartFaultOvre (u : Fin 6) (seq : Byte) (payload : List Byte) (s : State) :
    exec (.usartFaultOvre u seq payload) s = runAgent (usartFaultOvreFrame u) s := rfl

theorem exec_usartFaultFrame (u : Fin 6) (seq : Byte) (payload : List Byte) (s : State) :
    exec (.usartFaultFrame u seq payload) s = runAgent (usartFaultFrameFrame u) s := rfl

theorem exec_usartFaultPare (u : Fin 6) (seq : Byte) (payload : List Byte) (s : State) :
    exec (.usartFaultPare u seq payload) s = runAgent (usartFaultPareFrame u) s := rfl

theorem exec_usartFaultTimeout (u : Fin 6) (seq : Byte) (payload : List Byte) (s : State) :
    exec (.usartFaultTimeout u seq payload) s = runAgent (usartFaultTimeoutFrame u) s := rfl

theorem exec_spiDataIn (u : Fin 2) (seq : Byte) (payload : List Byte) (s : State) :
    exec (.spiDataIn u seq payload) s = runAgent (spiDataInFrame u seq payload) s := rfl

theorem exec_spiDataOut (u : Fin 2) (payload : List Byte) (s : State) :
    exec (.spiDataOut u payload) s = runAgent (spiDataOutFrame u payload) s := rfl

theorem exec_spiFaultModf (u : Fin 2) (seq : Byte) (payload : List Byte) (s : State) :
    exec (.spiFaultModf u seq payload) s = runAgent (spiFaultModfFrame u) s := rfl

theorem exec_spiFaultOvres (u : Fin 2) (seq : Byte) (payload : List Byte) (s : State) :
    exec (.spiFaultOvres u seq payload) s = runAgent (spiFaultOvresFrame u) s := rfl

theorem exec_twiDataIn (seq : Byte) (payload : List Byte) (s : State) :
    exec (.twiDataIn seq payload) s = runAgent (twiDataInFrame seq payload) s := rfl

theorem exec_twiDataOut (payload : List Byte) (s : State) :
    exec (.twiDataOut payload) s = runAgent (emitData .twi payload) s := rfl

theorem exec_twiCtrlStart (s : State) :
    exec (.twiCtrlStart) s = runAgent twiEmitStart s := rfl

theorem exec_twiCtrlStop (s : State) :
    exec (.twiCtrlStop) s = runAgent twiEmitStop s := rfl

theorem exec_twiFaultOvre (seq : Byte) (payload : List Byte) (s : State) :
    exec (.twiFaultOvre seq payload) s = runAgent twiFaultOvreFrame s := rfl

theorem exec_twiFaultNack (seq : Byte) (payload : List Byte) (s : State) :
    exec (.twiFaultNack seq payload) s = runAgent twiFaultNackFrame s := rfl

theorem exec_twiFaultArblst (seq : Byte) (payload : List Byte) (s : State) :
    exec (.twiFaultArblst seq payload) s = runAgent twiFaultArblstFrame s := rfl

theorem exec_pioPinstateEnable (p : Fin 3) (seq : Byte) (payload : List Byte) (s : State) :
    exec (.pioPinstateEnable p seq payload) s = runAgent (pioEnableFrame p payload) s := rfl

theorem exec_pioPinstateDisable (p : Fin 3) (seq : Byte) (payload : List Byte) (s : State) :
    exec (.pioPinstateDisable p seq payload) s = runAgent (pioDisableFrame p payload) s := rfl

theorem exec_pioPinstateOut (p : Fin 3) (s : State) :
    exec (.pioPinstateOut p) s = runAgent (pioEmitOut p) s := rfl

theorem exec_pioPinstateGet (p : Fin 3) (seq : Byte) (payload : List Byte) (s : State) :
    exec (.pioPinstateGet p seq payload) s = runAgent (pioGetFrame p seq) s := rfl

theorem exec_sdramcFaultRes (seq : Byte) (payload : List Byte) (s : State) :
    exec (.sdramcFaultRes seq payload) s = runAgent sdramcFaultResFrame s := rfl

end Sys2Proof.Machine
end

