-- ==== Sys2Proof/Laws/State.lean ====
section
/-! SUPPORT. One lemma per field per update of `State` (true by rfl), and read-after-write of the indexed components. -/

namespace Sys2Proof.Machine

@[simp] theorem State.setPdc_params (s : State) (h : PdcHost) (y : Pdc) : (s.setPdc h y).params = s.params := rfl
@[simp] theorem State.setPdc_inputs (s : State) (h : PdcHost) (y : Pdc) : (s.setPdc h y).inputs = s.inputs := rfl
@[simp] theorem State.setPdc_rdata (s : State) (h : PdcHost) (y : Pdc) : (s.setPdc h y).rdata = s.rdata := rfl
@[simp] theorem State.setPdc_fault (s : State) (h : PdcHost) (y : Pdc) : (s.setPdc h y).fault = s.fault := rfl
@[simp] theorem State.setPdc_mem (s : State) (h : PdcHost) (y : Pdc) : (s.setPdc h y).mem = s.mem := rfl
@[simp] theorem State.setPdc_bootTarget (s : State) (h : PdcHost) (y : Pdc) : (s.setPdc h y).bootTarget = s.bootTarget := rfl
@[simp] theorem State.setPdc_aic (s : State) (h : PdcHost) (y : Pdc) : (s.setPdc h y).aic = s.aic := rfl
@[simp] theorem State.setPdc_stubIn (s : State) (h : PdcHost) (y : Pdc) : (s.setPdc h y).stubIn = s.stubIn := rfl
@[simp] theorem State.setPdc_usarts (s : State) (h : PdcHost) (y : Pdc) : (s.setPdc h y).usarts = s.usarts := rfl
@[simp] theorem State.setPdc_spis (s : State) (h : PdcHost) (y : Pdc) : (s.setPdc h y).spis = s.spis := rfl
@[simp] theorem State.setPdc_twi (s : State) (h : PdcHost) (y : Pdc) : (s.setPdc h y).twi = s.twi := rfl
@[simp] theorem State.setPdc_mci (s : State) (h : PdcHost) (y : Pdc) : (s.setPdc h y).mci = s.mci := rfl
@[simp] theorem State.setPdc_tcs (s : State) (h : PdcHost) (y : Pdc) : (s.setPdc h y).tcs = s.tcs := rfl
@[simp] theorem State.setPdc_tcBmr (s : State) (h : PdcHost) (y : Pdc) : (s.setPdc h y).tcBmr = s.tcBmr := rfl
@[simp] theorem State.setPdc_pit (s : State) (h : PdcHost) (y : Pdc) : (s.setPdc h y).pit = s.pit := rfl
@[simp] theorem State.setPdc_rtt (s : State) (h : PdcHost) (y : Pdc) : (s.setPdc h y).rtt = s.rtt := rfl
@[simp] theorem State.setPdc_dbgu (s : State) (h : PdcHost) (y : Pdc) : (s.setPdc h y).dbgu = s.dbgu := rfl
@[simp] theorem State.setPdc_consoleOut (s : State) (h : PdcHost) (y : Pdc) : (s.setPdc h y).consoleOut = s.consoleOut := rfl
@[simp] theorem State.setPdc_pios (s : State) (h : PdcHost) (y : Pdc) : (s.setPdc h y).pios = s.pios := rfl
@[simp] theorem State.setPdc_pmc (s : State) (h : PdcHost) (y : Pdc) : (s.setPdc h y).pmc = s.pmc := rfl
@[simp] theorem State.setPdc_matrix (s : State) (h : PdcHost) (y : Pdc) : (s.setPdc h y).matrix = s.matrix := rfl
@[simp] theorem State.setPdc_rstc (s : State) (h : PdcHost) (y : Pdc) : (s.setPdc h y).rstc = s.rstc := rfl
@[simp] theorem State.setPdc_sdramc (s : State) (h : PdcHost) (y : Pdc) : (s.setPdc h y).sdramc = s.sdramc := rfl
@[simp] theorem State.setPdc_links (s : State) (h : PdcHost) (y : Pdc) : (s.setPdc h y).links = s.links := rfl
@[simp] theorem State.setPdc_sd (s : State) (h : PdcHost) (y : Pdc) : (s.setPdc h y).sd = s.sd := rfl
@[simp] theorem State.setPdc_usart (s : State) (h : PdcHost) (y : Pdc) (j : Fin 6) : (s.setPdc h y).usart j = s.usart j := rfl
@[simp] theorem State.setPdc_spi (s : State) (h : PdcHost) (y : Pdc) (j : Fin 2) : (s.setPdc h y).spi j = s.spi j := rfl
@[simp] theorem State.setPdc_tc (s : State) (h : PdcHost) (y : Pdc) (j : Fin 6) : (s.setPdc h y).tc j = s.tc j := rfl
@[simp] theorem State.setPdc_bmr (s : State) (h : PdcHost) (y : Pdc) (j : Fin 2) : (s.setPdc h y).bmr j = s.bmr j := rfl
@[simp] theorem State.setPdc_pio (s : State) (h : PdcHost) (y : Pdc) (j : Fin 3) : (s.setPdc h y).pio j = s.pio j := rfl
@[simp] theorem State.setPdc_link (s : State) (h : PdcHost) (y : Pdc) (j : LinkId) : (s.setPdc h y).link j = s.link j := rfl

@[simp] theorem State.setUsart_params (s : State) (u : Fin 6) (y : Usart) : (s.setUsart u y).params = s.params := rfl
@[simp] theorem State.setUsart_inputs (s : State) (u : Fin 6) (y : Usart) : (s.setUsart u y).inputs = s.inputs := rfl
@[simp] theorem State.setUsart_rdata (s : State) (u : Fin 6) (y : Usart) : (s.setUsart u y).rdata = s.rdata := rfl
@[simp] theorem State.setUsart_fault (s : State) (u : Fin 6) (y : Usart) : (s.setUsart u y).fault = s.fault := rfl
@[simp] theorem State.setUsart_mem (s : State) (u : Fin 6) (y : Usart) : (s.setUsart u y).mem = s.mem := rfl
@[simp] theorem State.setUsart_bootTarget (s : State) (u : Fin 6) (y : Usart) : (s.setUsart u y).bootTarget = s.bootTarget := rfl
@[simp] theorem State.setUsart_aic (s : State) (u : Fin 6) (y : Usart) : (s.setUsart u y).aic = s.aic := rfl
@[simp] theorem State.setUsart_stubIn (s : State) (u : Fin 6) (y : Usart) : (s.setUsart u y).stubIn = s.stubIn := rfl
@[simp] theorem State.setUsart_pdcs (s : State) (u : Fin 6) (y : Usart) : (s.setUsart u y).pdcs = s.pdcs := rfl
@[simp] theorem State.setUsart_spis (s : State) (u : Fin 6) (y : Usart) : (s.setUsart u y).spis = s.spis := rfl
@[simp] theorem State.setUsart_twi (s : State) (u : Fin 6) (y : Usart) : (s.setUsart u y).twi = s.twi := rfl
@[simp] theorem State.setUsart_mci (s : State) (u : Fin 6) (y : Usart) : (s.setUsart u y).mci = s.mci := rfl
@[simp] theorem State.setUsart_tcs (s : State) (u : Fin 6) (y : Usart) : (s.setUsart u y).tcs = s.tcs := rfl
@[simp] theorem State.setUsart_tcBmr (s : State) (u : Fin 6) (y : Usart) : (s.setUsart u y).tcBmr = s.tcBmr := rfl
@[simp] theorem State.setUsart_pit (s : State) (u : Fin 6) (y : Usart) : (s.setUsart u y).pit = s.pit := rfl
@[simp] theorem State.setUsart_rtt (s : State) (u : Fin 6) (y : Usart) : (s.setUsart u y).rtt = s.rtt := rfl
@[simp] theorem State.setUsart_dbgu (s : State) (u : Fin 6) (y : Usart) : (s.setUsart u y).dbgu = s.dbgu := rfl
@[simp] theorem State.setUsart_consoleOut (s : State) (u : Fin 6) (y : Usart) : (s.setUsart u y).consoleOut = s.consoleOut := rfl
@[simp] theorem State.setUsart_pios (s : State) (u : Fin 6) (y : Usart) : (s.setUsart u y).pios = s.pios := rfl
@[simp] theorem State.setUsart_pmc (s : State) (u : Fin 6) (y : Usart) : (s.setUsart u y).pmc = s.pmc := rfl
@[simp] theorem State.setUsart_matrix (s : State) (u : Fin 6) (y : Usart) : (s.setUsart u y).matrix = s.matrix := rfl
@[simp] theorem State.setUsart_rstc (s : State) (u : Fin 6) (y : Usart) : (s.setUsart u y).rstc = s.rstc := rfl
@[simp] theorem State.setUsart_sdramc (s : State) (u : Fin 6) (y : Usart) : (s.setUsart u y).sdramc = s.sdramc := rfl
@[simp] theorem State.setUsart_links (s : State) (u : Fin 6) (y : Usart) : (s.setUsart u y).links = s.links := rfl
@[simp] theorem State.setUsart_sd (s : State) (u : Fin 6) (y : Usart) : (s.setUsart u y).sd = s.sd := rfl
@[simp] theorem State.setUsart_pdc (s : State) (u : Fin 6) (y : Usart) (j : PdcHost) : (s.setUsart u y).pdc j = s.pdc j := rfl
@[simp] theorem State.setUsart_spi (s : State) (u : Fin 6) (y : Usart) (j : Fin 2) : (s.setUsart u y).spi j = s.spi j := rfl
@[simp] theorem State.setUsart_tc (s : State) (u : Fin 6) (y : Usart) (j : Fin 6) : (s.setUsart u y).tc j = s.tc j := rfl
@[simp] theorem State.setUsart_bmr (s : State) (u : Fin 6) (y : Usart) (j : Fin 2) : (s.setUsart u y).bmr j = s.bmr j := rfl
@[simp] theorem State.setUsart_pio (s : State) (u : Fin 6) (y : Usart) (j : Fin 3) : (s.setUsart u y).pio j = s.pio j := rfl
@[simp] theorem State.setUsart_link (s : State) (u : Fin 6) (y : Usart) (j : LinkId) : (s.setUsart u y).link j = s.link j := rfl

@[simp] theorem State.setSpi_params (s : State) (u : Fin 2) (y : Spi) : (s.setSpi u y).params = s.params := rfl
@[simp] theorem State.setSpi_inputs (s : State) (u : Fin 2) (y : Spi) : (s.setSpi u y).inputs = s.inputs := rfl
@[simp] theorem State.setSpi_rdata (s : State) (u : Fin 2) (y : Spi) : (s.setSpi u y).rdata = s.rdata := rfl
@[simp] theorem State.setSpi_fault (s : State) (u : Fin 2) (y : Spi) : (s.setSpi u y).fault = s.fault := rfl
@[simp] theorem State.setSpi_mem (s : State) (u : Fin 2) (y : Spi) : (s.setSpi u y).mem = s.mem := rfl
@[simp] theorem State.setSpi_bootTarget (s : State) (u : Fin 2) (y : Spi) : (s.setSpi u y).bootTarget = s.bootTarget := rfl
@[simp] theorem State.setSpi_aic (s : State) (u : Fin 2) (y : Spi) : (s.setSpi u y).aic = s.aic := rfl
@[simp] theorem State.setSpi_stubIn (s : State) (u : Fin 2) (y : Spi) : (s.setSpi u y).stubIn = s.stubIn := rfl
@[simp] theorem State.setSpi_pdcs (s : State) (u : Fin 2) (y : Spi) : (s.setSpi u y).pdcs = s.pdcs := rfl
@[simp] theorem State.setSpi_usarts (s : State) (u : Fin 2) (y : Spi) : (s.setSpi u y).usarts = s.usarts := rfl
@[simp] theorem State.setSpi_twi (s : State) (u : Fin 2) (y : Spi) : (s.setSpi u y).twi = s.twi := rfl
@[simp] theorem State.setSpi_mci (s : State) (u : Fin 2) (y : Spi) : (s.setSpi u y).mci = s.mci := rfl
@[simp] theorem State.setSpi_tcs (s : State) (u : Fin 2) (y : Spi) : (s.setSpi u y).tcs = s.tcs := rfl
@[simp] theorem State.setSpi_tcBmr (s : State) (u : Fin 2) (y : Spi) : (s.setSpi u y).tcBmr = s.tcBmr := rfl
@[simp] theorem State.setSpi_pit (s : State) (u : Fin 2) (y : Spi) : (s.setSpi u y).pit = s.pit := rfl
@[simp] theorem State.setSpi_rtt (s : State) (u : Fin 2) (y : Spi) : (s.setSpi u y).rtt = s.rtt := rfl
@[simp] theorem State.setSpi_dbgu (s : State) (u : Fin 2) (y : Spi) : (s.setSpi u y).dbgu = s.dbgu := rfl
@[simp] theorem State.setSpi_consoleOut (s : State) (u : Fin 2) (y : Spi) : (s.setSpi u y).consoleOut = s.consoleOut := rfl
@[simp] theorem State.setSpi_pios (s : State) (u : Fin 2) (y : Spi) : (s.setSpi u y).pios = s.pios := rfl
@[simp] theorem State.setSpi_pmc (s : State) (u : Fin 2) (y : Spi) : (s.setSpi u y).pmc = s.pmc := rfl
@[simp] theorem State.setSpi_matrix (s : State) (u : Fin 2) (y : Spi) : (s.setSpi u y).matrix = s.matrix := rfl
@[simp] theorem State.setSpi_rstc (s : State) (u : Fin 2) (y : Spi) : (s.setSpi u y).rstc = s.rstc := rfl
@[simp] theorem State.setSpi_sdramc (s : State) (u : Fin 2) (y : Spi) : (s.setSpi u y).sdramc = s.sdramc := rfl
@[simp] theorem State.setSpi_links (s : State) (u : Fin 2) (y : Spi) : (s.setSpi u y).links = s.links := rfl
@[simp] theorem State.setSpi_sd (s : State) (u : Fin 2) (y : Spi) : (s.setSpi u y).sd = s.sd := rfl
@[simp] theorem State.setSpi_pdc (s : State) (u : Fin 2) (y : Spi) (j : PdcHost) : (s.setSpi u y).pdc j = s.pdc j := rfl
@[simp] theorem State.setSpi_usart (s : State) (u : Fin 2) (y : Spi) (j : Fin 6) : (s.setSpi u y).usart j = s.usart j := rfl
@[simp] theorem State.setSpi_tc (s : State) (u : Fin 2) (y : Spi) (j : Fin 6) : (s.setSpi u y).tc j = s.tc j := rfl
@[simp] theorem State.setSpi_bmr (s : State) (u : Fin 2) (y : Spi) (j : Fin 2) : (s.setSpi u y).bmr j = s.bmr j := rfl
@[simp] theorem State.setSpi_pio (s : State) (u : Fin 2) (y : Spi) (j : Fin 3) : (s.setSpi u y).pio j = s.pio j := rfl
@[simp] theorem State.setSpi_link (s : State) (u : Fin 2) (y : Spi) (j : LinkId) : (s.setSpi u y).link j = s.link j := rfl

@[simp] theorem State.setTc_params (s : State) (c : Fin 6) (y : TcChannel) : (s.setTc c y).params = s.params := rfl
@[simp] theorem State.setTc_inputs (s : State) (c : Fin 6) (y : TcChannel) : (s.setTc c y).inputs = s.inputs := rfl
@[simp] theorem State.setTc_rdata (s : State) (c : Fin 6) (y : TcChannel) : (s.setTc c y).rdata = s.rdata := rfl
@[simp] theorem State.setTc_fault (s : State) (c : Fin 6) (y : TcChannel) : (s.setTc c y).fault = s.fault := rfl
@[simp] theorem State.setTc_mem (s : State) (c : Fin 6) (y : TcChannel) : (s.setTc c y).mem = s.mem := rfl
@[simp] theorem State.setTc_bootTarget (s : State) (c : Fin 6) (y : TcChannel) : (s.setTc c y).bootTarget = s.bootTarget := rfl
@[simp] theorem State.setTc_aic (s : State) (c : Fin 6) (y : TcChannel) : (s.setTc c y).aic = s.aic := rfl
@[simp] theorem State.setTc_stubIn (s : State) (c : Fin 6) (y : TcChannel) : (s.setTc c y).stubIn = s.stubIn := rfl
@[simp] theorem State.setTc_pdcs (s : State) (c : Fin 6) (y : TcChannel) : (s.setTc c y).pdcs = s.pdcs := rfl
@[simp] theorem State.setTc_usarts (s : State) (c : Fin 6) (y : TcChannel) : (s.setTc c y).usarts = s.usarts := rfl
@[simp] theorem State.setTc_spis (s : State) (c : Fin 6) (y : TcChannel) : (s.setTc c y).spis = s.spis := rfl
@[simp] theorem State.setTc_twi (s : State) (c : Fin 6) (y : TcChannel) : (s.setTc c y).twi = s.twi := rfl
@[simp] theorem State.setTc_mci (s : State) (c : Fin 6) (y : TcChannel) : (s.setTc c y).mci = s.mci := rfl
@[simp] theorem State.setTc_tcBmr (s : State) (c : Fin 6) (y : TcChannel) : (s.setTc c y).tcBmr = s.tcBmr := rfl
@[simp] theorem State.setTc_pit (s : State) (c : Fin 6) (y : TcChannel) : (s.setTc c y).pit = s.pit := rfl
@[simp] theorem State.setTc_rtt (s : State) (c : Fin 6) (y : TcChannel) : (s.setTc c y).rtt = s.rtt := rfl
@[simp] theorem State.setTc_dbgu (s : State) (c : Fin 6) (y : TcChannel) : (s.setTc c y).dbgu = s.dbgu := rfl
@[simp] theorem State.setTc_consoleOut (s : State) (c : Fin 6) (y : TcChannel) : (s.setTc c y).consoleOut = s.consoleOut := rfl
@[simp] theorem State.setTc_pios (s : State) (c : Fin 6) (y : TcChannel) : (s.setTc c y).pios = s.pios := rfl
@[simp] theorem State.setTc_pmc (s : State) (c : Fin 6) (y : TcChannel) : (s.setTc c y).pmc = s.pmc := rfl
@[simp] theorem State.setTc_matrix (s : State) (c : Fin 6) (y : TcChannel) : (s.setTc c y).matrix = s.matrix := rfl
@[simp] theorem State.setTc_rstc (s : State) (c : Fin 6) (y : TcChannel) : (s.setTc c y).rstc = s.rstc := rfl
@[simp] theorem State.setTc_sdramc (s : State) (c : Fin 6) (y : TcChannel) : (s.setTc c y).sdramc = s.sdramc := rfl
@[simp] theorem State.setTc_links (s : State) (c : Fin 6) (y : TcChannel) : (s.setTc c y).links = s.links := rfl
@[simp] theorem State.setTc_sd (s : State) (c : Fin 6) (y : TcChannel) : (s.setTc c y).sd = s.sd := rfl
@[simp] theorem State.setTc_pdc (s : State) (c : Fin 6) (y : TcChannel) (j : PdcHost) : (s.setTc c y).pdc j = s.pdc j := rfl
@[simp] theorem State.setTc_usart (s : State) (c : Fin 6) (y : TcChannel) (j : Fin 6) : (s.setTc c y).usart j = s.usart j := rfl
@[simp] theorem State.setTc_spi (s : State) (c : Fin 6) (y : TcChannel) (j : Fin 2) : (s.setTc c y).spi j = s.spi j := rfl
@[simp] theorem State.setTc_bmr (s : State) (c : Fin 6) (y : TcChannel) (j : Fin 2) : (s.setTc c y).bmr j = s.bmr j := rfl
@[simp] theorem State.setTc_pio (s : State) (c : Fin 6) (y : TcChannel) (j : Fin 3) : (s.setTc c y).pio j = s.pio j := rfl
@[simp] theorem State.setTc_link (s : State) (c : Fin 6) (y : TcChannel) (j : LinkId) : (s.setTc c y).link j = s.link j := rfl

@[simp] theorem State.setBmr_params (s : State) (b : Fin 2) (y : Word) : (s.setBmr b y).params = s.params := rfl
@[simp] theorem State.setBmr_inputs (s : State) (b : Fin 2) (y : Word) : (s.setBmr b y).inputs = s.inputs := rfl
@[simp] theorem State.setBmr_rdata (s : State) (b : Fin 2) (y : Word) : (s.setBmr b y).rdata = s.rdata := rfl
@[simp] theorem State.setBmr_fault (s : State) (b : Fin 2) (y : Word) : (s.setBmr b y).fault = s.fault := rfl
@[simp] theorem State.setBmr_mem (s : State) (b : Fin 2) (y : Word) : (s.setBmr b y).mem = s.mem := rfl
@[simp] theorem State.setBmr_bootTarget (s : State) (b : Fin 2) (y : Word) : (s.setBmr b y).bootTarget = s.bootTarget := rfl
@[simp] theorem State.setBmr_aic (s : State) (b : Fin 2) (y : Word) : (s.setBmr b y).aic = s.aic := rfl
@[simp] theorem State.setBmr_stubIn (s : State) (b : Fin 2) (y : Word) : (s.setBmr b y).stubIn = s.stubIn := rfl
@[simp] theorem State.setBmr_pdcs (s : State) (b : Fin 2) (y : Word) : (s.setBmr b y).pdcs = s.pdcs := rfl
@[simp] theorem State.setBmr_usarts (s : State) (b : Fin 2) (y : Word) : (s.setBmr b y).usarts = s.usarts := rfl
@[simp] theorem State.setBmr_spis (s : State) (b : Fin 2) (y : Word) : (s.setBmr b y).spis = s.spis := rfl
@[simp] theorem State.setBmr_twi (s : State) (b : Fin 2) (y : Word) : (s.setBmr b y).twi = s.twi := rfl
@[simp] theorem State.setBmr_mci (s : State) (b : Fin 2) (y : Word) : (s.setBmr b y).mci = s.mci := rfl
@[simp] theorem State.setBmr_tcs (s : State) (b : Fin 2) (y : Word) : (s.setBmr b y).tcs = s.tcs := rfl
@[simp] theorem State.setBmr_pit (s : State) (b : Fin 2) (y : Word) : (s.setBmr b y).pit = s.pit := rfl
@[simp] theorem State.setBmr_rtt (s : State) (b : Fin 2) (y : Word) : (s.setBmr b y).rtt = s.rtt := rfl
@[simp] theorem State.setBmr_dbgu (s : State) (b : Fin 2) (y : Word) : (s.setBmr b y).dbgu = s.dbgu := rfl
@[simp] theorem State.setBmr_consoleOut (s : State) (b : Fin 2) (y : Word) : (s.setBmr b y).consoleOut = s.consoleOut := rfl
@[simp] theorem State.setBmr_pios (s : State) (b : Fin 2) (y : Word) : (s.setBmr b y).pios = s.pios := rfl
@[simp] theorem State.setBmr_pmc (s : State) (b : Fin 2) (y : Word) : (s.setBmr b y).pmc = s.pmc := rfl
@[simp] theorem State.setBmr_matrix (s : State) (b : Fin 2) (y : Word) : (s.setBmr b y).matrix = s.matrix := rfl
@[simp] theorem State.setBmr_rstc (s : State) (b : Fin 2) (y : Word) : (s.setBmr b y).rstc = s.rstc := rfl
@[simp] theorem State.setBmr_sdramc (s : State) (b : Fin 2) (y : Word) : (s.setBmr b y).sdramc = s.sdramc := rfl
@[simp] theorem State.setBmr_links (s : State) (b : Fin 2) (y : Word) : (s.setBmr b y).links = s.links := rfl
@[simp] theorem State.setBmr_sd (s : State) (b : Fin 2) (y : Word) : (s.setBmr b y).sd = s.sd := rfl
@[simp] theorem State.setBmr_pdc (s : State) (b : Fin 2) (y : Word) (j : PdcHost) : (s.setBmr b y).pdc j = s.pdc j := rfl
@[simp] theorem State.setBmr_usart (s : State) (b : Fin 2) (y : Word) (j : Fin 6) : (s.setBmr b y).usart j = s.usart j := rfl
@[simp] theorem State.setBmr_spi (s : State) (b : Fin 2) (y : Word) (j : Fin 2) : (s.setBmr b y).spi j = s.spi j := rfl
@[simp] theorem State.setBmr_tc (s : State) (b : Fin 2) (y : Word) (j : Fin 6) : (s.setBmr b y).tc j = s.tc j := rfl
@[simp] theorem State.setBmr_pio (s : State) (b : Fin 2) (y : Word) (j : Fin 3) : (s.setBmr b y).pio j = s.pio j := rfl
@[simp] theorem State.setBmr_link (s : State) (b : Fin 2) (y : Word) (j : LinkId) : (s.setBmr b y).link j = s.link j := rfl

@[simp] theorem State.setPio_params (s : State) (p : Fin 3) (y : Pio) : (s.setPio p y).params = s.params := rfl
@[simp] theorem State.setPio_inputs (s : State) (p : Fin 3) (y : Pio) : (s.setPio p y).inputs = s.inputs := rfl
@[simp] theorem State.setPio_rdata (s : State) (p : Fin 3) (y : Pio) : (s.setPio p y).rdata = s.rdata := rfl
@[simp] theorem State.setPio_fault (s : State) (p : Fin 3) (y : Pio) : (s.setPio p y).fault = s.fault := rfl
@[simp] theorem State.setPio_mem (s : State) (p : Fin 3) (y : Pio) : (s.setPio p y).mem = s.mem := rfl
@[simp] theorem State.setPio_bootTarget (s : State) (p : Fin 3) (y : Pio) : (s.setPio p y).bootTarget = s.bootTarget := rfl
@[simp] theorem State.setPio_aic (s : State) (p : Fin 3) (y : Pio) : (s.setPio p y).aic = s.aic := rfl
@[simp] theorem State.setPio_stubIn (s : State) (p : Fin 3) (y : Pio) : (s.setPio p y).stubIn = s.stubIn := rfl
@[simp] theorem State.setPio_pdcs (s : State) (p : Fin 3) (y : Pio) : (s.setPio p y).pdcs = s.pdcs := rfl
@[simp] theorem State.setPio_usarts (s : State) (p : Fin 3) (y : Pio) : (s.setPio p y).usarts = s.usarts := rfl
@[simp] theorem State.setPio_spis (s : State) (p : Fin 3) (y : Pio) : (s.setPio p y).spis = s.spis := rfl
@[simp] theorem State.setPio_twi (s : State) (p : Fin 3) (y : Pio) : (s.setPio p y).twi = s.twi := rfl
@[simp] theorem State.setPio_mci (s : State) (p : Fin 3) (y : Pio) : (s.setPio p y).mci = s.mci := rfl
@[simp] theorem State.setPio_tcs (s : State) (p : Fin 3) (y : Pio) : (s.setPio p y).tcs = s.tcs := rfl
@[simp] theorem State.setPio_tcBmr (s : State) (p : Fin 3) (y : Pio) : (s.setPio p y).tcBmr = s.tcBmr := rfl
@[simp] theorem State.setPio_pit (s : State) (p : Fin 3) (y : Pio) : (s.setPio p y).pit = s.pit := rfl
@[simp] theorem State.setPio_rtt (s : State) (p : Fin 3) (y : Pio) : (s.setPio p y).rtt = s.rtt := rfl
@[simp] theorem State.setPio_dbgu (s : State) (p : Fin 3) (y : Pio) : (s.setPio p y).dbgu = s.dbgu := rfl
@[simp] theorem State.setPio_consoleOut (s : State) (p : Fin 3) (y : Pio) : (s.setPio p y).consoleOut = s.consoleOut := rfl
@[simp] theorem State.setPio_pmc (s : State) (p : Fin 3) (y : Pio) : (s.setPio p y).pmc = s.pmc := rfl
@[simp] theorem State.setPio_matrix (s : State) (p : Fin 3) (y : Pio) : (s.setPio p y).matrix = s.matrix := rfl
@[simp] theorem State.setPio_rstc (s : State) (p : Fin 3) (y : Pio) : (s.setPio p y).rstc = s.rstc := rfl
@[simp] theorem State.setPio_sdramc (s : State) (p : Fin 3) (y : Pio) : (s.setPio p y).sdramc = s.sdramc := rfl
@[simp] theorem State.setPio_links (s : State) (p : Fin 3) (y : Pio) : (s.setPio p y).links = s.links := rfl
@[simp] theorem State.setPio_sd (s : State) (p : Fin 3) (y : Pio) : (s.setPio p y).sd = s.sd := rfl
@[simp] theorem State.setPio_pdc (s : State) (p : Fin 3) (y : Pio) (j : PdcHost) : (s.setPio p y).pdc j = s.pdc j := rfl
@[simp] theorem State.setPio_usart (s : State) (p : Fin 3) (y : Pio) (j : Fin 6) : (s.setPio p y).usart j = s.usart j := rfl
@[simp] theorem State.setPio_spi (s : State) (p : Fin 3) (y : Pio) (j : Fin 2) : (s.setPio p y).spi j = s.spi j := rfl
@[simp] theorem State.setPio_tc (s : State) (p : Fin 3) (y : Pio) (j : Fin 6) : (s.setPio p y).tc j = s.tc j := rfl
@[simp] theorem State.setPio_bmr (s : State) (p : Fin 3) (y : Pio) (j : Fin 2) : (s.setPio p y).bmr j = s.bmr j := rfl
@[simp] theorem State.setPio_link (s : State) (p : Fin 3) (y : Pio) (j : LinkId) : (s.setPio p y).link j = s.link j := rfl

@[simp] theorem State.setLink_params (s : State) (l : LinkId) (y : Iox) : (s.setLink l y).params = s.params := rfl
@[simp] theorem State.setLink_inputs (s : State) (l : LinkId) (y : Iox) : (s.setLink l y).inputs = s.inputs := rfl
@[simp] theorem State.setLink_rdata (s : State) (l : LinkId) (y : Iox) : (s.setLink l y).rdata = s.rdata := rfl
@[simp] theorem State.setLink_fault (s : State) (l : LinkId) (y : Iox) : (s.setLink l y).fault = s.fault := rfl
@[simp] theorem State.setLink_mem (s : State) (l : LinkId) (y : Iox) : (s.setLink l y).mem = s.mem := rfl
@[simp] theorem State.setLink_bootTarget (s : State) (l : LinkId) (y : Iox) : (s.setLink l y).bootTarget = s.bootTarget := rfl
@[simp] theorem State.setLink_aic (s : State) (l : LinkId) (y : Iox) : (s.setLink l y).aic = s.aic := rfl
@[simp] theorem State.setLink_stubIn (s : State) (l : LinkId) (y : Iox) : (s.setLink l y).stubIn = s.stubIn := rfl
@[simp] theorem State.setLink_pdcs (s : State) (l : LinkId) (y : Iox) : (s.setLink l y).pdcs = s.pdcs := rfl
@[simp] theorem State.setLink_usarts (s : State) (l : LinkId) (y : Iox) : (s.setLink l y).usarts = s.usarts := rfl
@[simp] theorem State.setLink_spis (s : State) (l : LinkId) (y : Iox) : (s.setLink l y).spis = s.spis := rfl
@[simp] theorem State.setLink_twi (s : State) (l : LinkId) (y : Iox) : (s.setLink l y).twi = s.twi := rfl
@[simp] theorem State.setLink_mci (s : State) (l : LinkId) (y : Iox) : (s.setLink l y).mci = s.mci := rfl
@[simp] theorem State.setLink_tcs (s : State) (l : LinkId) (y : Iox) : (s.setLink l y).tcs = s.tcs := rfl
@[simp] theorem State.setLink_tcBmr (s : State) (l : LinkId) (y : Iox) : (s.setLink l y).tcBmr = s.tcBmr := rfl
@[simp] theorem State.setLink_pit (s : State) (l : LinkId) (y : Iox) : (s.setLink l y).pit = s.pit := rfl
@[simp] theorem State.setLink_rtt (s : State) (l : LinkId) (y : Iox) : (s.setLink l y).rtt = s.rtt := rfl
@[simp] theorem State.setLink_dbgu (s : State) (l : LinkId) (y : Iox) : (s.setLink l y).dbgu = s.dbgu := rfl
@[simp] theorem State.setLink_consoleOut (s : State) (l : LinkId) (y : Iox) : (s.setLink l y).consoleOut = s.consoleOut := rfl
@[simp] theorem State.setLink_pios (s : State) (l : LinkId) (y : Iox) : (s.setLink l y).pios = s.pios := rfl
@[simp] theorem State.setLink_pmc (s : State) (l : LinkId) (y : Iox) : (s.setLink l y).pmc = s.pmc := rfl
@[simp] theorem State.setLink_matrix (s : State) (l : LinkId) (y : Iox) : (s.setLink l y).matrix = s.matrix := rfl
@[simp] theorem State.setLink_rstc (s : State) (l : LinkId) (y : Iox) : (s.setLink l y).rstc = s.rstc := rfl
@[simp] theorem State.setLink_sdramc (s : State) (l : LinkId) (y : Iox) : (s.setLink l y).sdramc = s.sdramc := rfl
@[simp] theorem State.setLink_sd (s : State) (l : LinkId) (y : Iox) : (s.setLink l y).sd = s.sd := rfl
@[simp] theorem State.setLink_pdc (s : State) (l : LinkId) (y : Iox) (j : PdcHost) : (s.setLink l y).pdc j = s.pdc j := rfl
@[simp] theorem State.setLink_usart (s : State) (l : LinkId) (y : Iox) (j : Fin 6) : (s.setLink l y).usart j = s.usart j := rfl
@[simp] theorem State.setLink_spi (s : State) (l : LinkId) (y : Iox) (j : Fin 2) : (s.setLink l y).spi j = s.spi j := rfl
@[simp] theorem State.setLink_tc (s : State) (l : LinkId) (y : Iox) (j : Fin 6) : (s.setLink l y).tc j = s.tc j := rfl
@[simp] theorem State.setLink_bmr (s : State) (l : LinkId) (y : Iox) (j : Fin 2) : (s.setLink l y).bmr j = s.bmr j := rfl
@[simp] theorem State.setLink_pio (s : State) (l : LinkId) (y : Iox) (j : Fin 3) : (s.setLink l y).pio j = s.pio j := rfl

@[simp] theorem State.setInputs_params (s : State) (y : List Input) : (s.setInputs y).params = s.params := rfl
@[simp] theorem State.setInputs_inputs (s : State) (y : List Input) : (s.setInputs y).inputs = y := rfl
@[simp] theorem State.setInputs_rdata (s : State) (y : List Input) : (s.setInputs y).rdata = s.rdata := rfl
@[simp] theorem State.setInputs_fault (s : State) (y : List Input) : (s.setInputs y).fault = s.fault := rfl
@[simp] theorem State.setInputs_mem (s : State) (y : List Input) : (s.setInputs y).mem = s.mem := rfl
@[simp] theorem State.setInputs_bootTarget (s : State) (y : List Input) : (s.setInputs y).bootTarget = s.bootTarget := rfl
@[simp] theorem State.setInputs_aic (s : State) (y : List Input) : (s.setInputs y).aic = s.aic := rfl
@[simp] theorem State.setInputs_stubIn (s : State) (y : List Input) : (s.setInputs y).stubIn = s.stubIn := rfl
@[simp] theorem State.setInputs_pdcs (s : State) (y : List Input) : (s.setInputs y).pdcs = s.pdcs := rfl
@[simp] theorem State.setInputs_usarts (s : State) (y : List Input) : (s.setInputs y).usarts = s.usarts := rfl
@[simp] theorem State.setInputs_spis (s : State) (y : List Input) : (s.setInputs y).spis = s.spis := rfl
@[simp] theorem State.setInputs_twi (s : State) (y : List Input) : (s.setInputs y).twi = s.twi := rfl
@[simp] theorem State.setInputs_mci (s : State) (y : List Input) : (s.setInputs y).mci = s.mci := rfl
@[simp] theorem State.setInputs_tcs (s : State) (y : List Input) : (s.setInputs y).tcs = s.tcs := rfl
@[simp] theorem State.setInputs_tcBmr (s : State) (y : List Input) : (s.setInputs y).tcBmr = s.tcBmr := rfl
@[simp] theorem State.setInputs_pit (s : State) (y : List Input) : (s.setInputs y).pit = s.pit := rfl
@[simp] theorem State.setInputs_rtt (s : State) (y : List Input) : (s.setInputs y).rtt = s.rtt := rfl
@[simp] theorem State.setInputs_dbgu (s : State) (y : List Input) : (s.setInputs y).dbgu = s.dbgu := rfl
@[simp] theorem State.setInputs_consoleOut (s : State) (y : List Input) : (s.setInputs y).consoleOut = s.consoleOut := rfl
@[simp] theorem State.setInputs_pios (s : State) (y : List Input) : (s.setInputs y).pios = s.pios := rfl
@[simp] theorem State.setInputs_pmc (s : State) (y : List Input) : (s.setInputs y).pmc = s.pmc := rfl
@[simp] theorem State.setInputs_matrix (s : State) (y : List Input) : (s.setInputs y).matrix = s.matrix := rfl
@[simp] theorem State.setInputs_rstc (s : State) (y : List Input) : (s.setInputs y).rstc = s.rstc := rfl
@[simp] theorem State.setInputs_sdramc (s : State) (y : List Input) : (s.setInputs y).sdramc = s.sdramc := rfl
@[simp] theorem State.setInputs_links (s : State) (y : List Input) : (s.setInputs y).links = s.links := rfl
@[simp] theorem State.setInputs_sd (s : State) (y : List Input) : (s.setInputs y).sd = s.sd := rfl
@[simp] theorem State.setInputs_pdc (s : State) (y : List Input) (j : PdcHost) : (s.setInputs y).pdc j = s.pdc j := rfl
@[simp] theorem State.setInputs_usart (s : State) (y : List Input) (j : Fin 6) : (s.setInputs y).usart j = s.usart j := rfl
@[simp] theorem State.setInputs_spi (s : State) (y : List Input) (j : Fin 2) : (s.setInputs y).spi j = s.spi j := rfl
@[simp] theorem State.setInputs_tc (s : State) (y : List Input) (j : Fin 6) : (s.setInputs y).tc j = s.tc j := rfl
@[simp] theorem State.setInputs_bmr (s : State) (y : List Input) (j : Fin 2) : (s.setInputs y).bmr j = s.bmr j := rfl
@[simp] theorem State.setInputs_pio (s : State) (y : List Input) (j : Fin 3) : (s.setInputs y).pio j = s.pio j := rfl
@[simp] theorem State.setInputs_link (s : State) (y : List Input) (j : LinkId) : (s.setInputs y).link j = s.link j := rfl

@[simp] theorem State.setRdata_params (s : State) (y : Word) : (s.setRdata y).params = s.params := rfl
@[simp] theorem State.setRdata_inputs (s : State) (y : Word) : (s.setRdata y).inputs = s.inputs := rfl
@[simp] theorem State.setRdata_rdata (s : State) (y : Word) : (s.setRdata y).rdata = y := rfl
@[simp] theorem State.setRdata_fault (s : State) (y : Word) : (s.setRdata y).fault = s.fault := rfl
@[simp] theorem State.setRdata_mem (s : State) (y : Word) : (s.setRdata y).mem = s.mem := rfl
@[simp] theorem State.setRdata_bootTarget (s : State) (y : Word) : (s.setRdata y).bootTarget = s.bootTarget := rfl
@[simp] theorem State.setRdata_aic (s : State) (y : Word) : (s.setRdata y).aic = s.aic := rfl
@[simp] theorem State.setRdata_stubIn (s : State) (y : Word) : (s.setRdata y).stubIn = s.stubIn := rfl
@[simp] theorem State.setRdata_pdcs (s : State) (y : Word) : (s.setRdata y).pdcs = s.pdcs := rfl
@[simp] theorem State.setRdata_usarts (s : State) (y : Word) : (s.setRdata y).usarts = s.usarts := rfl
@[simp] theorem State.setRdata_spis (s : State) (y : Word) : (s.setRdata y).spis = s.spis := rfl
@[simp] theorem State.setRdata_twi (s : State) (y : Word) : (s.setRdata y).twi = s.twi := rfl
@[simp] theorem State.setRdata_mci (s : State) (y : Word) : (s.setRdata y).mci = s.mci := rfl
@[simp] theorem State.setRdata_tcs (s : State) (y : Word) : (s.setRdata y).tcs = s.tcs := rfl
@[simp] theorem State.setRdata_tcBmr (s : State) (y : Word) : (s.setRdata y).tcBmr = s.tcBmr := rfl
@[simp] theorem State.setRdata_pit (s : State) (y : Word) : (s.setRdata y).pit = s.pit := rfl
@[simp] theorem State.setRdata_rtt (s : State) (y : Word) : (s.setRdata y).rtt = s.rtt := rfl
@[simp] theorem State.setRdata_dbgu (s : State) (y : Word) : (s.setRdata y).dbgu = s.dbgu := rfl
@[simp] theorem State.setRdata_consoleOut (s : State) (y : Word) : (s.setRdata y).consoleOut = s.consoleOut := rfl
@[simp] theorem State.setRdata_pios (s : State) (y : Word) : (s.setRdata y).pios = s.pios := rfl
@[simp] theorem State.setRdata_pmc (s : State) (y : Word) : (s.setRdata y).pmc = s.pmc := rfl
@[simp] theorem State.setRdata_matrix (s : State) (y : Word) : (s.setRdata y).matrix = s.matrix := rfl
@[simp] theorem State.setRdata_rstc (s : State) (y : Word) : (s.setRdata y).rstc = s.rstc := rfl
@[simp] theorem State.setRdata_sdramc (s : State) (y : Word) : (s.setRdata y).sdramc = s.sdramc := rfl
@[simp] theorem State.setRdata_links (s : State) (y : Word) : (s.setRdata y).links = s.links := rfl
@[simp] theorem State.setRdata_sd (s : State) (y : Word) : (s.setRdata y).sd = s.sd := rfl
@[simp] theorem State.setRdata_pdc (s : State) (y : Word) (j : PdcHost) : (s.setRdata y).pdc j = s.pdc j := rfl
@[simp] theorem State.setRdata_usart (s : State) (y : Word) (j : Fin 6) : (s.setRdata y).usart j = s.usart j := rfl
@[simp] theorem State.setRdata_spi (s : State) (y : Word) (j : Fin 2) : (s.setRdata y).spi j = s.spi j := rfl
@[simp] theorem State.setRdata_tc (s : State) (y : Word) (j : Fin 6) : (s.setRdata y).tc j = s.tc j := rfl
@[simp] theorem State.setRdata_bmr (s : State) (y : Word) (j : Fin 2) : (s.setRdata y).bmr j = s.bmr j := rfl
@[simp] theorem State.setRdata_pio (s : State) (y : Word) (j : Fin 3) : (s.setRdata y).pio j = s.pio j := rfl
@[simp] theorem State.setRdata_link (s : State) (y : Word) (j : LinkId) : (s.setRdata y).link j = s.link j := rfl

@[simp] theorem State.setFault_params (s : State) (y : Option Fault) : (s.setFault y).params = s.params := rfl
@[simp] theorem State.setFault_inputs (s : State) (y : Option Fault) : (s.setFault y).inputs = s.inputs := rfl
@[simp] theorem State.setFault_rdata (s : State) (y : Option Fault) : (s.setFault y).rdata = s.rdata := rfl
@[simp] theorem State.setFault_fault (s : State) (y : Option Fault) : (s.setFault y).fault = y := rfl
@[simp] theorem State.setFault_mem (s : State) (y : Option Fault) : (s.setFault y).mem = s.mem := rfl
@[simp] theorem State.setFault_bootTarget (s : State) (y : Option Fault) : (s.setFault y).bootTarget = s.bootTarget := rfl
@[simp] theorem State.setFault_aic (s : State) (y : Option Fault) : (s.setFault y).aic = s.aic := rfl
@[simp] theorem State.setFault_stubIn (s : State) (y : Option Fault) : (s.setFault y).stubIn = s.stubIn := rfl
@[simp] theorem State.setFault_pdcs (s : State) (y : Option Fault) : (s.setFault y).pdcs = s.pdcs := rfl
@[simp] theorem State.setFault_usarts (s : State) (y : Option Fault) : (s.setFault y).usarts = s.usarts := rfl
@[simp] theorem State.setFault_spis (s : State) (y : Option Fault) : (s.setFault y).spis = s.spis := rfl
@[simp] theorem State.setFault_twi (s : State) (y : Option Fault) : (s.setFault y).twi = s.twi := rfl
@[simp] theorem State.setFault_mci (s : State) (y : Option Fault) : (s.setFault y).mci = s.mci := rfl
@[simp] theorem State.setFault_tcs (s : State) (y : Option Fault) : (s.setFault y).tcs = s.tcs := rfl
@[simp] theorem State.setFault_tcBmr (s : State) (y : Option Fault) : (s.setFault y).tcBmr = s.tcBmr := rfl
@[simp] theorem State.setFault_pit (s : State) (y : Option Fault) : (s.setFault y).pit = s.pit := rfl
@[simp] theorem State.setFault_rtt (s : State) (y : Option Fault) : (s.setFault y).rtt = s.rtt := rfl
@[simp] theorem State.setFault_dbgu (s : State) (y : Option Fault) : (s.setFault y).dbgu = s.dbgu := rfl
@[simp] theorem State.setFault_consoleOut (s : State) (y : Option Fault) : (s.setFault y).consoleOut = s.consoleOut := rfl
@[simp] theorem State.setFault_pios (s : State) (y : Option Fault) : (s.setFault y).pios = s.pios := rfl
@[simp] theorem State.setFault_pmc (s : State) (y : Option Fault) : (s.setFault y).pmc = s.pmc := rfl
@[simp] theorem State.setFault_matrix (s : State) (y : Option Fault) : (s.setFault y).matrix = s.matrix := rfl
@[simp] theorem State.setFault_rstc (s : State) (y : Option Fault) : (s.setFault y).rstc = s.rstc := rfl
@[simp] theorem State.setFault_sdramc (s : State) (y : Option Fault) : (s.setFault y).sdramc = s.sdramc := rfl
@[simp] theorem State.setFault_links (s : State) (y : Option Fault) : (s.setFault y).links = s.links := rfl
@[simp] theorem State.setFault_sd (s : State) (y : Option Fault) : (s.setFault y).sd = s.sd := rfl
@[simp] theorem State.setFault_pdc (s : State) (y : Option Fault) (j : PdcHost) : (s.setFault y).pdc j = s.pdc j := rfl
@[simp] theorem State.setFault_usart (s : State) (y : Option Fault) (j : Fin 6) : (s.setFault y).usart j = s.usart j := rfl
@[simp] theorem State.setFault_spi (s : State) (y : Option Fault) (j : Fin 2) : (s.setFault y).spi j = s.spi j := rfl
@[simp] theorem State.setFault_tc (s : State) (y : Option Fault) (j : Fin 6) : (s.setFault y).tc j = s.tc j := rfl
@[simp] theorem State.setFault_bmr (s : State) (y : Option Fault) (j : Fin 2) : (s.setFault y).bmr j = s.bmr j := rfl
@[simp] theorem State.setFault_pio (s : State) (y : Option Fault) (j : Fin 3) : (s.setFault y).pio j = s.pio j := rfl
@[simp] theorem State.setFault_link (s : State) (y : Option Fault) (j : LinkId) : (s.setFault y).link j = s.link j := rfl

@[simp] theorem State.setMem_params (s : State) (y : List Host.Cell) : (s.setMem y).params = s.params := rfl
@[simp] theorem State.setMem_inputs (s : State) (y : List Host.Cell) : (s.setMem y).inputs = s.inputs := rfl
@[simp] theorem State.setMem_rdata (s : State) (y : List Host.Cell) : (s.setMem y).rdata = s.rdata := rfl
@[simp] theorem State.setMem_fault (s : State) (y : List Host.Cell) : (s.setMem y).fault = s.fault := rfl
@[simp] theorem State.setMem_mem (s : State) (y : List Host.Cell) : (s.setMem y).mem = y := rfl
@[simp] theorem State.setMem_bootTarget (s : State) (y : List Host.Cell) : (s.setMem y).bootTarget = s.bootTarget := rfl
@[simp] theorem State.setMem_aic (s : State) (y : List Host.Cell) : (s.setMem y).aic = s.aic := rfl
@[simp] theorem State.setMem_stubIn (s : State) (y : List Host.Cell) : (s.setMem y).stubIn = s.stubIn := rfl
@[simp] theorem State.setMem_pdcs (s : State) (y : List Host.Cell) : (s.setMem y).pdcs = s.pdcs := rfl
@[simp] theorem State.setMem_usarts (s : State) (y : List Host.Cell) : (s.setMem y).usarts = s.usarts := rfl
@[simp] theorem State.setMem_spis (s : State) (y : List Host.Cell) : (s.setMem y).spis = s.spis := rfl
@[simp] theorem State.setMem_twi (s : State) (y : List Host.Cell) : (s.setMem y).twi = s.twi := rfl
@[simp] theorem State.setMem_mci (s : State) (y : List Host.Cell) : (s.setMem y).mci = s.mci := rfl
@[simp] theorem State.setMem_tcs (s : State) (y : List Host.Cell) : (s.setMem y).tcs = s.tcs := rfl
@[simp] theorem State.setMem_tcBmr (s : State) (y : List Host.Cell) : (s.setMem y).tcBmr = s.tcBmr := rfl
@[simp] theorem State.setMem_pit (s : State) (y : List Host.Cell) : (s.setMem y).pit = s.pit := rfl
@[simp] theorem State.setMem_rtt (s : State) (y : List Host.Cell) : (s.setMem y).rtt = s.rtt := rfl
@[simp] theorem State.setMem_dbgu (s : State) (y : List Host.Cell) : (s.setMem y).dbgu = s.dbgu := rfl
@[simp] theorem State.setMem_consoleOut (s : State) (y : List Host.Cell) : (s.setMem y).consoleOut = s.consoleOut := rfl
@[simp] theorem State.setMem_pios (s : State) (y : List Host.Cell) : (s.setMem y).pios = s.pios := rfl
@[simp] theorem State.setMem_pmc (s : State) (y : List Host.Cell) : (s.setMem y).pmc = s.pmc := rfl
@[simp] theorem State.setMem_matrix (s : State) (y : List Host.Cell) : (s.setMem y).matrix = s.matrix := rfl
@[simp] theorem State.setMem_rstc (s : State) (y : List Host.Cell) : (s.setMem y).rstc = s.rstc := rfl
@[simp] theorem State.setMem_sdramc (s : State) (y : List Host.Cell) : (s.setMem y).sdramc = s.sdramc := rfl
@[simp] theorem State.setMem_links (s : State) (y : List Host.Cell) : (s.setMem y).links = s.links := rfl
@[simp] theorem State.setMem_sd (s : State) (y : List Host.Cell) : (s.setMem y).sd = s.sd := rfl
@[simp] theorem State.setMem_pdc (s : State) (y : List Host.Cell) (j : PdcHost) : (s.setMem y).pdc j = s.pdc j := rfl
@[simp] theorem State.setMem_usart (s : State) (y : List Host.Cell) (j : Fin 6) : (s.setMem y).usart j = s.usart j := rfl
@[simp] theorem State.setMem_spi (s : State) (y : List Host.Cell) (j : Fin 2) : (s.setMem y).spi j = s.spi j := rfl
@[simp] theorem State.setMem_tc (s : State) (y : List Host.Cell) (j : Fin 6) : (s.setMem y).tc j = s.tc j := rfl
@[simp] theorem State.setMem_bmr (s : State) (y : List Host.Cell) (j : Fin 2) : (s.setMem y).bmr j = s.bmr j := rfl
@[simp] theorem State.setMem_pio (s : State) (y : List Host.Cell) (j : Fin 3) : (s.setMem y).pio j = s.pio j := rfl
@[simp] theorem State.setMem_link (s : State) (y : List Host.Cell) (j : LinkId) : (s.setMem y).link j = s.link j := rfl

@[simp] theorem State.setBootTarget_params (s : State) (y : BootTarget) : (s.setBootTarget y).params = s.params := rfl
@[simp] theorem State.setBootTarget_inputs (s : State) (y : BootTarget) : (s.setBootTarget y).inputs = s.inputs := rfl
@[simp] theorem State.setBootTarget_rdata (s : State) (y : BootTarget) : (s.setBootTarget y).rdata = s.rdata := rfl
@[simp] theorem State.setBootTarget_fault (s : State) (y : BootTarget) : (s.setBootTarget y).fault = s.fault := rfl
@[simp] theorem State.setBootTarget_mem (s : State) (y : BootTarget) : (s.setBootTarget y).mem = s.mem := rfl
@[simp] theorem State.setBootTarget_bootTarget (s : State) (y : BootTarget) : (s.setBootTarget y).bootTarget = y := rfl
@[simp] theorem State.setBootTarget_aic (s : State) (y : BootTarget) : (s.setBootTarget y).aic = s.aic := rfl
@[simp] theorem State.setBootTarget_stubIn (s : State) (y : BootTarget) : (s.setBootTarget y).stubIn = s.stubIn := rfl
@[simp] theorem State.setBootTarget_pdcs (s : State) (y : BootTarget) : (s.setBootTarget y).pdcs = s.pdcs := rfl
@[simp] theorem State.setBootTarget_usarts (s : State) (y : BootTarget) : (s.setBootTarget y).usarts = s.usarts := rfl
@[simp] theorem State.setBootTarget_spis (s : State) (y : BootTarget) : (s.setBootTarget y).spis = s.spis := rfl
@[simp] theorem State.setBootTarget_twi (s : State) (y : BootTarget) : (s.setBootTarget y).twi = s.twi := rfl
@[simp] theorem State.setBootTarget_mci (s : State) (y : BootTarget) : (s.setBootTarget y).mci = s.mci := rfl
@[simp] theorem State.setBootTarget_tcs (s : State) (y : BootTarget) : (s.setBootTarget y).tcs = s.tcs := rfl
@[simp] theorem State.setBootTarget_tcBmr (s : State) (y : BootTarget) : (s.setBootTarget y).tcBmr = s.tcBmr := rfl
@[simp] theorem State.setBootTarget_pit (s : State) (y : BootTarget) : (s.setBootTarget y).pit = s.pit := rfl
@[simp] theorem State.setBootTarget_rtt (s : State) (y : BootTarget) : (s.setBootTarget y).rtt = s.rtt := rfl
@[simp] theorem State.setBootTarget_dbgu (s : State) (y : BootTarget) : (s.setBootTarget y).dbgu = s.dbgu := rfl
@[simp] theorem State.setBootTarget_consoleOut (s : State) (y : BootTarget) : (s.setBootTarget y).consoleOut = s.consoleOut := rfl
@[simp] theorem State.setBootTarget_pios (s : State) (y : BootTarget) : (s.setBootTarget y).pios = s.pios := rfl
@[simp] theorem State.setBootTarget_pmc (s : State) (y : BootTarget) : (s.setBootTarget y).pmc = s.pmc := rfl
@[simp] theorem State.setBootTarget_matrix (s : State) (y : BootTarget) : (s.setBootTarget y).matrix = s.matrix := rfl
@[simp] theorem State.setBootTarget_rstc (s : State) (y : BootTarget) : (s.setBootTarget y).rstc = s.rstc := rfl
@[simp] theorem State.setBootTarget_sdramc (s : State) (y : BootTarget) : (s.setBootTarget y).sdramc = s.sdramc := rfl
@[simp] theorem State.setBootTarget_links (s : State) (y : BootTarget) : (s.setBootTarget y).links = s.links := rfl
@[simp] theorem State.setBootTarget_sd (s : State) (y : BootTarget) : (s.setBootTarget y).sd = s.sd := rfl
@[simp] theorem State.setBootTarget_pdc (s : State) (y : BootTarget) (j : PdcHost) : (s.setBootTarget y).pdc j = s.pdc j := rfl
@[simp] theorem State.setBootTarget_usart (s : State) (y : BootTarget) (j : Fin 6) : (s.setBootTarget y).usart j = s.usart j := rfl
@[simp] theorem State.setBootTarget_spi (s : State) (y : BootTarget) (j : Fin 2) : (s.setBootTarget y).spi j = s.spi j := rfl
@[simp] theorem State.setBootTarget_tc (s : State) (y : BootTarget) (j : Fin 6) : (s.setBootTarget y).tc j = s.tc j := rfl
@[simp] theorem State.setBootTarget_bmr (s : State) (y : BootTarget) (j : Fin 2) : (s.setBootTarget y).bmr j = s.bmr j := rfl
@[simp] theorem State.setBootTarget_pio (s : State) (y : BootTarget) (j : Fin 3) : (s.setBootTarget y).pio j = s.pio j := rfl
@[simp] theorem State.setBootTarget_link (s : State) (y : BootTarget) (j : LinkId) : (s.setBootTarget y).link j = s.link j := rfl

@[simp] theorem State.setAic_params (s : State) (y : Aic) : (s.setAic y).params = s.params := rfl
@[simp] theorem State.setAic_inputs (s : State) (y : Aic) : (s.setAic y).inputs = s.inputs := rfl
@[simp] theorem State.setAic_rdata (s : State) (y : Aic) : (s.setAic y).rdata = s.rdata := rfl
@[simp] theorem State.setAic_fault (s : State) (y : Aic) : (s.setAic y).fault = s.fault := rfl
@[simp] theorem State.setAic_mem (s : State) (y : Aic) : (s.setAic y).mem = s.mem := rfl
@[simp] theorem State.setAic_bootTarget (s : State) (y : Aic) : (s.setAic y).bootTarget = s.bootTarget := rfl
@[simp] theorem State.setAic_aic (s : State) (y : Aic) : (s.setAic y).aic = y := rfl
@[simp] theorem State.setAic_stubIn (s : State) (y : Aic) : (s.setAic y).stubIn = s.stubIn := rfl
@[simp] theorem State.setAic_pdcs (s : State) (y : Aic) : (s.setAic y).pdcs = s.pdcs := rfl
@[simp] theorem State.setAic_usarts (s : State) (y : Aic) : (s.setAic y).usarts = s.usarts := rfl
@[simp] theorem State.setAic_spis (s : State) (y : Aic) : (s.setAic y).spis = s.spis := rfl
@[simp] theorem State.setAic_twi (s : State) (y : Aic) : (s.setAic y).twi = s.twi := rfl
@[simp] theorem State.setAic_mci (s : State) (y : Aic) : (s.setAic y).mci = s.mci := rfl
@[simp] theorem State.setAic_tcs (s : State) (y : Aic) : (s.setAic y).tcs = s.tcs := rfl
@[simp] theorem State.setAic_tcBmr (s : State) (y : Aic) : (s.setAic y).tcBmr = s.tcBmr := rfl
@[simp] theorem State.setAic_pit (s : State) (y : Aic) : (s.setAic y).pit = s.pit := rfl
@[simp] theorem State.setAic_rtt (s : State) (y : Aic) : (s.setAic y).rtt = s.rtt := rfl
@[simp] theorem State.setAic_dbgu (s : State) (y : Aic) : (s.setAic y).dbgu = s.dbgu := rfl
@[simp] theorem State.setAic_consoleOut (s : State) (y : Aic) : (s.setAic y).consoleOut = s.consoleOut := rfl
@[simp] theorem State.setAic_pios (s : State) (y : Aic) : (s.setAic y).pios = s.pios := rfl
@[simp] theorem State.setAic_pmc (s : State) (y : Aic) : (s.setAic y).pmc = s.pmc := rfl
@[simp] theorem State.setAic_matrix (s : State) (y : Aic) : (s.setAic y).matrix = s.matrix := rfl
@[simp] theorem State.setAic_rstc (s : State) (y : Aic) : (s.setAic y).rstc = s.rstc := rfl
@[simp] theorem State.setAic_sdramc (s : State) (y : Aic) : (s.setAic y).sdramc = s.sdramc := rfl
@[simp] theorem State.setAic_links (s : State) (y : Aic) : (s.setAic y).links = s.links := rfl
@[simp] theorem State.setAic_sd (s : State) (y : Aic) : (s.setAic y).sd = s.sd := rfl
@[simp] theorem State.setAic_pdc (s : State) (y : Aic) (j : PdcHost) : (s.setAic y).pdc j = s.pdc j := rfl
@[simp] theorem State.setAic_usart (s : State) (y : Aic) (j : Fin 6) : (s.setAic y).usart j = s.usart j := rfl
@[simp] theorem State.setAic_spi (s : State) (y : Aic) (j : Fin 2) : (s.setAic y).spi j = s.spi j := rfl
@[simp] theorem State.setAic_tc (s : State) (y : Aic) (j : Fin 6) : (s.setAic y).tc j = s.tc j := rfl
@[simp] theorem State.setAic_bmr (s : State) (y : Aic) (j : Fin 2) : (s.setAic y).bmr j = s.bmr j := rfl
@[simp] theorem State.setAic_pio (s : State) (y : Aic) (j : Fin 3) : (s.setAic y).pio j = s.pio j := rfl
@[simp] theorem State.setAic_link (s : State) (y : Aic) (j : LinkId) : (s.setAic y).link j = s.link j := rfl

@[simp] theorem State.setStubIn_params (s : State) (y : Word) : (s.setStubIn y).params = s.params := rfl
@[simp] theorem State.setStubIn_inputs (s : State) (y : Word) : (s.setStubIn y).inputs = s.inputs := rfl
@[simp] theorem State.setStubIn_rdata (s : State) (y : Word) : (s.setStubIn y).rdata = s.rdata := rfl
@[simp] theorem State.setStubIn_fault (s : State) (y : Word) : (s.setStubIn y).fault = s.fault := rfl
@[simp] theorem State.setStubIn_mem (s : State) (y : Word) : (s.setStubIn y).mem = s.mem := rfl
@[simp] theorem State.setStubIn_bootTarget (s : State) (y : Word) : (s.setStubIn y).bootTarget = s.bootTarget := rfl
@[simp] theorem State.setStubIn_aic (s : State) (y : Word) : (s.setStubIn y).aic = s.aic := rfl
@[simp] theorem State.setStubIn_stubIn (s : State) (y : Word) : (s.setStubIn y).stubIn = y := rfl
@[simp] theorem State.setStubIn_pdcs (s : State) (y : Word) : (s.setStubIn y).pdcs = s.pdcs := rfl
@[simp] theorem State.setStubIn_usarts (s : State) (y : Word) : (s.setStubIn y).usarts = s.usarts := rfl
@[simp] theorem State.setStubIn_spis (s : State) (y : Word) : (s.setStubIn y).spis = s.spis := rfl
@[simp] theorem State.setStubIn_twi (s : State) (y : Word) : (s.setStubIn y).twi = s.twi := rfl
@[simp] theorem State.setStubIn_mci (s : State) (y : Word) : (s.setStubIn y).mci = s.mci := rfl
@[simp] theorem State.setStubIn_tcs (s : State) (y : Word) : (s.setStubIn y).tcs = s.tcs := rfl
@[simp] theorem State.setStubIn_tcBmr (s : State) (y : Word) : (s.setStubIn y).tcBmr = s.tcBmr := rfl
@[simp] theorem State.setStubIn_pit (s : State) (y : Word) : (s.setStubIn y).pit = s.pit := rfl
@[simp] theorem State.setStubIn_rtt (s : State) (y : Word) : (s.setStubIn y).rtt = s.rtt := rfl
@[simp] theorem State.setStubIn_dbgu (s : State) (y : Word) : (s.setStubIn y).dbgu = s.dbgu := rfl
@[simp] theorem State.setStubIn_consoleOut (s : State) (y : Word) : (s.setStubIn y).consoleOut = s.consoleOut := rfl
@[simp] theorem State.setStubIn_pios (s : State) (y : Word) : (s.setStubIn y).pios = s.pios := rfl
@[simp] theorem State.setStubIn_pmc (s : State) (y : Word) : (s.setStubIn y).pmc = s.pmc := rfl
@[simp] theorem State.setStubIn_matrix (s : State) (y : Word) : (s.setStubIn y).matrix = s.matrix := rfl
@[simp] theorem State.setStubIn_rstc (s : State) (y : Word) : (s.setStubIn y).rstc = s.rstc := rfl
@[simp] theorem State.setStubIn_sdramc (s : State) (y : Word) : (s.setStubIn y).sdramc = s.sdramc := rfl
@[simp] theorem State.setStubIn_links (s : State) (y : Word) : (s.setStubIn y).links = s.links := rfl
@[simp] theorem State.setStubIn_sd (s : State) (y : Word) : (s.setStubIn y).sd = s.sd := rfl
@[simp] theorem State.setStubIn_pdc (s : State) (y : Word) (j : PdcHost) : (s.setStubIn y).pdc j = s.pdc j := rfl
@[simp] theorem State.setStubIn_usart (s : State) (y : Word) (j : Fin 6) : (s.setStubIn y).usart j = s.usart j := rfl
@[simp] theorem State.setStubIn_spi (s : State) (y : Word) (j : Fin 2) : (s.setStubIn y).spi j = s.spi j := rfl
@[simp] theorem State.setStubIn_tc (s : State) (y : Word) (j : Fin 6) : (s.setStubIn y).tc j = s.tc j := rfl
@[simp] theorem State.setStubIn_bmr (s : State) (y : Word) (j : Fin 2) : (s.setStubIn y).bmr j = s.bmr j := rfl
@[simp] theorem State.setStubIn_pio (s : State) (y : Word) (j : Fin 3) : (s.setStubIn y).pio j = s.pio j := rfl
@[simp] theorem State.setStubIn_link (s : State) (y : Word) (j : LinkId) : (s.setStubIn y).link j = s.link j := rfl

@[simp] theorem State.setTwi_params (s : State) (y : Twi) : (s.setTwi y).params = s.params := rfl
@[simp] theorem State.setTwi_inputs (s : State) (y : Twi) : (s.setTwi y).inputs = s.inputs := rfl
@[simp] theorem State.setTwi_rdata (s : State) (y : Twi) : (s.setTwi y).rdata = s.rdata := rfl
@[simp] theorem State.setTwi_fault (s : State) (y : Twi) : (s.setTwi y).fault = s.fault := rfl
@[simp] theorem State.setTwi_mem (s : State) (y : Twi) : (s.setTwi y).mem = s.mem := rfl
@[simp] theorem State.setTwi_bootTarget (s : State) (y : Twi) : (s.setTwi y).bootTarget = s.bootTarget := rfl
@[simp] theorem State.setTwi_aic (s : State) (y : Twi) : (s.setTwi y).aic = s.aic := rfl
@[simp] theorem State.setTwi_stubIn (s : State) (y : Twi) : (s.setTwi y).stubIn = s.stubIn := rfl
@[simp] theorem State.setTwi_pdcs (s : State) (y : Twi) : (s.setTwi y).pdcs = s.pdcs := rfl
@[simp] theorem State.setTwi_usarts (s : State) (y : Twi) : (s.setTwi y).usarts = s.usarts := rfl
@[simp] theorem State.setTwi_spis (s : State) (y : Twi) : (s.setTwi y).spis = s.spis := rfl
@[simp] theorem State.setTwi_twi (s : State) (y : Twi) : (s.setTwi y).twi = y := rfl
@[simp] theorem State.setTwi_mci (s : State) (y : Twi) : (s.setTwi y).mci = s.mci := rfl
@[simp] theorem State.setTwi_tcs (s : State) (y : Twi) : (s.setTwi y).tcs = s.tcs := rfl
@[simp] theorem State.setTwi_tcBmr (s : State) (y : Twi) : (s.setTwi y).tcBmr = s.tcBmr := rfl
@[simp] theorem State.setTwi_pit (s : State) (y : Twi) : (s.setTwi y).pit = s.pit := rfl
@[simp] theorem State.setTwi_rtt (s : State) (y : Twi) : (s.setTwi y).rtt = s.rtt := rfl
@[simp] theorem State.setTwi_dbgu (s : State) (y : Twi) : (s.setTwi y).dbgu = s.dbgu := rfl
@[simp] theorem State.setTwi_consoleOut (s : State) (y : Twi) : (s.setTwi y).consoleOut = s.consoleOut := rfl
@[simp] theorem State.setTwi_pios (s : State) (y : Twi) : (s.setTwi y).pios = s.pios := rfl
@[simp] theorem State.setTwi_pmc (s : State) (y : Twi) : (s.setTwi y).pmc = s.pmc := rfl
@[simp] theorem State.setTwi_matrix (s : State) (y : Twi) : (s.setTwi y).matrix = s.matrix := rfl
@[simp] theorem State.setTwi_rstc (s : State) (y : Twi) : (s.setTwi y).rstc = s.rstc := rfl
@[simp] theorem State.setTwi_sdramc (s : State) (y : Twi) : (s.setTwi y).sdramc = s.sdramc := rfl
@[simp] theorem State.setTwi_links (s : State) (y : Twi) : (s.setTwi y).links = s.links := rfl
@[simp] theorem State.setTwi_sd (s : State) (y : Twi) : (s.setTwi y).sd = s.sd := rfl
@[simp] theorem State.setTwi_pdc (s : State) (y : Twi) (j : PdcHost) : (s.setTwi y).pdc j = s.pdc j := rfl
@[simp] theorem State.setTwi_usart (s : State) (y : Twi) (j : Fin 6) : (s.setTwi y).usart j = s.usart j := rfl
@[simp] theorem State.setTwi_spi (s : State) (y : Twi) (j : Fin 2) : (s.setTwi y).spi j = s.spi j := rfl
@[simp] theorem State.setTwi_tc (s : State) (y : Twi) (j : Fin 6) : (s.setTwi y).tc j = s.tc j := rfl
@[simp] theorem State.setTwi_bmr (s : State) (y : Twi) (j : Fin 2) : (s.setTwi y).bmr j = s.bmr j := rfl
@[simp] theorem State.setTwi_pio (s : State) (y : Twi) (j : Fin 3) : (s.setTwi y).pio j = s.pio j := rfl
@[simp] theorem State.setTwi_link (s : State) (y : Twi) (j : LinkId) : (s.setTwi y).link j = s.link j := rfl

@[simp] theorem State.setMci_params (s : State) (y : Mci) : (s.setMci y).params = s.params := rfl
@[simp] theorem State.setMci_inputs (s : State) (y : Mci) : (s.setMci y).inputs = s.inputs := rfl
@[simp] theorem State.setMci_rdata (s : State) (y : Mci) : (s.setMci y).rdata = s.rdata := rfl
@[simp] theorem State.setMci_fault (s : State) (y : Mci) : (s.setMci y).fault = s.fault := rfl
@[simp] theorem State.setMci_mem (s : State) (y : Mci) : (s.setMci y).mem = s.mem := rfl
@[simp] theorem State.setMci_bootTarget (s : State) (y : Mci) : (s.setMci y).bootTarget = s.bootTarget := rfl
@[simp] theorem State.setMci_aic (s : State) (y : Mci) : (s.setMci y).aic = s.aic := rfl
@[simp] theorem State.setMci_stubIn (s : State) (y : Mci) : (s.setMci y).stubIn = s.stubIn := rfl
@[simp] theorem State.setMci_pdcs (s : State) (y : Mci) : (s.setMci y).pdcs = s.pdcs := rfl
@[simp] theorem State.setMci_usarts (s : State) (y : Mci) : (s.setMci y).usarts = s.usarts := rfl
@[simp] theorem State.setMci_spis (s : State) (y : Mci) : (s.setMci y).spis = s.spis := rfl
@[simp] theorem State.setMci_twi (s : State) (y : Mci) : (s.setMci y).twi = s.twi := rfl
@[simp] theorem State.setMci_mci (s : State) (y : Mci) : (s.setMci y).mci = y := rfl
@[simp] theorem State.setMci_tcs (s : State) (y : Mci) : (s.setMci y).tcs = s.tcs := rfl
@[simp] theorem State.setMci_tcBmr (s : State) (y : Mci) : (s.setMci y).tcBmr = s.tcBmr := rfl
@[simp] theorem State.setMci_pit (s : State) (y : Mci) : (s.setMci y).pit = s.pit := rfl
@[simp] theorem State.setMci_rtt (s : State) (y : Mci) : (s.setMci y).rtt = s.rtt := rfl
@[simp] theorem State.setMci_dbgu (s : State) (y : Mci) : (s.setMci y).dbgu = s.dbgu := rfl
@[simp] theorem State.setMci_consoleOut (s : State) (y : Mci) : (s.setMci y).consoleOut = s.consoleOut := rfl
@[simp] theorem State.setMci_pios (s : State) (y : Mci) : (s.setMci y).pios = s.pios := rfl
@[simp] theorem State.setMci_pmc (s : State) (y : Mci) : (s.setMci y).pmc = s.pmc := rfl
@[simp] theorem State.setMci_matrix (s : State) (y : Mci) : (s.setMci y).matrix = s.matrix := rfl
@[simp] theorem State.setMci_rstc (s : State) (y : Mci) : (s.setMci y).rstc = s.rstc := rfl
@[simp] theorem State.setMci_sdramc (s : State) (y : Mci) : (s.setMci y).sdramc = s.sdramc := rfl
@[simp] theorem State.setMci_links (s : State) (y : Mci) : (s.setMci y).links = s.links := rfl
@[simp] theorem State.setMci_sd (s : State) (y : Mci) : (s.setMci y).sd = s.sd := rfl
@[simp] theorem State.setMci_pdc (s : State) (y : Mci) (j : PdcHost) : (s.setMci y).pdc j = s.pdc j := rfl
@[simp] theorem State.setMci_usart (s : State) (y : Mci) (j : Fin 6) : (s.setMci y).usart j = s.usart j := rfl
@[simp] theorem State.setMci_spi (s : State) (y : Mci) (j : Fin 2) : (s.setMci y).spi j = s.spi j := rfl
@[simp] theorem State.setMci_tc (s : State) (y : Mci) (j : Fin 6) : (s.setMci y).tc j = s.tc j := rfl
@[simp] theorem State.setMci_bmr (s : State) (y : Mci) (j : Fin 2) : (s.setMci y).bmr j = s.bmr j := rfl
@[simp] theorem State.setMci_pio (s : State) (y : Mci) (j : Fin 3) : (s.setMci y).pio j = s.pio j := rfl
@[simp] theorem State.setMci_link (s : State) (y : Mci) (j : LinkId) : (s.setMci y).link j = s.link j := rfl

@[simp] theorem State.setPit_params (s : State) (y : Pit) : (s.setPit y).params = s.params := rfl
@[simp] theorem State.setPit_inputs (s : State) (y : Pit) : (s.setPit y).inputs = s.inputs := rfl
@[simp] theorem State.setPit_rdata (s : State) (y : Pit) : (s.setPit y).rdata = s.rdata := rfl
@[simp] theorem State.setPit_fault (s : State) (y : Pit) : (s.setPit y).fault = s.fault := rfl
@[simp] theorem State.setPit_mem (s : State) (y : Pit) : (s.setPit y).mem = s.mem := rfl
@[simp] theorem State.setPit_bootTarget (s : State) (y : Pit) : (s.setPit y).bootTarget = s.bootTarget := rfl
@[simp] theorem State.setPit_aic (s : State) (y : Pit) : (s.setPit y).aic = s.aic := rfl
@[simp] theorem State.setPit_stubIn (s : State) (y : Pit) : (s.setPit y).stubIn = s.stubIn := rfl
@[simp] theorem State.setPit_pdcs (s : State) (y : Pit) : (s.setPit y).pdcs = s.pdcs := rfl
@[simp] theorem State.setPit_usarts (s : State) (y : Pit) : (s.setPit y).usarts = s.usarts := rfl
@[simp] theorem State.setPit_spis (s : State) (y : Pit) : (s.setPit y).spis = s.spis := rfl
@[simp] theorem State.setPit_twi (s : State) (y : Pit) : (s.setPit y).twi = s.twi := rfl
@[simp] theorem State.setPit_mci (s : State) (y : Pit) : (s.setPit y).mci = s.mci := rfl
@[simp] theorem State.setPit_tcs (s : State) (y : Pit) : (s.setPit y).tcs = s.tcs := rfl
@[simp] theorem State.setPit_tcBmr (s : State) (y : Pit) : (s.setPit y).tcBmr = s.tcBmr := rfl
@[simp] theorem State.setPit_pit (s : State) (y : Pit) : (s.setPit y).pit = y := rfl
@[simp] theorem State.setPit_rtt (s : State) (y : Pit) : (s.setPit y).rtt = s.rtt := rfl
@[simp] theorem State.setPit_dbgu (s : State) (y : Pit) : (s.setPit y).dbgu = s.dbgu := rfl
@[simp] theorem State.setPit_consoleOut (s : State) (y : Pit) : (s.setPit y).consoleOut = s.consoleOut := rfl
@[simp] theorem State.setPit_pios (s : State) (y : Pit) : (s.setPit y).pios = s.pios := rfl
@[simp] theorem State.setPit_pmc (s : State) (y : Pit) : (s.setPit y).pmc = s.pmc := rfl
@[simp] theorem State.setPit_matrix (s : State) (y : Pit) : (s.setPit y).matrix = s.matrix := rfl
@[simp] theorem State.setPit_rstc (s : State) (y : Pit) : (s.setPit y).rstc = s.rstc := rfl
@[simp] theorem State.setPit_sdramc (s : State) (y : Pit) : (s.setPit y).sdramc = s.sdramc := rfl
@[simp] theorem State.setPit_links (s : State) (y : Pit) : (s.setPit y).links = s.links := rfl
@[simp] theorem State.setPit_sd (s : State) (y : Pit) : (s.setPit y).sd = s.sd := rfl
@[simp] theorem State.setPit_pdc (s : State) (y : Pit) (j : PdcHost) : (s.setPit y).pdc j = s.pdc j := rfl
@[simp] theorem State.setPit_usart (s : State) (y : Pit) (j : Fin 6) : (s.setPit y).usart j = s.usart j := rfl
@[simp] theorem State.setPit_spi (s : State) (y : Pit) (j : Fin 2) : (s.setPit y).spi j = s.spi j := rfl
@[simp] theorem State.setPit_tc (s : State) (y : Pit) (j : Fin 6) : (s.setPit y).tc j = s.tc j := rfl
@[simp] theorem State.setPit_bmr (s : State) (y : Pit) (j : Fin 2) : (s.setPit y).bmr j = s.bmr j := rfl
@[simp] theorem State.setPit_pio (s : State) (y : Pit) (j : Fin 3) : (s.setPit y).pio j = s.pio j := rfl
@[simp] theorem State.setPit_link (s : State) (y : Pit) (j : LinkId) : (s.setPit y).link j = s.link j := rfl

@[simp] theorem State.setRtt_params (s : State) (y : Rtt) : (s.setRtt y).params = s.params := rfl
@[simp] theorem State.setRtt_inputs (s : State) (y : Rtt) : (s.setRtt y).inputs = s.inputs := rfl
@[simp] theorem State.setRtt_rdata (s : State) (y : Rtt) : (s.setRtt y).rdata = s.rdata := rfl
@[simp] theorem State.setRtt_fault (s : State) (y : Rtt) : (s.setRtt y).fault = s.fault := rfl
@[simp] theorem State.setRtt_mem (s : State) (y : Rtt) : (s.setRtt y).mem = s.mem := rfl
@[simp] theorem State.setRtt_bootTarget (s : State) (y : Rtt) : (s.setRtt y).bootTarget = s.bootTarget := rfl
@[simp] theorem State.setRtt_aic (s : State) (y : Rtt) : (s.setRtt y).aic = s.aic := rfl
@[simp] theorem State.setRtt_stubIn (s : State) (y : Rtt) : (s.setRtt y).stubIn = s.stubIn := rfl
@[simp] theorem State.setRtt_pdcs (s : State) (y : Rtt) : (s.setRtt y).pdcs = s.pdcs := rfl
@[simp] theorem State.setRtt_usarts (s : State) (y : Rtt) : (s.setRtt y).usarts = s.usarts := rfl
@[simp] theorem State.setRtt_spis (s : State) (y : Rtt) : (s.setRtt y).spis = s.spis := rfl
@[simp] theorem State.setRtt_twi (s : State) (y : Rtt) : (s.setRtt y).twi = s.twi := rfl
@[simp] theorem State.setRtt_mci (s : State) (y : Rtt) : (s.setRtt y).mci = s.mci := rfl
@[simp] theorem State.setRtt_tcs (s : State) (y : Rtt) : (s.setRtt y).tcs = s.tcs := rfl
@[simp] theorem State.setRtt_tcBmr (s : State) (y : Rtt) : (s.setRtt y).tcBmr = s.tcBmr := rfl
@[simp] theorem State.setRtt_pit (s : State) (y : Rtt) : (s.setRtt y).pit = s.pit := rfl
@[simp] theorem State.setRtt_rtt (s : State) (y : Rtt) : (s.setRtt y).rtt = y := rfl
@[simp] theorem State.setRtt_dbgu (s : State) (y : Rtt) : (s.setRtt y).dbgu = s.dbgu := rfl
@[simp] theorem State.setRtt_consoleOut (s : State) (y : Rtt) : (s.setRtt y).consoleOut = s.consoleOut := rfl
@[simp] theorem State.setRtt_pios (s : State) (y : Rtt) : (s.setRtt y).pios = s.pios := rfl
@[simp] theorem State.setRtt_pmc (s : State) (y : Rtt) : (s.setRtt y).pmc = s.pmc := rfl
@[simp] theorem State.setRtt_matrix (s : State) (y : Rtt) : (s.setRtt y).matrix = s.matrix := rfl
@[simp] theorem State.setRtt_rstc (s : State) (y : Rtt) : (s.setRtt y).rstc = s.rstc := rfl
@[simp] theorem State.setRtt_sdramc (s : State) (y : Rtt) : (s.setRtt y).sdramc = s.sdramc := rfl
@[simp] theorem State.setRtt_links (s : State) (y : Rtt) : (s.setRtt y).links = s.links := rfl
@[simp] theorem State.setRtt_sd (s : State) (y : Rtt) : (s.setRtt y).sd = s.sd := rfl
@[simp] theorem State.setRtt_pdc (s : State) (y : Rtt) (j : PdcHost) : (s.setRtt y).pdc j = s.pdc j := rfl
@[simp] theorem State.setRtt_usart (s : State) (y : Rtt) (j : Fin 6) : (s.setRtt y).usart j = s.usart j := rfl
@[simp] theorem State.setRtt_spi (s : State) (y : Rtt) (j : Fin 2) : (s.setRtt y).spi j = s.spi j := rfl
@[simp] theorem State.setRtt_tc (s : State) (y : Rtt) (j : Fin 6) : (s.setRtt y).tc j = s.tc j := rfl
@[simp] theorem State.setRtt_bmr (s : State) (y : Rtt) (j : Fin 2) : (s.setRtt y).bmr j = s.bmr j := rfl
@[simp] theorem State.setRtt_pio (s : State) (y : Rtt) (j : Fin 3) : (s.setRtt y).pio j = s.pio j := rfl
@[simp] theorem State.setRtt_link (s : State) (y : Rtt) (j : LinkId) : (s.setRtt y).link j = s.link j := rfl

@[simp] theorem State.setDbgu_params (s : State) (y : Dbgu) : (s.setDbgu y).params = s.params := rfl
@[simp] theorem State.setDbgu_inputs (s : State) (y : Dbgu) : (s.setDbgu y).inputs = s.inputs := rfl
@[simp] theorem State.setDbgu_rdata (s : State) (y : Dbgu) : (s.setDbgu y).rdata = s.rdata := rfl
@[simp] theorem State.setDbgu_fault (s : State) (y : Dbgu) : (s.setDbgu y).fault = s.fault := rfl
@[simp] theorem State.setDbgu_mem (s : State) (y : Dbgu) : (s.setDbgu y).mem = s.mem := rfl
@[simp] theorem State.setDbgu_bootTarget (s : State) (y : Dbgu) : (s.setDbgu y).bootTarget = s.bootTarget := rfl
@[simp] theorem State.setDbgu_aic (s : State) (y : Dbgu) : (s.setDbgu y).aic = s.aic := rfl
@[simp] theorem State.setDbgu_stubIn (s : State) (y : Dbgu) : (s.setDbgu y).stubIn = s.stubIn := rfl
@[simp] theorem State.setDbgu_pdcs (s : State) (y : Dbgu) : (s.setDbgu y).pdcs = s.pdcs := rfl
@[simp] theorem State.setDbgu_usarts (s : State) (y : Dbgu) : (s.setDbgu y).usarts = s.usarts := rfl
@[simp] theorem State.setDbgu_spis (s : State) (y : Dbgu) : (s.setDbgu y).spis = s.spis := rfl
@[simp] theorem State.setDbgu_twi (s : State) (y : Dbgu) : (s.setDbgu y).twi = s.twi := rfl
@[simp] theorem State.setDbgu_mci (s : State) (y : Dbgu) : (s.setDbgu y).mci = s.mci := rfl
@[simp] theorem State.setDbgu_tcs (s : State) (y : Dbgu) : (s.setDbgu y).tcs = s.tcs := rfl
@[simp] theorem State.setDbgu_tcBmr (s : State) (y : Dbgu) : (s.setDbgu y).tcBmr = s.tcBmr := rfl
@[simp] theorem State.setDbgu_pit (s : State) (y : Dbgu) : (s.setDbgu y).pit = s.pit := rfl
@[simp] theorem State.setDbgu_rtt (s : State) (y : Dbgu) : (s.setDbgu y).rtt = s.rtt := rfl
@[simp] theorem State.setDbgu_dbgu (s : State) (y : Dbgu) : (s.setDbgu y).dbgu = y := rfl
@[simp] theorem State.setDbgu_consoleOut (s : State) (y : Dbgu) : (s.setDbgu y).consoleOut = s.consoleOut := rfl
@[simp] theorem State.setDbgu_pios (s : State) (y : Dbgu) : (s.setDbgu y).pios = s.pios := rfl
@[simp] theorem State.setDbgu_pmc (s : State) (y : Dbgu) : (s.setDbgu y).pmc = s.pmc := rfl
@[simp] theorem State.setDbgu_matrix (s : State) (y : Dbgu) : (s.setDbgu y).matrix = s.matrix := rfl
@[simp] theorem State.setDbgu_rstc (s : State) (y : Dbgu) : (s.setDbgu y).rstc = s.rstc := rfl
@[simp] theorem State.setDbgu_sdramc (s : State) (y : Dbgu) : (s.setDbgu y).sdramc = s.sdramc := rfl
@[simp] theorem State.setDbgu_links (s : State) (y : Dbgu) : (s.setDbgu y).links = s.links := rfl
@[simp] theorem State.setDbgu_sd (s : State) (y : Dbgu) : (s.setDbgu y).sd = s.sd := rfl
@[simp] theorem State.setDbgu_pdc (s : State) (y : Dbgu) (j : PdcHost) : (s.setDbgu y).pdc j = s.pdc j := rfl
@[simp] theorem State.setDbgu_usart (s : State) (y : Dbgu) (j : Fin 6) : (s.setDbgu y).usart j = s.usart j := rfl
@[simp] theorem State.setDbgu_spi (s : State) (y : Dbgu) (j : Fin 2) : (s.setDbgu y).spi j = s.spi j := rfl
@[simp] theorem State.setDbgu_tc (s : State) (y : Dbgu) (j : Fin 6) : (s.setDbgu y).tc j = s.tc j := rfl
@[simp] theorem State.setDbgu_bmr (s : State) (y : Dbgu) (j : Fin 2) : (s.setDbgu y).bmr j = s.bmr j := rfl
@[simp] theorem State.setDbgu_pio (s : State) (y : Dbgu) (j : Fin 3) : (s.setDbgu y).pio j = s.pio j := rfl
@[simp] theorem State.setDbgu_link (s : State) (y : Dbgu) (j : LinkId) : (s.setDbgu y).link j = s.link j := rfl

@[simp] theorem State.setConsoleOut_params (s : State) (y : List Byte) : (s.setConsoleOut y).params = s.params := rfl
@[simp] theorem State.setConsoleOut_inputs (s : State) (y : List Byte) : (s.setConsoleOut y).inputs = s.inputs := rfl
@[simp] theorem State.setConsoleOut_rdata (s : State) (y : List Byte) : (s.setConsoleOut y).rdata = s.rdata := rfl
@[simp] theorem State.setConsoleOut_fault (s : State) (y : List Byte) : (s.setConsoleOut y).fault = s.fault := rfl
@[simp] theorem State.setConsoleOut_mem (s : State) (y : List Byte) : (s.setConsoleOut y).mem = s.mem := rfl
@[simp] theorem State.setConsoleOut_bootTarget (s : State) (y : List Byte) : (s.setConsoleOut y).bootTarget = s.bootTarget := rfl
@[simp] theorem State.setConsoleOut_aic (s : State) (y : List Byte) : (s.setConsoleOut y).aic = s.aic := rfl
@[simp] theorem State.setConsoleOut_stubIn (s : State) (y : List Byte) : (s.setConsoleOut y).stubIn = s.stubIn := rfl
@[simp] theorem State.setConsoleOut_pdcs (s : State) (y : List Byte) : (s.setConsoleOut y).pdcs = s.pdcs := rfl
@[simp] theorem State.setConsoleOut_usarts (s : State) (y : List Byte) : (s.setConsoleOut y).usarts = s.usarts := rfl
@[simp] theorem State.setConsoleOut_spis (s : State) (y : List Byte) : (s.setConsoleOut y).spis = s.spis := rfl
@[simp] theorem State.setConsoleOut_twi (s : State) (y : List Byte) : (s.setConsoleOut y).twi = s.twi := rfl
@[simp] theorem State.setConsoleOut_mci (s : State) (y : List Byte) : (s.setConsoleOut y).mci = s.mci := rfl
@[simp] theorem State.setConsoleOut_tcs (s : State) (y : List Byte) : (s.setConsoleOut y).tcs = s.tcs := rfl
@[simp] theorem State.setConsoleOut_tcBmr (s : State) (y : List Byte) : (s.setConsoleOut y).tcBmr = s.tcBmr := rfl
@[simp] theorem State.setConsoleOut_pit (s : State) (y : List Byte) : (s.setConsoleOut y).pit = s.pit := rfl
@[simp] theorem State.setConsoleOut_rtt (s : State) (y : List Byte) : (s.setConsoleOut y).rtt = s.rtt := rfl
@[simp] theorem State.setConsoleOut_dbgu (s : State) (y : List Byte) : (s.setConsoleOut y).dbgu = s.dbgu := rfl
@[simp] theorem State.setConsoleOut_consoleOut (s : State) (y : List Byte) : (s.setConsoleOut y).consoleOut = y := rfl
@[simp] theorem State.setConsoleOut_pios (s : State) (y : List Byte) : (s.setConsoleOut y).pios = s.pios := rfl
@[simp] theorem State.setConsoleOut_pmc (s : State) (y : List Byte) : (s.setConsoleOut y).pmc = s.pmc := rfl
@[simp] theorem State.setConsoleOut_matrix (s : State) (y : List Byte) : (s.setConsoleOut y).matrix = s.matrix := rfl
@[simp] theorem State.setConsoleOut_rstc (s : State) (y : List Byte) : (s.setConsoleOut y).rstc = s.rstc := rfl
@[simp] theorem State.setConsoleOut_sdramc (s : State) (y : List Byte) : (s.setConsoleOut y).sdramc = s.sdramc := rfl
@[simp] theorem State.setConsoleOut_links (s : State) (y : List Byte) : (s.setConsoleOut y).links = s.links := rfl
@[simp] theorem State.setConsoleOut_sd (s : State) (y : List Byte) : (s.setConsoleOut y).sd = s.sd := rfl
@[simp] theorem State.setConsoleOut_pdc (s : State) (y : List Byte) (j : PdcHost) : (s.setConsoleOut y).pdc j = s.pdc j := rfl
@[simp] theorem State.setConsoleOut_usart (s : State) (y : List Byte) (j : Fin 6) : (s.setConsoleOut y).usart j = s.usart j := rfl
@[simp] theorem State.setConsoleOut_spi (s : State) (y : List Byte) (j : Fin 2) : (s.setConsoleOut y).spi j = s.spi j := rfl
@[simp] theorem State.setConsoleOut_tc (s : State) (y : List Byte) (j : Fin 6) : (s.setConsoleOut y).tc j = s.tc j := rfl
@[simp] theorem State.setConsoleOut_bmr (s : State) (y : List Byte) (j : Fin 2) : (s.setConsoleOut y).bmr j = s.bmr j := rfl
@[simp] theorem State.setConsoleOut_pio (s : State) (y : List Byte) (j : Fin 3) : (s.setConsoleOut y).pio j = s.pio j := rfl
@[simp] theorem State.setConsoleOut_link (s : State) (y : List Byte) (j : LinkId) : (s.setConsoleOut y).link j = s.link j := rfl

@[simp] theorem State.setPmc_params (s : State) (y : Pmc) : (s.setPmc y).params = s.params := rfl
@[simp] theorem State.setPmc_inputs (s : State) (y : Pmc) : (s.setPmc y).inputs = s.inputs := rfl
@[simp] theorem State.setPmc_rdata (s : State) (y : Pmc) : (s.setPmc y).rdata = s.rdata := rfl
@[simp] theorem State.setPmc_fault (s : State) (y : Pmc) : (s.setPmc y).fault = s.fault := rfl
@[simp] theorem State.setPmc_mem (s : State) (y : Pmc) : (s.setPmc y).mem = s.mem := rfl
@[simp] theorem State.setPmc_bootTarget (s : State) (y : Pmc) : (s.setPmc y).bootTarget = s.bootTarget := rfl
@[simp] theorem State.setPmc_aic (s : State) (y : Pmc) : (s.setPmc y).aic = s.aic := rfl
@[simp] theorem State.setPmc_stubIn (s : State) (y : Pmc) : (s.setPmc y).stubIn = s.stubIn := rfl
@[simp] theorem State.setPmc_pdcs (s : State) (y : Pmc) : (s.setPmc y).pdcs = s.pdcs := rfl
@[simp] theorem State.setPmc_usarts (s : State) (y : Pmc) : (s.setPmc y).usarts = s.usarts := rfl
@[simp] theorem State.setPmc_spis (s : State) (y : Pmc) : (s.setPmc y).spis = s.spis := rfl
@[simp] theorem State.setPmc_twi (s : State) (y : Pmc) : (s.setPmc y).twi = s.twi := rfl
@[simp] theorem State.setPmc_mci (s : State) (y : Pmc) : (s.setPmc y).mci = s.mci := rfl
@[simp] theorem State.setPmc_tcs (s : State) (y : Pmc) : (s.setPmc y).tcs = s.tcs := rfl
@[simp] theorem State.setPmc_tcBmr (s : State) (y : Pmc) : (s.setPmc y).tcBmr = s.tcBmr := rfl
@[simp] theorem State.setPmc_pit (s : State) (y : Pmc) : (s.setPmc y).pit = s.pit := rfl
@[simp] theorem State.setPmc_rtt (s : State) (y : Pmc) : (s.setPmc y).rtt = s.rtt := rfl
@[simp] theorem State.setPmc_dbgu (s : State) (y : Pmc) : (s.setPmc y).dbgu = s.dbgu := rfl
@[simp] theorem State.setPmc_consoleOut (s : State) (y : Pmc) : (s.setPmc y).consoleOut = s.consoleOut := rfl
@[simp] theorem State.setPmc_pios (s : State) (y : Pmc) : (s.setPmc y).pios = s.pios := rfl
@[simp] theorem State.setPmc_pmc (s : State) (y : Pmc) : (s.setPmc y).pmc = y := rfl
@[simp] theorem State.setPmc_matrix (s : State) (y : Pmc) : (s.setPmc y).matrix = s.matrix := rfl
@[simp] theorem State.setPmc_rstc (s : State) (y : Pmc) : (s.setPmc y).rstc = s.rstc := rfl
@[simp] theorem State.setPmc_sdramc (s : State) (y : Pmc) : (s.setPmc y).sdramc = s.sdramc := rfl
@[simp] theorem State.setPmc_links (s : State) (y : Pmc) : (s.setPmc y).links = s.links := rfl
@[simp] theorem State.setPmc_sd (s : State) (y : Pmc) : (s.setPmc y).sd = s.sd := rfl
@[simp] theorem State.setPmc_pdc (s : State) (y : Pmc) (j : PdcHost) : (s.setPmc y).pdc j = s.pdc j := rfl
@[simp] theorem State.setPmc_usart (s : State) (y : Pmc) (j : Fin 6) : (s.setPmc y).usart j = s.usart j := rfl
@[simp] theorem State.setPmc_spi (s : State) (y : Pmc) (j : Fin 2) : (s.setPmc y).spi j = s.spi j := rfl
@[simp] theorem State.setPmc_tc (s : State) (y : Pmc) (j : Fin 6) : (s.setPmc y).tc j = s.tc j := rfl
@[simp] theorem State.setPmc_bmr (s : State) (y : Pmc) (j : Fin 2) : (s.setPmc y).bmr j = s.bmr j := rfl
@[simp] theorem State.setPmc_pio (s : State) (y : Pmc) (j : Fin 3) : (s.setPmc y).pio j = s.pio j := rfl
@[simp] theorem State.setPmc_link (s : State) (y : Pmc) (j : LinkId) : (s.setPmc y).link j = s.link j := rfl

@[simp] theorem State.setMatrix_params (s : State) (y : Matrix) : (s.setMatrix y).params = s.params := rfl
@[simp] theorem State.setMatrix_inputs (s : State) (y : Matrix) : (s.setMatrix y).inputs = s.inputs := rfl
@[simp] theorem State.setMatrix_rdata (s : State) (y : Matrix) : (s.setMatrix y).rdata = s.rdata := rfl
@[simp] theorem State.setMatrix_fault (s : State) (y : Matrix) : (s.setMatrix y).fault = s.fault := rfl
@[simp] theorem State.setMatrix_mem (s : State) (y : Matrix) : (s.setMatrix y).mem = s.mem := rfl
@[simp] theorem State.setMatrix_bootTarget (s : State) (y : Matrix) : (s.setMatrix y).bootTarget = s.bootTarget := rfl
@[simp] theorem State.setMatrix_aic (s : State) (y : Matrix) : (s.setMatrix y).aic = s.aic := rfl
@[simp] theorem State.setMatrix_stubIn (s : State) (y : Matrix) : (s.setMatrix y).stubIn = s.stubIn := rfl
@[simp] theorem State.setMatrix_pdcs (s : State) (y : Matrix) : (s.setMatrix y).pdcs = s.pdcs := rfl
@[simp] theorem State.setMatrix_usarts (s : State) (y : Matrix) : (s.setMatrix y).usarts = s.usarts := rfl
@[simp] theorem State.setMatrix_spis (s : State) (y : Matrix) : (s.setMatrix y).spis = s.spis := rfl
@[simp] theorem State.setMatrix_twi (s : State) (y : Matrix) : (s.setMatrix y).twi = s.twi := rfl
@[simp] theorem State.setMatrix_mci (s : State) (y : Matrix) : (s.setMatrix y).mci = s.mci := rfl
@[simp] theorem State.setMatrix_tcs (s : State) (y : Matrix) : (s.setMatrix y).tcs = s.tcs := rfl
@[simp] theorem State.setMatrix_tcBmr (s : State) (y : Matrix) : (s.setMatrix y).tcBmr = s.tcBmr := rfl
@[simp] theorem State.setMatrix_pit (s : State) (y : Matrix) : (s.setMatrix y).pit = s.pit := rfl
@[simp] theorem State.setMatrix_rtt (s : State) (y : Matrix) : (s.setMatrix y).rtt = s.rtt := rfl
@[simp] theorem State.setMatrix_dbgu (s : State) (y : Matrix) : (s.setMatrix y).dbgu = s.dbgu := rfl
@[simp] theorem State.setMatrix_consoleOut (s : State) (y : Matrix) : (s.setMatrix y).consoleOut = s.consoleOut := rfl
@[simp] theorem State.setMatrix_pios (s : State) (y : Matrix) : (s.setMatrix y).pios = s.pios := rfl
@[simp] theorem State.setMatrix_pmc (s : State) (y : Matrix) : (s.setMatrix y).pmc = s.pmc := rfl
@[simp] theorem State.setMatrix_matrix (s : State) (y : Matrix) : (s.setMatrix y).matrix = y := rfl
@[simp] theorem State.setMatrix_rstc (s : State) (y : Matrix) : (s.setMatrix y).rstc = s.rstc := rfl
@[simp] theorem State.setMatrix_sdramc (s : State) (y : Matrix) : (s.setMatrix y).sdramc = s.sdramc := rfl
@[simp] theorem State.setMatrix_links (s : State) (y : Matrix) : (s.setMatrix y).links = s.links := rfl
@[simp] theorem State.setMatrix_sd (s : State) (y : Matrix) : (s.setMatrix y).sd = s.sd := rfl
@[simp] theorem State.setMatrix_pdc (s : State) (y : Matrix) (j : PdcHost) : (s.setMatrix y).pdc j = s.pdc j := rfl
@[simp] theorem State.setMatrix_usart (s : State) (y : Matrix) (j : Fin 6) : (s.setMatrix y).usart j = s.usart j := rfl
@[simp] theorem State.setMatrix_spi (s : State) (y : Matrix) (j : Fin 2) : (s.setMatrix y).spi j = s.spi j := rfl
@[simp] theorem State.setMatrix_tc (s : State) (y : Matrix) (j : Fin 6) : (s.setMatrix y).tc j = s.tc j := rfl
@[simp] theorem State.setMatrix_bmr (s : State) (y : Matrix) (j : Fin 2) : (s.setMatrix y).bmr j = s.bmr j := rfl
@[simp] theorem State.setMatrix_pio (s : State) (y : Matrix) (j : Fin 3) : (s.setMatrix y).pio j = s.pio j := rfl
@[simp] theorem State.setMatrix_link (s : State) (y : Matrix) (j : LinkId) : (s.setMatrix y).link j = s.link j := rfl

@[simp] theorem State.setRstc_params (s : State) (y : Rstc) : (s.setRstc y).params = s.params := rfl
@[simp] theorem State.setRstc_inputs (s : State) (y : Rstc) : (s.setRstc y).inputs = s.inputs := rfl
@[simp] theorem State.setRstc_rdata (s : State) (y : Rstc) : (s.setRstc y).rdata = s.rdata := rfl
@[simp] theorem State.setRstc_fault (s : State) (y : Rstc) : (s.setRstc y).fault = s.fault := rfl
@[simp] theorem State.setRstc_mem (s : State) (y : Rstc) : (s.setRstc y).mem = s.mem := rfl
@[simp] theorem State.setRstc_bootTarget (s : State) (y : Rstc) : (s.setRstc y).bootTarget = s.bootTarget := rfl
@[simp] theorem State.setRstc_aic (s : State) (y : Rstc) : (s.setRstc y).aic = s.aic := rfl
@[simp] theorem State.setRstc_stubIn (s : State) (y : Rstc) : (s.setRstc y).stubIn = s.stubIn := rfl
@[simp] theorem State.setRstc_pdcs (s : State) (y : Rstc) : (s.setRstc y).pdcs = s.pdcs := rfl
@[simp] theorem State.setRstc_usarts (s : State) (y : Rstc) : (s.setRstc y).usarts = s.usarts := rfl
@[simp] theorem State.setRstc_spis (s : State) (y : Rstc) : (s.setRstc y).spis = s.spis := rfl
@[simp] theorem State.setRstc_twi (s : State) (y : Rstc) : (s.setRstc y).twi = s.twi := rfl
@[simp] theorem State.setRstc_mci (s : State) (y : Rstc) : (s.setRstc y).mci = s.mci := rfl
@[simp] theorem State.setRstc_tcs (s : State) (y : Rstc) : (s.setRstc y).tcs = s.tcs := rfl
@[simp] theorem State.setRstc_tcBmr (s : State) (y : Rstc) : (s.setRstc y).tcBmr = s.tcBmr := rfl
@[simp] theorem State.setRstc_pit (s : State) (y : Rstc) : (s.setRstc y).pit = s.pit := rfl
@[simp] theorem State.setRstc_rtt (s : State) (y : Rstc) : (s.setRstc y).rtt = s.rtt := rfl
@[simp] theorem State.setRstc_dbgu (s : State) (y : Rstc) : (s.setRstc y).dbgu = s.dbgu := rfl
@[simp] theorem State.setRstc_consoleOut (s : State) (y : Rstc) : (s.setRstc y).consoleOut = s.consoleOut := rfl
@[simp] theorem State.setRstc_pios (s : State) (y : Rstc) : (s.setRstc y).pios = s.pios := rfl
@[simp] theorem State.setRstc_pmc (s : State) (y : Rstc) : (s.setRstc y).pmc = s.pmc := rfl
@[simp] theorem State.setRstc_matrix (s : State) (y : Rstc) : (s.setRstc y).matrix = s.matrix := rfl
@[simp] theorem State.setRstc_rstc (s : State) (y : Rstc) : (s.setRstc y).rstc = y := rfl
@[simp] theorem State.setRstc_sdramc (s : State) (y : Rstc) : (s.setRstc y).sdramc = s.sdramc := rfl
@[simp] theorem State.setRstc_links (s : State) (y : Rstc) : (s.setRstc y).links = s.links := rfl
@[simp] theorem State.setRstc_sd (s : State) (y : Rstc) : (s.setRstc y).sd = s.sd := rfl
@[simp] theorem State.setRstc_pdc (s : State) (y : Rstc) (j : PdcHost) : (s.setRstc y).pdc j = s.pdc j := rfl
@[simp] theorem State.setRstc_usart (s : State) (y : Rstc) (j : Fin 6) : (s.setRstc y).usart j = s.usart j := rfl
@[simp] theorem State.setRstc_spi (s : State) (y : Rstc) (j : Fin 2) : (s.setRstc y).spi j = s.spi j := rfl
@[simp] theorem State.setRstc_tc (s : State) (y : Rstc) (j : Fin 6) : (s.setRstc y).tc j = s.tc j := rfl
@[simp] theorem State.setRstc_bmr (s : State) (y : Rstc) (j : Fin 2) : (s.setRstc y).bmr j = s.bmr j := rfl
@[simp] theorem State.setRstc_pio (s : State) (y : Rstc) (j : Fin 3) : (s.setRstc y).pio j = s.pio j := rfl
@[simp] theorem State.setRstc_link (s : State) (y : Rstc) (j : LinkId) : (s.setRstc y).link j = s.link j := rfl

@[simp] theorem State.setSdramc_params (s : State) (y : Sdramc) : (s.setSdramc y).params = s.params := rfl
@[simp] theorem State.setSdramc_inputs (s : State) (y : Sdramc) : (s.setSdramc y).inputs = s.inputs := rfl
@[simp] theorem State.setSdramc_rdata (s : State) (y : Sdramc) : (s.setSdramc y).rdata = s.rdata := rfl
@[simp] theorem State.setSdramc_fault (s : State) (y : Sdramc) : (s.setSdramc y).fault = s.fault := rfl
@[simp] theorem State.setSdramc_mem (s : State) (y : Sdramc) : (s.setSdramc y).mem = s.mem := rfl
@[simp] theorem State.setSdramc_bootTarget (s : State) (y : Sdramc) : (s.setSdramc y).bootTarget = s.bootTarget := rfl
@[simp] theorem State.setSdramc_aic (s : State) (y : Sdramc) : (s.setSdramc y).aic = s.aic := rfl
@[simp] theorem State.setSdramc_stubIn (s : State) (y : Sdramc) : (s.setSdramc y).stubIn = s.stubIn := rfl
@[simp] theorem State.setSdramc_pdcs (s : State) (y : Sdramc) : (s.setSdramc y).pdcs = s.pdcs := rfl
@[simp] theorem State.setSdramc_usarts (s : State) (y : Sdramc) : (s.setSdramc y).usarts = s.usarts := rfl
@[simp] theorem State.setSdramc_spis (s : State) (y : Sdramc) : (s.setSdramc y).spis = s.spis := rfl
@[simp] theorem State.setSdramc_twi (s : State) (y : Sdramc) : (s.setSdramc y).twi = s.twi := rfl
@[simp] theorem State.setSdramc_mci (s : State) (y : Sdramc) : (s.setSdramc y).mci = s.mci := rfl
@[simp] theorem State.setSdramc_tcs (s : State) (y : Sdramc) : (s.setSdramc y).tcs = s.tcs := rfl
@[simp] theorem State.setSdramc_tcBmr (s : State) (y : Sdramc) : (s.setSdramc y).tcBmr = s.tcBmr := rfl
@[simp] theorem State.setSdramc_pit (s : State) (y : Sdramc) : (s.setSdramc y).pit = s.pit := rfl
@[simp] theorem State.setSdramc_rtt (s : State) (y : Sdramc) : (s.setSdramc y).rtt = s.rtt := rfl
@[simp] theorem State.setSdramc_dbgu (s : State) (y : Sdramc) : (s.setSdramc y).dbgu = s.dbgu := rfl
@[simp] theorem State.setSdramc_consoleOut (s : State) (y : Sdramc) : (s.setSdramc y).consoleOut = s.consoleOut := rfl
@[simp] theorem State.setSdramc_pios (s : State) (y : Sdramc) : (s.setSdramc y).pios = s.pios := rfl
@[simp] theorem State.setSdramc_pmc (s : State) (y : Sdramc) : (s.setSdramc y).pmc = s.pmc := rfl
@[simp] theorem State.setSdramc_matrix (s : State) (y : Sdramc) : (s.setSdramc y).matrix = s.matrix := rfl
@[simp] theorem State.setSdramc_rstc (s : State) (y : Sdramc) : (s.setSdramc y).rstc = s.rstc := rfl
@[simp] theorem State.setSdramc_sdramc (s : State) (y : Sdramc) : (s.setSdramc y).sdramc = y := rfl
@[simp] theorem State.setSdramc_links (s : State) (y : Sdramc) : (s.setSdramc y).links = s.links := rfl
@[simp] theorem State.setSdramc_sd (s : State) (y : Sdramc) : (s.setSdramc y).sd = s.sd := rfl
@[simp] theorem State.setSdramc_pdc (s : State) (y : Sdramc) (j : PdcHost) : (s.setSdramc y).pdc j = s.pdc j := rfl
@[simp] theorem State.setSdramc_usart (s : State) (y : Sdramc) (j : Fin 6) : (s.setSdramc y).usart j = s.usart j := rfl
@[simp] theorem State.setSdramc_spi (s : State) (y : Sdramc) (j : Fin 2) : (s.setSdramc y).spi j = s.spi j := rfl
@[simp] theorem State.setSdramc_tc (s : State) (y : Sdramc) (j : Fin 6) : (s.setSdramc y).tc j = s.tc j := rfl
@[simp] theorem State.setSdramc_bmr (s : State) (y : Sdramc) (j : Fin 2) : (s.setSdramc y).bmr j = s.bmr j := rfl
@[simp] theorem State.setSdramc_pio (s : State) (y : Sdramc) (j : Fin 3) : (s.setSdramc y).pio j = s.pio j := rfl
@[simp] theorem State.setSdramc_link (s : State) (y : Sdramc) (j : LinkId) : (s.setSdramc y).link j = s.link j := rfl

@[simp] theorem State.setSd_params (s : State) (y : SdBus) : (s.setSd y).params = s.params := rfl
@[simp] theorem State.setSd_inputs (s : State) (y : SdBus) : (s.setSd y).inputs = s.inputs := rfl
@[simp] theorem State.setSd_rdata (s : State) (y : SdBus) : (s.setSd y).rdata = s.rdata := rfl
@[simp] theorem State.setSd_fault (s : State) (y : SdBus) : (s.setSd y).fault = s.fault := rfl
@[simp] theorem State.setSd_mem (s : State) (y : SdBus) : (s.setSd y).mem = s.mem := rfl
@[simp] theorem State.setSd_bootTarget (s : State) (y : SdBus) : (s.setSd y).bootTarget = s.bootTarget := rfl
@[simp] theorem State.setSd_aic (s : State) (y : SdBus) : (s.setSd y).aic = s.aic := rfl
@[simp] theorem State.setSd_stubIn (s : State) (y : SdBus) : (s.setSd y).stubIn = s.stubIn := rfl
@[simp] theorem State.setSd_pdcs (s : State) (y : SdBus) : (s.setSd y).pdcs = s.pdcs := rfl
@[simp] theorem State.setSd_usarts (s : State) (y : SdBus) : (s.setSd y).usarts = s.usarts := rfl
@[simp] theorem State.setSd_spis (s : State) (y : SdBus) : (s.setSd y).spis = s.spis := rfl
@[simp] theorem State.setSd_twi (s : State) (y : SdBus) : (s.setSd y).twi = s.twi := rfl
@[simp] theorem State.setSd_mci (s : State) (y : SdBus) : (s.setSd y).mci = s.mci := rfl
@[simp] theorem State.setSd_tcs (s : State) (y : SdBus) : (s.setSd y).tcs = s.tcs := rfl
@[simp] theorem State.setSd_tcBmr (s : State) (y : SdBus) : (s.setSd y).tcBmr = s.tcBmr := rfl
@[simp] theorem State.setSd_pit (s : State) (y : SdBus) : (s.setSd y).pit = s.pit := rfl
@[simp] theorem State.setSd_rtt (s : State) (y : SdBus) : (s.setSd y).rtt = s.rtt := rfl
@[simp] theorem State.setSd_dbgu (s : State) (y : SdBus) : (s.setSd y).dbgu = s.dbgu := rfl
@[simp] theorem State.setSd_consoleOut (s : State) (y : SdBus) : (s.setSd y).consoleOut = s.consoleOut := rfl
@[simp] theorem State.setSd_pios (s : State) (y : SdBus) : (s.setSd y).pios = s.pios := rfl
@[simp] theorem State.setSd_pmc (s : State) (y : SdBus) : (s.setSd y).pmc = s.pmc := rfl
@[simp] theorem State.setSd_matrix (s : State) (y : SdBus) : (s.setSd y).matrix = s.matrix := rfl
@[simp] theorem State.setSd_rstc (s : State) (y : SdBus) : (s.setSd y).rstc = s.rstc := rfl
@[simp] theorem State.setSd_sdramc (s : State) (y : SdBus) : (s.setSd y).sdramc = s.sdramc := rfl
@[simp] theorem State.setSd_links (s : State) (y : SdBus) : (s.setSd y).links = s.links := rfl
@[simp] theorem State.setSd_sd (s : State) (y : SdBus) : (s.setSd y).sd = y := rfl
@[simp] theorem State.setSd_pdc (s : State) (y : SdBus) (j : PdcHost) : (s.setSd y).pdc j = s.pdc j := rfl
@[simp] theorem State.setSd_usart (s : State) (y : SdBus) (j : Fin 6) : (s.setSd y).usart j = s.usart j := rfl
@[simp] theorem State.setSd_spi (s : State) (y : SdBus) (j : Fin 2) : (s.setSd y).spi j = s.spi j := rfl
@[simp] theorem State.setSd_tc (s : State) (y : SdBus) (j : Fin 6) : (s.setSd y).tc j = s.tc j := rfl
@[simp] theorem State.setSd_bmr (s : State) (y : SdBus) (j : Fin 2) : (s.setSd y).bmr j = s.bmr j := rfl
@[simp] theorem State.setSd_pio (s : State) (y : SdBus) (j : Fin 3) : (s.setSd y).pio j = s.pio j := rfl
@[simp] theorem State.setSd_link (s : State) (y : SdBus) (j : LinkId) : (s.setSd y).link j = s.link j := rfl

theorem pdcIndex_injective (h h' : PdcHost) (e : pdcIndex h = pdcIndex h') : h = h' := by
  cases h <;> cases h' <;> simp only [pdcIndex, Fin.ext_iff] at e <;> first | rfl | (congr 1; omega)

theorem linkIndex_injective (l l' : LinkId) (e : linkIndex l = linkIndex l') : l = l' := by
  cases l <;> cases l' <;> simp only [linkIndex, Fin.ext_iff] at e <;> first | rfl | (congr 1; omega)

@[simp] theorem State.setPdc_pdc_same (s : State) (i : PdcHost) (y : Pdc) : (s.setPdc i y).pdc i = y := by
  simp [State.setPdc, State.pdc]

theorem State.setPdc_pdc_ne (s : State) (i j : PdcHost) (y : Pdc) (h : j ≠ i) : (s.setPdc i y).pdc j = s.pdc j := by
  have hne : (pdcIndex i).val ≠ (pdcIndex j).val := fun e => h (pdcIndex_injective _ _ (Fin.ext e)).symm
  simp [State.setPdc, State.pdc, hne]

@[simp] theorem State.setUsart_usart_same (s : State) (i : Fin 6) (y : Usart) : (s.setUsart i y).usart i = y := by
  simp [State.setUsart, State.usart]

theorem State.setUsart_usart_ne (s : State) (i j : Fin 6) (y : Usart) (h : j ≠ i) : (s.setUsart i y).usart j = s.usart j := by
  have hne : i.val ≠ j.val := fun e => h (Fin.ext e).symm
  simp [State.setUsart, State.usart, hne]

@[simp] theorem State.setSpi_spi_same (s : State) (i : Fin 2) (y : Spi) : (s.setSpi i y).spi i = y := by
  simp [State.setSpi, State.spi]

theorem State.setSpi_spi_ne (s : State) (i j : Fin 2) (y : Spi) (h : j ≠ i) : (s.setSpi i y).spi j = s.spi j := by
  have hne : i.val ≠ j.val := fun e => h (Fin.ext e).symm
  simp [State.setSpi, State.spi, hne]

@[simp] theorem State.setTc_tc_same (s : State) (i : Fin 6) (y : TcChannel) : (s.setTc i y).tc i = y := by
  simp [State.setTc, State.tc]

theorem State.setTc_tc_ne (s : State) (i j : Fin 6) (y : TcChannel) (h : j ≠ i) : (s.setTc i y).tc j = s.tc j := by
  have hne : i.val ≠ j.val := fun e => h (Fin.ext e).symm
  simp [State.setTc, State.tc, hne]

@[simp] theorem State.setBmr_bmr_same (s : State) (i : Fin 2) (y : Word) : (s.setBmr i y).bmr i = y := by
  simp [State.setBmr, State.bmr]

theorem State.setBmr_bmr_ne (s : State) (i j : Fin 2) (y : Word) (h : j ≠ i) : (s.setBmr i y).bmr j = s.bmr j := by
  have hne : i.val ≠ j.val := fun e => h (Fin.ext e).symm
  simp [State.setBmr, State.bmr, hne]

@[simp] theorem State.setPio_pio_same (s : State) (i : Fin 3) (y : Pio) : (s.setPio i y).pio i = y := by
  simp [State.setPio, State.pio]

theorem State.setPio_pio_ne (s : State) (i j : Fin 3) (y : Pio) (h : j ≠ i) : (s.setPio i y).pio j = s.pio j := by
  have hne : i.val ≠ j.val := fun e => h (Fin.ext e).symm
  simp [State.setPio, State.pio, hne]

@[simp] theorem State.setLink_link_same (s : State) (i : LinkId) (y : Iox) : (s.setLink i y).link i = y := by
  simp [State.setLink, State.link]

theorem State.setLink_link_ne (s : State) (i j : LinkId) (y : Iox) (h : j ≠ i) : (s.setLink i y).link j = s.link j := by
  have hne : (linkIndex i).val ≠ (linkIndex j).val := fun e => h (linkIndex_injective _ _ (Fin.ext e)).symm
  simp [State.setLink, State.link, hne]

/-! ### Writing twice, and writing back -/

@[simp] theorem State.setPdc_setPdc (s : State) (i : PdcHost) (y z : Pdc) : (s.setPdc i y).setPdc i z = s.setPdc i z := by
  simp [State.setPdc]

@[simp] theorem State.setPdc_self (s : State) (i : PdcHost) : s.setPdc i (s.pdc i) = s := by
  cases s; simp [State.setPdc, State.pdc]

@[simp] theorem State.setUsart_setUsart (s : State) (i : Fin 6) (y z : Usart) : (s.setUsart i y).setUsart i z = s.setUsart i z := by
  simp [State.setUsart]

@[simp] theorem State.setUsart_self (s : State) (i : Fin 6) : s.setUsart i (s.usart i) = s := by
  cases s; simp [State.setUsart, State.usart]

@[simp] theorem State.setSpi_setSpi (s : State) (i : Fin 2) (y z : Spi) : (s.setSpi i y).setSpi i z = s.setSpi i z := by
  simp [State.setSpi]

@[simp] theorem State.setSpi_self (s : State) (i : Fin 2) : s.setSpi i (s.spi i) = s := by
  cases s; simp [State.setSpi, State.spi]

@[simp] theorem State.setTc_setTc (s : State) (i : Fin 6) (y z : TcChannel) : (s.setTc i y).setTc i z = s.setTc i z := by
  simp [State.setTc]

@[simp] theorem State.setTc_self (s : State) (i : Fin 6) : s.setTc i (s.tc i) = s := by
  cases s; simp [State.setTc, State.tc]

@[simp] theorem State.setBmr_setBmr (s : State) (i : Fin 2) (y z : Word) : (s.setBmr i y).setBmr i z = s.setBmr i z := by
  simp [State.setBmr]

@[simp] theorem State.setBmr_self (s : State) (i : Fin 2) : s.setBmr i (s.bmr i) = s := by
  cases s; simp [State.setBmr, State.bmr]

@[simp] theorem State.setPio_setPio (s : State) (i : Fin 3) (y z : Pio) : (s.setPio i y).setPio i z = s.setPio i z := by
  simp [State.setPio]

@[simp] theorem State.setPio_self (s : State) (i : Fin 3) : s.setPio i (s.pio i) = s := by
  cases s; simp [State.setPio, State.pio]

@[simp] theorem State.setLink_setLink (s : State) (i : LinkId) (y z : Iox) : (s.setLink i y).setLink i z = s.setLink i z := by
  simp [State.setLink]

@[simp] theorem State.setLink_self (s : State) (i : LinkId) : s.setLink i (s.link i) = s := by
  cases s; simp [State.setLink, State.link]

@[simp] theorem State.setInputs_setInputs (s : State) (y z : List Input) : (s.setInputs y).setInputs z = s.setInputs z := rfl
@[simp] theorem State.setInputs_self (s : State) : s.setInputs s.inputs = s := rfl
@[simp] theorem State.setRdata_setRdata (s : State) (y z : Word) : (s.setRdata y).setRdata z = s.setRdata z := rfl
@[simp] theorem State.setRdata_self (s : State) : s.setRdata s.rdata = s := rfl
@[simp] theorem State.setFault_setFault (s : State) (y z : Option Fault) : (s.setFault y).setFault z = s.setFault z := rfl
@[simp] theorem State.setFault_self (s : State) : s.setFault s.fault = s := rfl
@[simp] theorem State.setMem_setMem (s : State) (y z : List Host.Cell) : (s.setMem y).setMem z = s.setMem z := rfl
@[simp] theorem State.setMem_self (s : State) : s.setMem s.mem = s := rfl
@[simp] theorem State.setBootTarget_setBootTarget (s : State) (y z : BootTarget) : (s.setBootTarget y).setBootTarget z = s.setBootTarget z := rfl
@[simp] theorem State.setBootTarget_self (s : State) : s.setBootTarget s.bootTarget = s := rfl
@[simp] theorem State.setAic_setAic (s : State) (y z : Aic) : (s.setAic y).setAic z = s.setAic z := rfl
@[simp] theorem State.setAic_self (s : State) : s.setAic s.aic = s := rfl
@[simp] theorem State.setStubIn_setStubIn (s : State) (y z : Word) : (s.setStubIn y).setStubIn z = s.setStubIn z := rfl
@[simp] theorem State.setStubIn_self (s : State) : s.setStubIn s.stubIn = s := rfl
@[simp] theorem State.setTwi_setTwi (s : State) (y z : Twi) : (s.setTwi y).setTwi z = s.setTwi z := rfl
@[simp] theorem State.setTwi_self (s : State) : s.setTwi s.twi = s := rfl
@[simp] theorem State.setMci_setMci (s : State) (y z : Mci) : (s.setMci y).setMci z = s.setMci z := rfl
@[simp] theorem State.setMci_self (s : State) : s.setMci s.mci = s := rfl
@[simp] theorem State.setPit_setPit (s : State) (y z : Pit) : (s.setPit y).setPit z = s.setPit z := rfl
@[simp] theorem State.setPit_self (s : State) : s.setPit s.pit = s := rfl
@[simp] theorem State.setRtt_setRtt (s : State) (y z : Rtt) : (s.setRtt y).setRtt z = s.setRtt z := rfl
@[simp] theorem State.setRtt_self (s : State) : s.setRtt s.rtt = s := rfl
@[simp] theorem State.setDbgu_setDbgu (s : State) (y z : Dbgu) : (s.setDbgu y).setDbgu z = s.setDbgu z := rfl
@[simp] theorem State.setDbgu_self (s : State) : s.setDbgu s.dbgu = s := rfl
@[simp] theorem State.setConsoleOut_setConsoleOut (s : State) (y z : List Byte) : (s.setConsoleOut y).setConsoleOut z = s.setConsoleOut z := rfl
@[simp] theorem State.setConsoleOut_self (s : State) : s.setConsoleOut s.consoleOut = s := rfl
@[simp] theorem State.setPmc_setPmc (s : State) (y z : Pmc) : (s.setPmc y).setPmc z = s.setPmc z := rfl
@[simp] theorem State.setPmc_self (s : State) : s.setPmc s.pmc = s := rfl
@[simp] theorem State.setMatrix_setMatrix (s : State) (y z : Matrix) : (s.setMatrix y).setMatrix z = s.setMatrix z := rfl
@[simp] theorem State.setMatrix_self (s : State) : s.setMatrix s.matrix = s := rfl
@[simp] theorem State.setRstc_setRstc (s : State) (y z : Rstc) : (s.setRstc y).setRstc z = s.setRstc z := rfl
@[simp] theorem State.setRstc_self (s : State) : s.setRstc s.rstc = s := rfl
@[simp] theorem State.setSdramc_setSdramc (s : State) (y z : Sdramc) : (s.setSdramc y).setSdramc z = s.setSdramc z := rfl
@[simp] theorem State.setSdramc_self (s : State) : s.setSdramc s.sdramc = s := rfl
@[simp] theorem State.setSd_setSd (s : State) (y z : SdBus) : (s.setSd y).setSd z = s.setSd z := rfl
@[simp] theorem State.setSd_self (s : State) : s.setSd s.sd = s := rfl

end Sys2Proof.Machine
end

