-- ==== Sys2Proof/Laws/Memory.lean ====
section
/-! SUPPORT. Memory: read after write, the canonical form, and where the memory-backed regions lie. -/

namespace Sys2Proof.Machine

/-- Below the first address of a canonical memory every byte reads 0. -/
theorem Memory.read_below {lo a : Nat} {m : List Host.Cell} (h : Memory.wfFrom lo m = true) (ha : a < lo) :
    Memory.read m a = 0#8 := by
  cases m with
  | nil => rfl
  | cons c m =>
    obtain ⟨x, b⟩ := c
    simp only [Memory.wfFrom, Bool.and_eq_true, decide_eq_true_eq] at h
    have h1 : a ≠ x := by omega
    have h2 : a < x := by omega
    simp [Memory.read, h1, h2]

/-- A canonical memory stays canonical seen from any lower address. -/
theorem Memory.wfFrom_mono {lo lo' : Nat} {m : List Host.Cell} (h : Memory.wfFrom lo m = true) (hl : lo' ≤ lo) :
    Memory.wfFrom lo' m = true := by
  cases m with
  | nil => rfl
  | cons c m =>
    obtain ⟨x, b⟩ := c
    simp only [Memory.wfFrom, Bool.and_eq_true, decide_eq_true_eq] at h ⊢
    exact ⟨⟨by omega, h.1.2⟩, h.2⟩

/-- A write keeps the canonical form. -/
theorem Memory.wfFrom_write {lo a : Nat} {m : List Host.Cell} (v : Byte) (h : Memory.wfFrom lo m = true)
    (ha : lo ≤ a) : Memory.wfFrom lo (Memory.write m a v) = true := by
  induction m generalizing lo with
  | nil =>
    by_cases hv : v = 0#8 <;> simp [Memory.write, Memory.wfFrom, hv, ha]
  | cons c m ih =>
    obtain ⟨x, b⟩ := c
    have h' := h
    simp only [Memory.wfFrom, Bool.and_eq_true, decide_eq_true_eq] at h'
    obtain ⟨⟨h1, h2⟩, h3⟩ := h'
    by_cases hx : a = x
    · subst hx
      by_cases hv : v = 0#8
      · simpa [Memory.write, hv] using Memory.wfFrom_mono h3 (by omega)
      · simp [Memory.write, Memory.wfFrom, hv, h1, h3]
    · by_cases hlt : a < x
      · by_cases hv : v = 0#8
        · simpa [Memory.write, hx, hlt, hv] using h
        · simp [Memory.write, hx, hlt, hv, Memory.wfFrom, ha, h2, h3]
      · simp only [Memory.write, hx, hlt, if_false, Memory.wfFrom, Bool.and_eq_true, decide_eq_true_eq]
        exact ⟨⟨h1, h2⟩, ih h3 (by omega)⟩

/-- A write keeps the canonical form. -/
theorem Memory.wf_write {m : List Host.Cell} (a : Nat) (v : Byte) (h : Memory.wf m = true) :
    Memory.wf (Memory.write m a v) = true :=
  Memory.wfFrom_write v h (Nat.zero_le a)

/-- A read of the written address gives the value written. -/
theorem Memory.read_write_same {lo : Nat} {m : List Host.Cell} (a : Nat) (v : Byte)
    (h : Memory.wfFrom lo m = true) : Memory.read (Memory.write m a v) a = v := by
  induction m generalizing lo with
  | nil => by_cases hv : v = 0#8 <;> simp [Memory.write, Memory.read, hv]
  | cons c m ih =>
    obtain ⟨x, b⟩ := c
    simp only [Memory.wfFrom, Bool.and_eq_true, decide_eq_true_eq] at h
    by_cases hx : a = x
    · subst hx
      by_cases hv : v = 0#8
      · simpa [Memory.write, hv] using Memory.read_below h.2 (Nat.lt_succ_self a)
      · simp [Memory.write, hv, Memory.read]
    · by_cases hlt : a < x
      · by_cases hv : v = 0#8 <;> simp [Memory.write, hx, hlt, hv, Memory.read]
      · simpa [Memory.write, hx, hlt, Memory.read] using ih h.2

/-- A read of any other address gives what it gave before. -/
theorem Memory.read_write_ne {lo : Nat} {m : List Host.Cell} {a c : Nat} (v : Byte)
    (h : Memory.wfFrom lo m = true) (hne : c ≠ a) : Memory.read (Memory.write m a v) c = Memory.read m c := by
  induction m generalizing lo with
  | nil => by_cases hv : v = 0#8 <;> simp [Memory.write, Memory.read, hv, hne]
  | cons e m ih =>
    obtain ⟨x, b⟩ := e
    simp only [Memory.wfFrom, Bool.and_eq_true, decide_eq_true_eq] at h
    by_cases hx : a = x
    · subst hx
      by_cases hv : v = 0#8
      · by_cases hlt : c < a
        · simpa [Memory.write, hv, Memory.read, hne, hlt] using Memory.read_below h.2 (by omega)
        · simp [Memory.write, hv, Memory.read, hne, hlt]
      · simp [Memory.write, hv, Memory.read, hne]
    · by_cases hlt : a < x
      · by_cases hv : v = 0#8
        · simp [Memory.write, hx, hlt, hv]
        · by_cases hca : c < a
          · have h1 : c ≠ x := by omega
            have h2 : c < x := by omega
            simp [Memory.write, hx, hlt, hv, Memory.read, hne, hca, h1, h2]
          · simp [Memory.write, hx, hlt, hv, Memory.read, hne, hca]
      · by_cases hcx : c = x
        · simp [Memory.write, hx, hlt, Memory.read, hcx]
        · by_cases hcl : c < x
          · simp [Memory.write, hx, hlt, Memory.read, hcx, hcl]
          · simpa [Memory.write, hx, hlt, Memory.read, hcx, hcl] using ih h.2

/-- The memory of the machine as constructed is canonical. -/
theorem Memory.wf_reset : Memory.wf State.reset.mem = true := rfl

/-! ### Byte sequences -/

@[simp] theorem State.loadBytes_length (s : State) (p : Word) (n : Nat) : (s.loadBytes p n).length = n := by
  induction n generalizing p with
  | zero => rfl
  | succ n ih => simp [State.loadBytes, ih]

/-- `storeBytes` changes memory only. -/
theorem State.storeBytes_eq (s : State) (p : Word) (bs : List Byte) :
    s.storeBytes p bs = s.setMem (s.storeBytes p bs).mem := by
  induction bs generalizing s p with
  | nil => rfl
  | cons b bs ih => rw [State.storeBytes, ih]; rfl

/-- `storeBytes` keeps the canonical form. -/
theorem State.storeBytes_wf {s : State} (p : Word) (bs : List Byte) (h : Memory.wf s.mem = true) :
    Memory.wf (s.storeBytes p bs).mem = true := by
  induction bs generalizing s p with
  | nil => exact h
  | cons b bs ih => exact ih _ (Memory.wf_write _ _ h)

/-- `storeBytes` leaves every byte alone that is not one of those stored to. -/
theorem State.storeBytes_other {s : State} (p : Word) (bs : List Byte) (h : Memory.wf s.mem = true) (a : Nat)
    (ha : ∀ k, k < bs.length → (s.redirect (p + BitVec.ofNat 32 k)).toNat ≠ a) :
    Memory.read (s.storeBytes p bs).mem a = Memory.read s.mem a := by
  induction bs generalizing s p with
  | nil => rfl
  | cons b bs ih =>
    have h0 : a ≠ (s.redirect p).toNat := by
      have := ha 0 (by simp)
      simpa using this.symm
    have hstep : Memory.read (s.storeBytes p (b :: bs)).mem a
        = Memory.read (Memory.write s.mem (s.redirect p).toNat b) a := by
      rw [State.storeBytes]
      refine ih (s := s.setMem (Memory.write s.mem (s.redirect p).toNat b)) (p + 1#32) (Memory.wf_write _ _ h) ?_
      intro k hk
      have := ha (k + 1) (by simpa using hk)
      have e : p + 1#32 + BitVec.ofNat 32 k = p + BitVec.ofNat 32 (k + 1) := by
        rw [BitVec.add_assoc]; congr 1
        apply BitVec.eq_of_toNat_eq; simp [Nat.add_comm]
      rw [e]; exact this
    rw [hstep, Memory.read_write_ne b h h0]

@[simp] theorem State.storeBytes_fault (s : State) (p : Word) (bs : List Byte) :
    (s.storeBytes p bs).fault = s.fault := by rw [State.storeBytes_eq]; rfl

@[simp] theorem State.storeBytes_bootTarget (s : State) (p : Word) (bs : List Byte) :
    (s.storeBytes p bs).bootTarget = s.bootTarget := by rw [State.storeBytes_eq]; rfl

/-! ### The memory-backed regions -/

/-- A region that does not hold the address is passed over (R86). -/
theorem regionIn_skip {a : Nat} {r : Region} (rs : List Region) (h : a < r.base ∨ r.base + r.size ≤ a) :
    regionIn a (r :: rs) = regionIn a rs := by
  have : r.holds a = false := by simp [Region.holds]; omega
  simp [regionIn, this]

/-- A region that holds the address is its region (R86). -/
theorem regionIn_found {a : Nat} {r : Region} (rs : List Region) (h1 : r.base ≤ a) (h2 : a < r.base + r.size) :
    regionIn a (r :: rs) = some r := by simp [regionIn, Region.holds, h1, h2]

/-- ROM (R86). -/
theorem memoryAt_rom (z : MemSizes) {a : Word} (h1 : 0x00100000 ≤ a.toNat) (h2 : a.toNat < 0x00108000) :
    memoryAt z a = some .rom := by
  unfold memoryAt regionOf regionMap
  rw [regionIn_skip _ (by simp; omega), regionIn_found _ (by simp; omega) (by simp; omega)]

/-- SRAM0 (R86). -/
theorem memoryAt_sram0 (z : MemSizes) {a : Word} (h1 : 0x00200000 ≤ a.toNat) (h2 : a.toNat < 0x00204000) :
    memoryAt z a = some .sram0 := by
  unfold memoryAt regionOf regionMap
  iterate 2 rw [regionIn_skip _ (by simp; omega)]
  rw [regionIn_found _ (by simp; omega) (by simp; omega)]

/-- SRAM1 (R86). -/
theorem memoryAt_sram1 (z : MemSizes) {a : Word} (h1 : 0x00300000 ≤ a.toNat) (h2 : a.toNat < 0x00304000) :
    memoryAt z a = some .sram1 := by
  unfold memoryAt regionOf regionMap
  iterate 3 rw [regionIn_skip _ (by simp; omega)]
  rw [regionIn_found _ (by simp; omega) (by simp; omega)]

/-- NOR, whatever its size (R86). -/
theorem memoryAt_nor {z : MemSizes} {a : Word} (h1 : 0x10000000 ≤ a.toNat) (h2 : a.toNat < 0x10000000 + z.nor) :
    memoryAt z a = some .nor := by
  unfold memoryAt regionOf regionMap
  iterate 5 rw [regionIn_skip _ (by simp; omega)]
  rw [regionIn_found _ (by simp; omega) (by simp; omega)]

/-- SDRAM, where NOR does not reach it (R83, R86). -/
theorem memoryAt_sdram {z : MemSizes} {a : Word} (hz : z.nor ≤ 0x10000000) (h1 : 0x20000000 ≤ a.toNat)
    (h2 : a.toNat < 0x20000000 + z.sdram) : memoryAt z a = some .sdram := by
  unfold memoryAt regionOf regionMap
  iterate 6 rw [regionIn_skip _ (by simp; omega)]
  rw [regionIn_found _ (by simp; omega) (by simp; omega)]

/-- Between NOR and SDRAM there is no memory (R86, R87). -/
theorem memoryAt_past_nor {z : MemSizes} {a : Word} (h1 : 0x10000000 + z.nor ≤ a.toNat)
    (h2 : a.toNat < 0x20000000) : memoryAt z a = none := by
  unfold memoryAt regionOf regionMap
  repeat rw [regionIn_skip _ (by simp; omega)]
  rfl

/-- Between SDRAM and the first register window there is no memory (R86, R87). -/
theorem memoryAt_past_sdram {z : MemSizes} {a : Word} (hz : z.nor ≤ 0x10000000)
    (h1 : 0x20000000 + z.sdram ≤ a.toNat) (h2 : a.toNat < 0xFFFA0000) : memoryAt z a = none := by
  unfold memoryAt regionOf regionMap
  repeat rw [regionIn_skip _ (by simp; omega)]
  rfl

end Sys2Proof.Machine
end

