-- ==== Sys2Proof/Laws/Ops.lean ====
section
/-! SUPPORT. What each shared operation can change: an equation that names the components it may write, and from it one
lemma per component it leaves alone. -/

namespace Sys2Proof.Machine

/-! ### Interrupt lines -/

/-- A line change writes the AIC only (R222). -/
theorem driveLine_frame (n : Fin 32) (b : Bool) (s : State) : driveLine n b s = s.setAic (driveLine n b s).aic := by
  unfold driveLine; split <;> rfl

/-- After a line change the line has its new level (R222). -/
theorem driveLine_line (n : Fin 32) (b : Bool) (s : State) : bit (driveLine n b s).aic.line n.val = b := by
  unfold driveLine
  split
  · assumption
  · have hn : n.val < 32 := n.isLt
    cases b <;> simp [aicChange, Aic.update, bit, putBit, hn]

/-- A stub input change writes the stub and the AIC only (R224). -/
theorem driveStub_frame (k : Fin 32) (b : Bool) (s : State) :
    driveStub k b s = (s.setStubIn (driveStub k b s).stubIn).setAic (driveStub k b s).aic := by
  unfold driveStub driveLine; dsimp only; split <;> rfl

/-- After a stub input change the input has its new level (R224). -/
theorem driveStub_stubIn (k : Fin 32) (b : Bool) (s : State) :
    (driveStub k b s).stubIn = putBit s.stubIn k.val b := by
  unfold driveStub; rw [driveLine_frame]; rfl

/-- Line 1 is the OR of the stub inputs (R224). -/
theorem driveStub_line (k : Fin 32) (b : Bool) (s : State) :
    bit (driveStub k b s).aic.line 1 = decide (putBit s.stubIn k.val b ≠ 0#32) := by
  unfold driveStub; exact driveLine_line 1 _ _

@[simp] theorem driveLine_params (n : Fin 32) (b : Bool) (s : State) : (driveLine n b s).params = s.params := by
  rw [driveLine_frame]; rfl
@[simp] theorem driveLine_inputs (n : Fin 32) (b : Bool) (s : State) : (driveLine n b s).inputs = s.inputs := by
  rw [driveLine_frame]; rfl
@[simp] theorem driveLine_rdata (n : Fin 32) (b : Bool) (s : State) : (driveLine n b s).rdata = s.rdata := by
  rw [driveLine_frame]; rfl
@[simp] theorem driveLine_fault (n : Fin 32) (b : Bool) (s : State) : (driveLine n b s).fault = s.fault := by
  rw [driveLine_frame]; rfl
@[simp] theorem driveLine_mem (n : Fin 32) (b : Bool) (s : State) : (driveLine n b s).mem = s.mem := by
  rw [driveLine_frame]; rfl
@[simp] theorem driveLine_bootTarget (n : Fin 32) (b : Bool) (s : State) : (driveLine n b s).bootTarget = s.bootTarget := by
  rw [driveLine_frame]; rfl
@[simp] theorem driveLine_stubIn (n : Fin 32) (b : Bool) (s : State) : (driveLine n b s).stubIn = s.stubIn := by
  rw [driveLine_frame]; rfl
@[simp] theorem driveLine_pdcs (n : Fin 32) (b : Bool) (s : State) : (driveLine n b s).pdcs = s.pdcs := by
  rw [driveLine_frame]; rfl
@[simp] theorem driveLine_pdc (n : Fin 32) (b : Bool) (s : State) (j : PdcHost) : (driveLine n b s).pdc j = s.pdc j := by
  rw [driveLine_frame]; rfl
@[simp] theorem driveLine_usarts (n : Fin 32) (b : Bool) (s : State) : (driveLine n b s).usarts = s.usarts := by
  rw [driveLine_frame]; rfl
@[simp] theorem driveLine_usart (n : Fin 32) (b : Bool) (s : State) (j : Fin 6) : (driveLine n b s).usart j = s.usart j := by
  rw [driveLine_frame]; rfl
@[simp] theorem driveLine_spis (n : Fin 32) (b : Bool) (s : State) : (driveLine n b s).spis = s.spis := by
  rw [driveLine_frame]; rfl
@[simp] theorem driveLine_spi (n : Fin 32) (b : Bool) (s : State) (j : Fin 2) : (driveLine n b s).spi j = s.spi j := by
  rw [driveLine_frame]; rfl
@[simp] theorem driveLine_twi (n : Fin 32) (b : Bool) (s : State) : (driveLine n b s).twi = s.twi := by
  rw [driveLine_frame]; rfl
@[simp] theorem driveLine_mci (n : Fin 32) (b : Bool) (s : State) : (driveLine n b s).mci = s.mci := by
  rw [driveLine_frame]; rfl
@[simp] theorem driveLine_tcs (n : Fin 32) (b : Bool) (s : State) : (driveLine n b s).tcs = s.tcs := by
  rw [driveLine_frame]; rfl
@[simp] theorem driveLine_tc (n : Fin 32) (b : Bool) (s : State) (j : Fin 6) : (driveLine n b s).tc j = s.tc j := by
  rw [driveLine_frame]; rfl
@[simp] theorem driveLine_tcBmr (n : Fin 32) (b : Bool) (s : State) : (driveLine n b s).tcBmr = s.tcBmr := by
  rw [driveLine_frame]; rfl
@[simp] theorem driveLine_bmr (n : Fin 32) (b : Bool) (s : State) (j : Fin 2) : (driveLine n b s).bmr j = s.bmr j := by
  rw [driveLine_frame]; rfl
@[simp] theorem driveLine_pit (n : Fin 32) (b : Bool) (s : State) : (driveLine n b s).pit = s.pit := by
  rw [driveLine_frame]; rfl
@[simp] theorem driveLine_rtt (n : Fin 32) (b : Bool) (s : State) : (driveLine n b s).rtt = s.rtt := by
  rw [driveLine_frame]; rfl
@[simp] theorem driveLine_dbgu (n : Fin 32) (b : Bool) (s : State) : (driveLine n b s).dbgu = s.dbgu := by
  rw [driveLine_frame]; rfl
@[simp] theorem driveLine_consoleOut (n : Fin 32) (b : Bool) (s : State) : (driveLine n b s).consoleOut = s.consoleOut := by
  rw [driveLine_frame]; rfl
@[simp] theorem driveLine_pios (n : Fin 32) (b : Bool) (s : State) : (driveLine n b s).pios = s.pios := by
  rw [driveLine_frame]; rfl
@[simp] theorem driveLine_pio (n : Fin 32) (b : Bool) (s : State) (j : Fin 3) : (driveLine n b s).pio j = s.pio j := by
  rw [driveLine_frame]; rfl
@[simp] theorem driveLine_pmc (n : Fin 32) (b : Bool) (s : State) : (driveLine n b s).pmc = s.pmc := by
  rw [driveLine_frame]; rfl
@[simp] theorem driveLine_matrix (n : Fin 32) (b : Bool) (s : State) : (driveLine n b s).matrix = s.matrix := by
  rw [driveLine_frame]; rfl
@[simp] theorem driveLine_rstc (n : Fin 32) (b : Bool) (s : State) : (driveLine n b s).rstc = s.rstc := by
  rw [driveLine_frame]; rfl
@[simp] theorem driveLine_sdramc (n : Fin 32) (b : Bool) (s : State) : (driveLine n b s).sdramc = s.sdramc := by
  rw [driveLine_frame]; rfl
@[simp] theorem driveLine_links (n : Fin 32) (b : Bool) (s : State) : (driveLine n b s).links = s.links := by
  rw [driveLine_frame]; rfl
@[simp] theorem driveLine_link (n : Fin 32) (b : Bool) (s : State) (j : LinkId) : (driveLine n b s).link j = s.link j := by
  rw [driveLine_frame]; rfl
@[simp] theorem driveLine_sd (n : Fin 32) (b : Bool) (s : State) : (driveLine n b s).sd = s.sd := by
  rw [driveLine_frame]; rfl

@[simp] theorem driveStub_params (k : Fin 32) (b : Bool) (s : State) : (driveStub k b s).params = s.params := by
  rw [driveStub_frame]; rfl
@[simp] theorem driveStub_inputs (k : Fin 32) (b : Bool) (s : State) : (driveStub k b s).inputs = s.inputs := by
  rw [driveStub_frame]; rfl
@[simp] theorem driveStub_rdata (k : Fin 32) (b : Bool) (s : State) : (driveStub k b s).rdata = s.rdata := by
  rw [driveStub_frame]; rfl
@[simp] theorem driveStub_fault (k : Fin 32) (b : Bool) (s : State) : (driveStub k b s).fault = s.fault := by
  rw [driveStub_frame]; rfl
@[simp] theorem driveStub_mem (k : Fin 32) (b : Bool) (s : State) : (driveStub k b s).mem = s.mem := by
  rw [driveStub_frame]; rfl
@[simp] theorem driveStub_bootTarget (k : Fin 32) (b : Bool) (s : State) : (driveStub k b s).bootTarget = s.bootTarget := by
  rw [driveStub_frame]; rfl
@[simp] theorem driveStub_pdcs (k : Fin 32) (b : Bool) (s : State) : (driveStub k b s).pdcs = s.pdcs := by
  rw [driveStub_frame]; rfl
@[simp] theorem driveStub_pdc (k : Fin 32) (b : Bool) (s : State) (j : PdcHost) : (driveStub k b s).pdc j = s.pdc j := by
  rw [driveStub_frame]; rfl
@[simp] theorem driveStub_usarts (k : Fin 32) (b : Bool) (s : State) : (driveStub k b s).usarts = s.usarts := by
  rw [driveStub_frame]; rfl
@[simp] theorem driveStub_usart (k : Fin 32) (b : Bool) (s : State) (j : Fin 6) : (driveStub k b s).usart j = s.usart j := by
  rw [driveStub_frame]; rfl
@[simp] theorem driveStub_spis (k : Fin 32) (b : Bool) (s : State) : (driveStub k b s).spis = s.spis := by
  rw [driveStub_frame]; rfl
@[simp] theorem driveStub_spi (k : Fin 32) (b : Bool) (s : State) (j : Fin 2) : (driveStub k b s).spi j = s.spi j := by
  rw [driveStub_frame]; rfl
@[simp] theorem driveStub_twi (k : Fin 32) (b : Bool) (s : State) : (driveStub k b s).twi = s.twi := by
  rw [driveStub_frame]; rfl
@[simp] theorem driveStub_mci (k : Fin 32) (b : Bool) (s : State) : (driveStub k b s).mci = s.mci := by
  rw [driveStub_frame]; rfl
@[simp] theorem driveStub_tcs (k : Fin 32) (b : Bool) (s : State) : (driveStub k b s).tcs = s.tcs := by
  rw [driveStub_frame]; rfl
@[simp] theorem driveStub_tc (k : Fin 32) (b : Bool) (s : State) (j : Fin 6) : (driveStub k b s).tc j = s.tc j := by
  rw [driveStub_frame]; rfl
@[simp] theorem driveStub_tcBmr (k : Fin 32) (b : Bool) (s : State) : (driveStub k b s).tcBmr = s.tcBmr := by
  rw [driveStub_frame]; rfl
@[simp] theorem driveStub_bmr (k : Fin 32) (b : Bool) (s : State) (j : Fin 2) : (driveStub k b s).bmr j = s.bmr j := by
  rw [driveStub_frame]; rfl
@[simp] theorem driveStub_pit (k : Fin 32) (b : Bool) (s : State) : (driveStub k b s).pit = s.pit := by
  rw [driveStub_frame]; rfl
@[simp] theorem driveStub_rtt (k : Fin 32) (b : Bool) (s : State) : (driveStub k b s).rtt = s.rtt := by
  rw [driveStub_frame]; rfl
@[simp] theorem driveStub_dbgu (k : Fin 32) (b : Bool) (s : State) : (driveStub k b s).dbgu = s.dbgu := by
  rw [driveStub_frame]; rfl
@[simp] theorem driveStub_consoleOut (k : Fin 32) (b : Bool) (s : State) : (driveStub k b s).consoleOut = s.consoleOut := by
  rw [driveStub_frame]; rfl
@[simp] theorem driveStub_pios (k : Fin 32) (b : Bool) (s : State) : (driveStub k b s).pios = s.pios := by
  rw [driveStub_frame]; rfl
@[simp] theorem driveStub_pio (k : Fin 32) (b : Bool) (s : State) (j : Fin 3) : (driveStub k b s).pio j = s.pio j := by
  rw [driveStub_frame]; rfl
@[simp] theorem driveStub_pmc (k : Fin 32) (b : Bool) (s : State) : (driveStub k b s).pmc = s.pmc := by
  rw [driveStub_frame]; rfl
@[simp] theorem driveStub_matrix (k : Fin 32) (b : Bool) (s : State) : (driveStub k b s).matrix = s.matrix := by
  rw [driveStub_frame]; rfl
@[simp] theorem driveStub_rstc (k : Fin 32) (b : Bool) (s : State) : (driveStub k b s).rstc = s.rstc := by
  rw [driveStub_frame]; rfl
@[simp] theorem driveStub_sdramc (k : Fin 32) (b : Bool) (s : State) : (driveStub k b s).sdramc = s.sdramc := by
  rw [driveStub_frame]; rfl
@[simp] theorem driveStub_links (k : Fin 32) (b : Bool) (s : State) : (driveStub k b s).links = s.links := by
  rw [driveStub_frame]; rfl
@[simp] theorem driveStub_link (k : Fin 32) (b : Bool) (s : State) (j : LinkId) : (driveStub k b s).link j = s.link j := by
  rw [driveStub_frame]; rfl
@[simp] theorem driveStub_sd (k : Fin 32) (b : Bool) (s : State) : (driveStub k b s).sd = s.sd := by
  rw [driveStub_frame]; rfl

/-! ### Interrupt outputs -/

/-- The interrupt output writes nothing but the path to the AIC (R778). -/
theorem usartUpdateIrq_frame (u : Fin 6) (s : State) : usartUpdateIrq u s = s.setAic (usartUpdateIrq u s).aic := driveLine_frame _ _ _

@[simp] theorem usartUpdateIrq_params (u : Fin 6) (s : State) : (usartUpdateIrq u s).params = s.params := by
  rw [usartUpdateIrq_frame]; rfl
@[simp] theorem usartUpdateIrq_inputs (u : Fin 6) (s : State) : (usartUpdateIrq u s).inputs = s.inputs := by
  rw [usartUpdateIrq_frame]; rfl
@[simp] theorem usartUpdateIrq_rdata (u : Fin 6) (s : State) : (usartUpdateIrq u s).rdata = s.rdata := by
  rw [usartUpdateIrq_frame]; rfl
@[simp] theorem usartUpdateIrq_fault (u : Fin 6) (s : State) : (usartUpdateIrq u s).fault = s.fault := by
  rw [usartUpdateIrq_frame]; rfl
@[simp] theorem usartUpdateIrq_mem (u : Fin 6) (s : State) : (usartUpdateIrq u s).mem = s.mem := by
  rw [usartUpdateIrq_frame]; rfl
@[simp] theorem usartUpdateIrq_bootTarget (u : Fin 6) (s : State) : (usartUpdateIrq u s).bootTarget = s.bootTarget := by
  rw [usartUpdateIrq_frame]; rfl
@[simp] theorem usartUpdateIrq_stubIn (u : Fin 6) (s : State) : (usartUpdateIrq u s).stubIn = s.stubIn := by
  rw [usartUpdateIrq_frame]; rfl
@[simp] theorem usartUpdateIrq_pdcs (u : Fin 6) (s : State) : (usartUpdateIrq u s).pdcs = s.pdcs := by
  rw [usartUpdateIrq_frame]; rfl
@[simp] theorem usartUpdateIrq_pdc (u : Fin 6) (s : State) (j : PdcHost) : (usartUpdateIrq u s).pdc j = s.pdc j := by
  rw [usartUpdateIrq_frame]; rfl
@[simp] theorem usartUpdateIrq_usarts (u : Fin 6) (s : State) : (usartUpdateIrq u s).usarts = s.usarts := by
  rw [usartUpdateIrq_frame]; rfl
@[simp] theorem usartUpdateIrq_usart (u : Fin 6) (s : State) (j : Fin 6) : (usartUpdateIrq u s).usart j = s.usart j := by
  rw [usartUpdateIrq_frame]; rfl
@[simp] theorem usartUpdateIrq_spis (u : Fin 6) (s : State) : (usartUpdateIrq u s).spis = s.spis := by
  rw [usartUpdateIrq_frame]; rfl
@[simp] theorem usartUpdateIrq_spi (u : Fin 6) (s : State) (j : Fin 2) : (usartUpdateIrq u s).spi j = s.spi j := by
  rw [usartUpdateIrq_frame]; rfl
@[simp] theorem usartUpdateIrq_twi (u : Fin 6) (s : State) : (usartUpdateIrq u s).twi = s.twi := by
  rw [usartUpdateIrq_frame]; rfl
@[simp] theorem usartUpdateIrq_mci (u : Fin 6) (s : State) : (usartUpdateIrq u s).mci = s.mci := by
  rw [usartUpdateIrq_frame]; rfl
@[simp] theorem usartUpdateIrq_tcs (u : Fin 6) (s : State) : (usartUpdateIrq u s).tcs = s.tcs := by
  rw [usartUpdateIrq_frame]; rfl
@[simp] theorem usartUpdateIrq_tc (u : Fin 6) (s : State) (j : Fin 6) : (usartUpdateIrq u s).tc j = s.tc j := by
  rw [usartUpdateIrq_frame]; rfl
@[simp] theorem usartUpdateIrq_tcBmr (u : Fin 6) (s : State) : (usartUpdateIrq u s).tcBmr = s.tcBmr := by
  rw [usartUpdateIrq_frame]; rfl
@[simp] theorem usartUpdateIrq_bmr (u : Fin 6) (s : State) (j : Fin 2) : (usartUpdateIrq u s).bmr j = s.bmr j := by
  rw [usartUpdateIrq_frame]; rfl
@[simp] theorem usartUpdateIrq_pit (u : Fin 6) (s : State) : (usartUpdateIrq u s).pit = s.pit := by
  rw [usartUpdateIrq_frame]; rfl
@[simp] theorem usartUpdateIrq_rtt (u : Fin 6) (s : State) : (usartUpdateIrq u s).rtt = s.rtt := by
  rw [usartUpdateIrq_frame]; rfl
@[simp] theorem usartUpdateIrq_dbgu (u : Fin 6) (s : State) : (usartUpdateIrq u s).dbgu = s.dbgu := by
  rw [usartUpdateIrq_frame]; rfl
@[simp] theorem usartUpdateIrq_consoleOut (u : Fin 6) (s : State) : (usartUpdateIrq u s).consoleOut = s.consoleOut := by
  rw [usartUpdateIrq_frame]; rfl
@[simp] theorem usartUpdateIrq_pios (u : Fin 6) (s : State) : (usartUpdateIrq u s).pios = s.pios := by
  rw [usartUpdateIrq_frame]; rfl
@[simp] theorem usartUpdateIrq_pio (u : Fin 6) (s : State) (j : Fin 3) : (usartUpdateIrq u s).pio j = s.pio j := by
  rw [usartUpdateIrq_frame]; rfl
@[simp] theorem usartUpdateIrq_pmc (u : Fin 6) (s : State) : (usartUpdateIrq u s).pmc = s.pmc := by
  rw [usartUpdateIrq_frame]; rfl
@[simp] theorem usartUpdateIrq_matrix (u : Fin 6) (s : State) : (usartUpdateIrq u s).matrix = s.matrix := by
  rw [usartUpdateIrq_frame]; rfl
@[simp] theorem usartUpdateIrq_rstc (u : Fin 6) (s : State) : (usartUpdateIrq u s).rstc = s.rstc := by
  rw [usartUpdateIrq_frame]; rfl
@[simp] theorem usartUpdateIrq_sdramc (u : Fin 6) (s : State) : (usartUpdateIrq u s).sdramc = s.sdramc := by
  rw [usartUpdateIrq_frame]; rfl
@[simp] theorem usartUpdateIrq_links (u : Fin 6) (s : State) : (usartUpdateIrq u s).links = s.links := by
  rw [usartUpdateIrq_frame]; rfl
@[simp] theorem usartUpdateIrq_link (u : Fin 6) (s : State) (j : LinkId) : (usartUpdateIrq u s).link j = s.link j := by
  rw [usartUpdateIrq_frame]; rfl
@[simp] theorem usartUpdateIrq_sd (u : Fin 6) (s : State) : (usartUpdateIrq u s).sd = s.sd := by
  rw [usartUpdateIrq_frame]; rfl

/-- The interrupt output writes nothing but the path to the AIC (R778). -/
theorem spiUpdateIrq_frame (u : Fin 2) (s : State) : spiUpdateIrq u s = s.setAic (spiUpdateIrq u s).aic := driveLine_frame _ _ _

@[simp] theorem spiUpdateIrq_params (u : Fin 2) (s : State) : (spiUpdateIrq u s).params = s.params := by
  rw [spiUpdateIrq_frame]; rfl
@[simp] theorem spiUpdateIrq_inputs (u : Fin 2) (s : State) : (spiUpdateIrq u s).inputs = s.inputs := by
  rw [spiUpdateIrq_frame]; rfl
@[simp] theorem spiUpdateIrq_rdata (u : Fin 2) (s : State) : (spiUpdateIrq u s).rdata = s.rdata := by
  rw [spiUpdateIrq_frame]; rfl
@[simp] theorem spiUpdateIrq_fault (u : Fin 2) (s : State) : (spiUpdateIrq u s).fault = s.fault := by
  rw [spiUpdateIrq_frame]; rfl
@[simp] theorem spiUpdateIrq_mem (u : Fin 2) (s : State) : (spiUpdateIrq u s).mem = s.mem := by
  rw [spiUpdateIrq_frame]; rfl
@[simp] theorem spiUpdateIrq_bootTarget (u : Fin 2) (s : State) : (spiUpdateIrq u s).bootTarget = s.bootTarget := by
  rw [spiUpdateIrq_frame]; rfl
@[simp] theorem spiUpdateIrq_stubIn (u : Fin 2) (s : State) : (spiUpdateIrq u s).stubIn = s.stubIn := by
  rw [spiUpdateIrq_frame]; rfl
@[simp] theorem spiUpdateIrq_pdcs (u : Fin 2) (s : State) : (spiUpdateIrq u s).pdcs = s.pdcs := by
  rw [spiUpdateIrq_frame]; rfl
@[simp] theorem spiUpdateIrq_pdc (u : Fin 2) (s : State) (j : PdcHost) : (spiUpdateIrq u s).pdc j = s.pdc j := by
  rw [spiUpdateIrq_frame]; rfl
@[simp] theorem spiUpdateIrq_usarts (u : Fin 2) (s : State) : (spiUpdateIrq u s).usarts = s.usarts := by
  rw [spiUpdateIrq_frame]; rfl
@[simp] theorem spiUpdateIrq_usart (u : Fin 2) (s : State) (j : Fin 6) : (spiUpdateIrq u s).usart j = s.usart j := by
  rw [spiUpdateIrq_frame]; rfl
@[simp] theorem spiUpdateIrq_spis (u : Fin 2) (s : State) : (spiUpdateIrq u s).spis = s.spis := by
  rw [spiUpdateIrq_frame]; rfl
@[simp] theorem spiUpdateIrq_spi (u : Fin 2) (s : State) (j : Fin 2) : (spiUpdateIrq u s).spi j = s.spi j := by
  rw [spiUpdateIrq_frame]; rfl
@[simp] theorem spiUpdateIrq_twi (u : Fin 2) (s : State) : (spiUpdateIrq u s).twi = s.twi := by
  rw [spiUpdateIrq_frame]; rfl
@[simp] theorem spiUpdateIrq_mci (u : Fin 2) (s : State) : (spiUpdateIrq u s).mci = s.mci := by
  rw [spiUpdateIrq_frame]; rfl
@[simp] theorem spiUpdateIrq_tcs (u : Fin 2) (s : State) : (spiUpdateIrq u s).tcs = s.tcs := by
  rw [spiUpdateIrq_frame]; rfl
@[simp] theorem spiUpdateIrq_tc (u : Fin 2) (s : State) (j : Fin 6) : (spiUpdateIrq u s).tc j = s.tc j := by
  rw [spiUpdateIrq_frame]; rfl
@[simp] theorem spiUpdateIrq_tcBmr (u : Fin 2) (s : State) : (spiUpdateIrq u s).tcBmr = s.tcBmr := by
  rw [spiUpdateIrq_frame]; rfl
@[simp] theorem spiUpdateIrq_bmr (u : Fin 2) (s : State) (j : Fin 2) : (spiUpdateIrq u s).bmr j = s.bmr j := by
  rw [spiUpdateIrq_frame]; rfl
@[simp] theorem spiUpdateIrq_pit (u : Fin 2) (s : State) : (spiUpdateIrq u s).pit = s.pit := by
  rw [spiUpdateIrq_frame]; rfl
@[simp] theorem spiUpdateIrq_rtt (u : Fin 2) (s : State) : (spiUpdateIrq u s).rtt = s.rtt := by
  rw [spiUpdateIrq_frame]; rfl
@[simp] theorem spiUpdateIrq_dbgu (u : Fin 2) (s : State) : (spiUpdateIrq u s).dbgu = s.dbgu := by
  rw [spiUpdateIrq_frame]; rfl
@[simp] theorem spiUpdateIrq_consoleOut (u : Fin 2) (s : State) : (spiUpdateIrq u s).consoleOut = s.consoleOut := by
  rw [spiUpdateIrq_frame]; rfl
@[simp] theorem spiUpdateIrq_pios (u : Fin 2) (s : State) : (spiUpdateIrq u s).pios = s.pios := by
  rw [spiUpdateIrq_frame]; rfl
@[simp] theorem spiUpdateIrq_pio (u : Fin 2) (s : State) (j : Fin 3) : (spiUpdateIrq u s).pio j = s.pio j := by
  rw [spiUpdateIrq_frame]; rfl
@[simp] theorem spiUpdateIrq_pmc (u : Fin 2) (s : State) : (spiUpdateIrq u s).pmc = s.pmc := by
  rw [spiUpdateIrq_frame]; rfl
@[simp] theorem spiUpdateIrq_matrix (u : Fin 2) (s : State) : (spiUpdateIrq u s).matrix = s.matrix := by
  rw [spiUpdateIrq_frame]; rfl
@[simp] theorem spiUpdateIrq_rstc (u : Fin 2) (s : State) : (spiUpdateIrq u s).rstc = s.rstc := by
  rw [spiUpdateIrq_frame]; rfl
@[simp] theorem spiUpdateIrq_sdramc (u : Fin 2) (s : State) : (spiUpdateIrq u s).sdramc = s.sdramc := by
  rw [spiUpdateIrq_frame]; rfl
@[simp] theorem spiUpdateIrq_links (u : Fin 2) (s : State) : (spiUpdateIrq u s).links = s.links := by
  rw [spiUpdateIrq_frame]; rfl
@[simp] theorem spiUpdateIrq_link (u : Fin 2) (s : State) (j : LinkId) : (spiUpdateIrq u s).link j = s.link j := by
  rw [spiUpdateIrq_frame]; rfl
@[simp] theorem spiUpdateIrq_sd (u : Fin 2) (s : State) : (spiUpdateIrq u s).sd = s.sd := by
  rw [spiUpdateIrq_frame]; rfl

/-- The interrupt output writes nothing but the path to the AIC (R778). -/
theorem twiUpdateIrq_frame (s : State) : twiUpdateIrq s = s.setAic (twiUpdateIrq s).aic := driveLine_frame _ _ _

@[simp] theorem twiUpdateIrq_params (s : State) : (twiUpdateIrq s).params = s.params := by
  rw [twiUpdateIrq_frame]; rfl
@[simp] theorem twiUpdateIrq_inputs (s : State) : (twiUpdateIrq s).inputs = s.inputs := by
  rw [twiUpdateIrq_frame]; rfl
@[simp] theorem twiUpdateIrq_rdata (s : State) : (twiUpdateIrq s).rdata = s.rdata := by
  rw [twiUpdateIrq_frame]; rfl
@[simp] theorem twiUpdateIrq_fault (s : State) : (twiUpdateIrq s).fault = s.fault := by
  rw [twiUpdateIrq_frame]; rfl
@[simp] theorem twiUpdateIrq_mem (s : State) : (twiUpdateIrq s).mem = s.mem := by
  rw [twiUpdateIrq_frame]; rfl
@[simp] theorem twiUpdateIrq_bootTarget (s : State) : (twiUpdateIrq s).bootTarget = s.bootTarget := by
  rw [twiUpdateIrq_frame]; rfl
@[simp] theorem twiUpdateIrq_stubIn (s : State) : (twiUpdateIrq s).stubIn = s.stubIn := by
  rw [twiUpdateIrq_frame]; rfl
@[simp] theorem twiUpdateIrq_pdcs (s : State) : (twiUpdateIrq s).pdcs = s.pdcs := by
  rw [twiUpdateIrq_frame]; rfl
@[simp] theorem twiUpdateIrq_pdc (s : State) (j : PdcHost) : (twiUpdateIrq s).pdc j = s.pdc j := by
  rw [twiUpdateIrq_frame]; rfl
@[simp] theorem twiUpdateIrq_usarts (s : State) : (twiUpdateIrq s).usarts = s.usarts := by
  rw [twiUpdateIrq_frame]; rfl
@[simp] theorem twiUpdateIrq_usart (s : State) (j : Fin 6) : (twiUpdateIrq s).usart j = s.usart j := by
  rw [twiUpdateIrq_frame]; rfl
@[simp] theorem twiUpdateIrq_spis (s : State) : (twiUpdateIrq s).spis = s.spis := by
  rw [twiUpdateIrq_frame]; rfl
@[simp] theorem twiUpdateIrq_spi (s : State) (j : Fin 2) : (twiUpdateIrq s).spi j = s.spi j := by
  rw [twiUpdateIrq_frame]; rfl
@[simp] theorem twiUpdateIrq_twi (s : State) : (twiUpdateIrq s).twi = s.twi := by
  rw [twiUpdateIrq_frame]; rfl
@[simp] theorem twiUpdateIrq_mci (s : State) : (twiUpdateIrq s).mci = s.mci := by
  rw [twiUpdateIrq_frame]; rfl
@[simp] theorem twiUpdateIrq_tcs (s : State) : (twiUpdateIrq s).tcs = s.tcs := by
  rw [twiUpdateIrq_frame]; rfl
@[simp] theorem twiUpdateIrq_tc (s : State) (j : Fin 6) : (twiUpdateIrq s).tc j = s.tc j := by
  rw [twiUpdateIrq_frame]; rfl
@[simp] theorem twiUpdateIrq_tcBmr (s : State) : (twiUpdateIrq s).tcBmr = s.tcBmr := by
  rw [twiUpdateIrq_frame]; rfl
@[simp] theorem twiUpdateIrq_bmr (s : State) (j : Fin 2) : (twiUpdateIrq s).bmr j = s.bmr j := by
  rw [twiUpdateIrq_frame]; rfl
@[simp] theorem twiUpdateIrq_pit (s : State) : (twiUpdateIrq s).pit = s.pit := by
  rw [twiUpdateIrq_frame]; rfl
@[simp] theorem twiUpdateIrq_rtt (s : State) : (twiUpdateIrq s).rtt = s.rtt := by
  rw [twiUpdateIrq_frame]; rfl
@[simp] theorem twiUpdateIrq_dbgu (s : State) : (twiUpdateIrq s).dbgu = s.dbgu := by
  rw [twiUpdateIrq_frame]; rfl
@[simp] theorem twiUpdateIrq_consoleOut (s : State) : (twiUpdateIrq s).consoleOut = s.consoleOut := by
  rw [twiUpdateIrq_frame]; rfl
@[simp] theorem twiUpdateIrq_pios (s : State) : (twiUpdateIrq s).pios = s.pios := by
  rw [twiUpdateIrq_frame]; rfl
@[simp] theorem twiUpdateIrq_pio (s : State) (j : Fin 3) : (twiUpdateIrq s).pio j = s.pio j := by
  rw [twiUpdateIrq_frame]; rfl
@[simp] theorem twiUpdateIrq_pmc (s : State) : (twiUpdateIrq s).pmc = s.pmc := by
  rw [twiUpdateIrq_frame]; rfl
@[simp] theorem twiUpdateIrq_matrix (s : State) : (twiUpdateIrq s).matrix = s.matrix := by
  rw [twiUpdateIrq_frame]; rfl
@[simp] theorem twiUpdateIrq_rstc (s : State) : (twiUpdateIrq s).rstc = s.rstc := by
  rw [twiUpdateIrq_frame]; rfl
@[simp] theorem twiUpdateIrq_sdramc (s : State) : (twiUpdateIrq s).sdramc = s.sdramc := by
  rw [twiUpdateIrq_frame]; rfl
@[simp] theorem twiUpdateIrq_links (s : State) : (twiUpdateIrq s).links = s.links := by
  rw [twiUpdateIrq_frame]; rfl
@[simp] theorem twiUpdateIrq_link (s : State) (j : LinkId) : (twiUpdateIrq s).link j = s.link j := by
  rw [twiUpdateIrq_frame]; rfl
@[simp] theorem twiUpdateIrq_sd (s : State) : (twiUpdateIrq s).sd = s.sd := by
  rw [twiUpdateIrq_frame]; rfl

/-- The interrupt output writes nothing but the path to the AIC (R778). -/
theorem tcUpdateIrq_frame (c : Fin 6) (s : State) : tcUpdateIrq c s = s.setAic (tcUpdateIrq c s).aic := driveLine_frame _ _ _

@[simp] theorem tcUpdateIrq_params (c : Fin 6) (s : State) : (tcUpdateIrq c s).params = s.params := by
  rw [tcUpdateIrq_frame]; rfl
@[simp] theorem tcUpdateIrq_inputs (c : Fin 6) (s : State) : (tcUpdateIrq c s).inputs = s.inputs := by
  rw [tcUpdateIrq_frame]; rfl
@[simp] theorem tcUpdateIrq_rdata (c : Fin 6) (s : State) : (tcUpdateIrq c s).rdata = s.rdata := by
  rw [tcUpdateIrq_frame]; rfl
@[simp] theorem tcUpdateIrq_fault (c : Fin 6) (s : State) : (tcUpdateIrq c s).fault = s.fault := by
  rw [tcUpdateIrq_frame]; rfl
@[simp] theorem tcUpdateIrq_mem (c : Fin 6) (s : State) : (tcUpdateIrq c s).mem = s.mem := by
  rw [tcUpdateIrq_frame]; rfl
@[simp] theorem tcUpdateIrq_bootTarget (c : Fin 6) (s : State) : (tcUpdateIrq c s).bootTarget = s.bootTarget := by
  rw [tcUpdateIrq_frame]; rfl
@[simp] theorem tcUpdateIrq_stubIn (c : Fin 6) (s : State) : (tcUpdateIrq c s).stubIn = s.stubIn := by
  rw [tcUpdateIrq_frame]; rfl
@[simp] theorem tcUpdateIrq_pdcs (c : Fin 6) (s : State) : (tcUpdateIrq c s).pdcs = s.pdcs := by
  rw [tcUpdateIrq_frame]; rfl
@[simp] theorem tcUpdateIrq_pdc (c : Fin 6) (s : State) (j : PdcHost) : (tcUpdateIrq c s).pdc j = s.pdc j := by
  rw [tcUpdateIrq_frame]; rfl
@[simp] theorem tcUpdateIrq_usarts (c : Fin 6) (s : State) : (tcUpdateIrq c s).usarts = s.usarts := by
  rw [tcUpdateIrq_frame]; rfl
@[simp] theorem tcUpdateIrq_usart (c : Fin 6) (s : State) (j : Fin 6) : (tcUpdateIrq c s).usart j = s.usart j := by
  rw [tcUpdateIrq_frame]; rfl
@[simp] theorem tcUpdateIrq_spis (c : Fin 6) (s : State) : (tcUpdateIrq c s).spis = s.spis := by
  rw [tcUpdateIrq_frame]; rfl
@[simp] theorem tcUpdateIrq_spi (c : Fin 6) (s : State) (j : Fin 2) : (tcUpdateIrq c s).spi j = s.spi j := by
  rw [tcUpdateIrq_frame]; rfl
@[simp] theorem tcUpdateIrq_twi (c : Fin 6) (s : State) : (tcUpdateIrq c s).twi = s.twi := by
  rw [tcUpdateIrq_frame]; rfl
@[simp] theorem tcUpdateIrq_mci (c : Fin 6) (s : State) : (tcUpdateIrq c s).mci = s.mci := by
  rw [tcUpdateIrq_frame]; rfl
@[simp] theorem tcUpdateIrq_tcs (c : Fin 6) (s : State) : (tcUpdateIrq c s).tcs = s.tcs := by
  rw [tcUpdateIrq_frame]; rfl
@[simp] theorem tcUpdateIrq_tc (c : Fin 6) (s : State) (j : Fin 6) : (tcUpdateIrq c s).tc j = s.tc j := by
  rw [tcUpdateIrq_frame]; rfl
@[simp] theorem tcUpdateIrq_tcBmr (c : Fin 6) (s : State) : (tcUpdateIrq c s).tcBmr = s.tcBmr := by
  rw [tcUpdateIrq_frame]; rfl
@[simp] theorem tcUpdateIrq_bmr (c : Fin 6) (s : State) (j : Fin 2) : (tcUpdateIrq c s).bmr j = s.bmr j := by
  rw [tcUpdateIrq_frame]; rfl
@[simp] theorem tcUpdateIrq_pit (c : Fin 6) (s : State) : (tcUpdateIrq c s).pit = s.pit := by
  rw [tcUpdateIrq_frame]; rfl
@[simp] theorem tcUpdateIrq_rtt (c : Fin 6) (s : State) : (tcUpdateIrq c s).rtt = s.rtt := by
  rw [tcUpdateIrq_frame]; rfl
@[simp] theorem tcUpdateIrq_dbgu (c : Fin 6) (s : State) : (tcUpdateIrq c s).dbgu = s.dbgu := by
  rw [tcUpdateIrq_frame]; rfl
@[simp] theorem tcUpdateIrq_consoleOut (c : Fin 6) (s : State) : (tcUpdateIrq c s).consoleOut = s.consoleOut := by
  rw [tcUpdateIrq_frame]; rfl
@[simp] theorem tcUpdateIrq_pios (c : Fin 6) (s : State) : (tcUpdateIrq c s).pios = s.pios := by
  rw [tcUpdateIrq_frame]; rfl
@[simp] theorem tcUpdateIrq_pio (c : Fin 6) (s : State) (j : Fin 3) : (tcUpdateIrq c s).pio j = s.pio j := by
  rw [tcUpdateIrq_frame]; rfl
@[simp] theorem tcUpdateIrq_pmc (c : Fin 6) (s : State) : (tcUpdateIrq c s).pmc = s.pmc := by
  rw [tcUpdateIrq_frame]; rfl
@[simp] theorem tcUpdateIrq_matrix (c : Fin 6) (s : State) : (tcUpdateIrq c s).matrix = s.matrix := by
  rw [tcUpdateIrq_frame]; rfl
@[simp] theorem tcUpdateIrq_rstc (c : Fin 6) (s : State) : (tcUpdateIrq c s).rstc = s.rstc := by
  rw [tcUpdateIrq_frame]; rfl
@[simp] theorem tcUpdateIrq_sdramc (c : Fin 6) (s : State) : (tcUpdateIrq c s).sdramc = s.sdramc := by
  rw [tcUpdateIrq_frame]; rfl
@[simp] theorem tcUpdateIrq_links (c : Fin 6) (s : State) : (tcUpdateIrq c s).links = s.links := by
  rw [tcUpdateIrq_frame]; rfl
@[simp] theorem tcUpdateIrq_link (c : Fin 6) (s : State) (j : LinkId) : (tcUpdateIrq c s).link j = s.link j := by
  rw [tcUpdateIrq_frame]; rfl
@[simp] theorem tcUpdateIrq_sd (c : Fin 6) (s : State) : (tcUpdateIrq c s).sd = s.sd := by
  rw [tcUpdateIrq_frame]; rfl

/-- The interrupt output writes nothing but the path to the AIC (R778). -/
theorem pioUpdateIrq_frame (p : Fin 3) (s : State) : pioUpdateIrq p s = s.setAic (pioUpdateIrq p s).aic := driveLine_frame _ _ _

@[simp] theorem pioUpdateIrq_params (p : Fin 3) (s : State) : (pioUpdateIrq p s).params = s.params := by
  rw [pioUpdateIrq_frame]; rfl
@[simp] theorem pioUpdateIrq_inputs (p : Fin 3) (s : State) : (pioUpdateIrq p s).inputs = s.inputs := by
  rw [pioUpdateIrq_frame]; rfl
@[simp] theorem pioUpdateIrq_rdata (p : Fin 3) (s : State) : (pioUpdateIrq p s).rdata = s.rdata := by
  rw [pioUpdateIrq_frame]; rfl
@[simp] theorem pioUpdateIrq_fault (p : Fin 3) (s : State) : (pioUpdateIrq p s).fault = s.fault := by
  rw [pioUpdateIrq_frame]; rfl
@[simp] theorem pioUpdateIrq_mem (p : Fin 3) (s : State) : (pioUpdateIrq p s).mem = s.mem := by
  rw [pioUpdateIrq_frame]; rfl
@[simp] theorem pioUpdateIrq_bootTarget (p : Fin 3) (s : State) : (pioUpdateIrq p s).bootTarget = s.bootTarget := by
  rw [pioUpdateIrq_frame]; rfl
@[simp] theorem pioUpdateIrq_stubIn (p : Fin 3) (s : State) : (pioUpdateIrq p s).stubIn = s.stubIn := by
  rw [pioUpdateIrq_frame]; rfl
@[simp] theorem pioUpdateIrq_pdcs (p : Fin 3) (s : State) : (pioUpdateIrq p s).pdcs = s.pdcs := by
  rw [pioUpdateIrq_frame]; rfl
@[simp] theorem pioUpdateIrq_pdc (p : Fin 3) (s : State) (j : PdcHost) : (pioUpdateIrq p s).pdc j = s.pdc j := by
  rw [pioUpdateIrq_frame]; rfl
@[simp] theorem pioUpdateIrq_usarts (p : Fin 3) (s : State) : (pioUpdateIrq p s).usarts = s.usarts := by
  rw [pioUpdateIrq_frame]; rfl
@[simp] theorem pioUpdateIrq_usart (p : Fin 3) (s : State) (j : Fin 6) : (pioUpdateIrq p s).usart j = s.usart j := by
  rw [pioUpdateIrq_frame]; rfl
@[simp] theorem pioUpdateIrq_spis (p : Fin 3) (s : State) : (pioUpdateIrq p s).spis = s.spis := by
  rw [pioUpdateIrq_frame]; rfl
@[simp] theorem pioUpdateIrq_spi (p : Fin 3) (s : State) (j : Fin 2) : (pioUpdateIrq p s).spi j = s.spi j := by
  rw [pioUpdateIrq_frame]; rfl
@[simp] theorem pioUpdateIrq_twi (p : Fin 3) (s : State) : (pioUpdateIrq p s).twi = s.twi := by
  rw [pioUpdateIrq_frame]; rfl
@[simp] theorem pioUpdateIrq_mci (p : Fin 3) (s : State) : (pioUpdateIrq p s).mci = s.mci := by
  rw [pioUpdateIrq_frame]; rfl
@[simp] theorem pioUpdateIrq_tcs (p : Fin 3) (s : State) : (pioUpdateIrq p s).tcs = s.tcs := by
  rw [pioUpdateIrq_frame]; rfl
@[simp] theorem pioUpdateIrq_tc (p : Fin 3) (s : State) (j : Fin 6) : (pioUpdateIrq p s).tc j = s.tc j := by
  rw [pioUpdateIrq_frame]; rfl
@[simp] theorem pioUpdateIrq_tcBmr (p : Fin 3) (s : State) : (pioUpdateIrq p s).tcBmr = s.tcBmr := by
  rw [pioUpdateIrq_frame]; rfl
@[simp] theorem pioUpdateIrq_bmr (p : Fin 3) (s : State) (j : Fin 2) : (pioUpdateIrq p s).bmr j = s.bmr j := by
  rw [pioUpdateIrq_frame]; rfl
@[simp] theorem pioUpdateIrq_pit (p : Fin 3) (s : State) : (pioUpdateIrq p s).pit = s.pit := by
  rw [pioUpdateIrq_frame]; rfl
@[simp] theorem pioUpdateIrq_rtt (p : Fin 3) (s : State) : (pioUpdateIrq p s).rtt = s.rtt := by
  rw [pioUpdateIrq_frame]; rfl
@[simp] theorem pioUpdateIrq_dbgu (p : Fin 3) (s : State) : (pioUpdateIrq p s).dbgu = s.dbgu := by
  rw [pioUpdateIrq_frame]; rfl
@[simp] theorem pioUpdateIrq_consoleOut (p : Fin 3) (s : State) : (pioUpdateIrq p s).consoleOut = s.consoleOut := by
  rw [pioUpdateIrq_frame]; rfl
@[simp] theorem pioUpdateIrq_pios (p : Fin 3) (s : State) : (pioUpdateIrq p s).pios = s.pios := by
  rw [pioUpdateIrq_frame]; rfl
@[simp] theorem pioUpdateIrq_pio (p : Fin 3) (s : State) (j : Fin 3) : (pioUpdateIrq p s).pio j = s.pio j := by
  rw [pioUpdateIrq_frame]; rfl
@[simp] theorem pioUpdateIrq_pmc (p : Fin 3) (s : State) : (pioUpdateIrq p s).pmc = s.pmc := by
  rw [pioUpdateIrq_frame]; rfl
@[simp] theorem pioUpdateIrq_matrix (p : Fin 3) (s : State) : (pioUpdateIrq p s).matrix = s.matrix := by
  rw [pioUpdateIrq_frame]; rfl
@[simp] theorem pioUpdateIrq_rstc (p : Fin 3) (s : State) : (pioUpdateIrq p s).rstc = s.rstc := by
  rw [pioUpdateIrq_frame]; rfl
@[simp] theorem pioUpdateIrq_sdramc (p : Fin 3) (s : State) : (pioUpdateIrq p s).sdramc = s.sdramc := by
  rw [pioUpdateIrq_frame]; rfl
@[simp] theorem pioUpdateIrq_links (p : Fin 3) (s : State) : (pioUpdateIrq p s).links = s.links := by
  rw [pioUpdateIrq_frame]; rfl
@[simp] theorem pioUpdateIrq_link (p : Fin 3) (s : State) (j : LinkId) : (pioUpdateIrq p s).link j = s.link j := by
  rw [pioUpdateIrq_frame]; rfl
@[simp] theorem pioUpdateIrq_sd (p : Fin 3) (s : State) : (pioUpdateIrq p s).sd = s.sd := by
  rw [pioUpdateIrq_frame]; rfl

/-- The interrupt output writes nothing but the path to the AIC (R778). -/
theorem pitUpdateIrq_frame (s : State) : pitUpdateIrq s = (s.setStubIn (pitUpdateIrq s).stubIn).setAic (pitUpdateIrq s).aic := driveStub_frame _ _ _

@[simp] theorem pitUpdateIrq_params (s : State) : (pitUpdateIrq s).params = s.params := by
  rw [pitUpdateIrq_frame]; rfl
@[simp] theorem pitUpdateIrq_inputs (s : State) : (pitUpdateIrq s).inputs = s.inputs := by
  rw [pitUpdateIrq_frame]; rfl
@[simp] theorem pitUpdateIrq_rdata (s : State) : (pitUpdateIrq s).rdata = s.rdata := by
  rw [pitUpdateIrq_frame]; rfl
@[simp] theorem pitUpdateIrq_fault (s : State) : (pitUpdateIrq s).fault = s.fault := by
  rw [pitUpdateIrq_frame]; rfl
@[simp] theorem pitUpdateIrq_mem (s : State) : (pitUpdateIrq s).mem = s.mem := by
  rw [pitUpdateIrq_frame]; rfl
@[simp] theorem pitUpdateIrq_bootTarget (s : State) : (pitUpdateIrq s).bootTarget = s.bootTarget := by
  rw [pitUpdateIrq_frame]; rfl
@[simp] theorem pitUpdateIrq_pdcs (s : State) : (pitUpdateIrq s).pdcs = s.pdcs := by
  rw [pitUpdateIrq_frame]; rfl
@[simp] theorem pitUpdateIrq_pdc (s : State) (j : PdcHost) : (pitUpdateIrq s).pdc j = s.pdc j := by
  rw [pitUpdateIrq_frame]; rfl
@[simp] theorem pitUpdateIrq_usarts (s : State) : (pitUpdateIrq s).usarts = s.usarts := by
  rw [pitUpdateIrq_frame]; rfl
@[simp] theorem pitUpdateIrq_usart (s : State) (j : Fin 6) : (pitUpdateIrq s).usart j = s.usart j := by
  rw [pitUpdateIrq_frame]; rfl
@[simp] theorem pitUpdateIrq_spis (s : State) : (pitUpdateIrq s).spis = s.spis := by
  rw [pitUpdateIrq_frame]; rfl
@[simp] theorem pitUpdateIrq_spi (s : State) (j : Fin 2) : (pitUpdateIrq s).spi j = s.spi j := by
  rw [pitUpdateIrq_frame]; rfl
@[simp] theorem pitUpdateIrq_twi (s : State) : (pitUpdateIrq s).twi = s.twi := by
  rw [pitUpdateIrq_frame]; rfl
@[simp] theorem pitUpdateIrq_mci (s : State) : (pitUpdateIrq s).mci = s.mci := by
  rw [pitUpdateIrq_frame]; rfl
@[simp] theorem pitUpdateIrq_tcs (s : State) : (pitUpdateIrq s).tcs = s.tcs := by
  rw [pitUpdateIrq_frame]; rfl
@[simp] theorem pitUpdateIrq_tc (s : State) (j : Fin 6) : (pitUpdateIrq s).tc j = s.tc j := by
  rw [pitUpdateIrq_frame]; rfl
@[simp] theorem pitUpdateIrq_tcBmr (s : State) : (pitUpdateIrq s).tcBmr = s.tcBmr := by
  rw [pitUpdateIrq_frame]; rfl
@[simp] theorem pitUpdateIrq_bmr (s : State) (j : Fin 2) : (pitUpdateIrq s).bmr j = s.bmr j := by
  rw [pitUpdateIrq_frame]; rfl
@[simp] theorem pitUpdateIrq_pit (s : State) : (pitUpdateIrq s).pit = s.pit := by
  rw [pitUpdateIrq_frame]; rfl
@[simp] theorem pitUpdateIrq_rtt (s : State) : (pitUpdateIrq s).rtt = s.rtt := by
  rw [pitUpdateIrq_frame]; rfl
@[simp] theorem pitUpdateIrq_dbgu (s : State) : (pitUpdateIrq s).dbgu = s.dbgu := by
  rw [pitUpdateIrq_frame]; rfl
@[simp] theorem pitUpdateIrq_consoleOut (s : State) : (pitUpdateIrq s).consoleOut = s.consoleOut := by
  rw [pitUpdateIrq_frame]; rfl
@[simp] theorem pitUpdateIrq_pios (s : State) : (pitUpdateIrq s).pios = s.pios := by
  rw [pitUpdateIrq_frame]; rfl
@[simp] theorem pitUpdateIrq_pio (s : State) (j : Fin 3) : (pitUpdateIrq s).pio j = s.pio j := by
  rw [pitUpdateIrq_frame]; rfl
@[simp] theorem pitUpdateIrq_pmc (s : State) : (pitUpdateIrq s).pmc = s.pmc := by
  rw [pitUpdateIrq_frame]; rfl
@[simp] theorem pitUpdateIrq_matrix (s : State) : (pitUpdateIrq s).matrix = s.matrix := by
  rw [pitUpdateIrq_frame]; rfl
@[simp] theorem pitUpdateIrq_rstc (s : State) : (pitUpdateIrq s).rstc = s.rstc := by
  rw [pitUpdateIrq_frame]; rfl
@[simp] theorem pitUpdateIrq_sdramc (s : State) : (pitUpdateIrq s).sdramc = s.sdramc := by
  rw [pitUpdateIrq_frame]; rfl
@[simp] theorem pitUpdateIrq_links (s : State) : (pitUpdateIrq s).links = s.links := by
  rw [pitUpdateIrq_frame]; rfl
@[simp] theorem pitUpdateIrq_link (s : State) (j : LinkId) : (pitUpdateIrq s).link j = s.link j := by
  rw [pitUpdateIrq_frame]; rfl
@[simp] theorem pitUpdateIrq_sd (s : State) : (pitUpdateIrq s).sd = s.sd := by
  rw [pitUpdateIrq_frame]; rfl

/-- The interrupt output writes nothing but the path to the AIC (R778). -/
theorem rttUpdateIrq_frame (s : State) : rttUpdateIrq s = (s.setStubIn (rttUpdateIrq s).stubIn).setAic (rttUpdateIrq s).aic := driveStub_frame _ _ _

@[simp] theorem rttUpdateIrq_params (s : State) : (rttUpdateIrq s).params = s.params := by
  rw [rttUpdateIrq_frame]; rfl
@[simp] theorem rttUpdateIrq_inputs (s : State) : (rttUpdateIrq s).inputs = s.inputs := by
  rw [rttUpdateIrq_frame]; rfl
@[simp] theorem rttUpdateIrq_rdata (s : State) : (rttUpdateIrq s).rdata = s.rdata := by
  rw [rttUpdateIrq_frame]; rfl
@[simp] theorem rttUpdateIrq_fault (s : State) : (rttUpdateIrq s).fault = s.fault := by
  rw [rttUpdateIrq_frame]; rfl
@[simp] theorem rttUpdateIrq_mem (s : State) : (rttUpdateIrq s).mem = s.mem := by
  rw [rttUpdateIrq_frame]; rfl
@[simp] theorem rttUpdateIrq_bootTarget (s : State) : (rttUpdateIrq s).bootTarget = s.bootTarget := by
  rw [rttUpdateIrq_frame]; rfl
@[simp] theorem rttUpdateIrq_pdcs (s : State) : (rttUpdateIrq s).pdcs = s.pdcs := by
  rw [rttUpdateIrq_frame]; rfl
@[simp] theorem rttUpdateIrq_pdc (s : State) (j : PdcHost) : (rttUpdateIrq s).pdc j = s.pdc j := by
  rw [rttUpdateIrq_frame]; rfl
@[simp] theorem rttUpdateIrq_usarts (s : State) : (rttUpdateIrq s).usarts = s.usarts := by
  rw [rttUpdateIrq_frame]; rfl
@[simp] theorem rttUpdateIrq_usart (s : State) (j : Fin 6) : (rttUpdateIrq s).usart j = s.usart j := by
  rw [rttUpdateIrq_frame]; rfl
@[simp] theorem rttUpdateIrq_spis (s : State) : (rttUpdateIrq s).spis = s.spis := by
  rw [rttUpdateIrq_frame]; rfl
@[simp] theorem rttUpdateIrq_spi (s : State) (j : Fin 2) : (rttUpdateIrq s).spi j = s.spi j := by
  rw [rttUpdateIrq_frame]; rfl
@[simp] theorem rttUpdateIrq_twi (s : State) : (rttUpdateIrq s).twi = s.twi := by
  rw [rttUpdateIrq_frame]; rfl
@[simp] theorem rttUpdateIrq_mci (s : State) : (rttUpdateIrq s).mci = s.mci := by
  rw [rttUpdateIrq_frame]; rfl
@[simp] theorem rttUpdateIrq_tcs (s : State) : (rttUpdateIrq s).tcs = s.tcs := by
  rw [rttUpdateIrq_frame]; rfl
@[simp] theorem rttUpdateIrq_tc (s : State) (j : Fin 6) : (rttUpdateIrq s).tc j = s.tc j := by
  rw [rttUpdateIrq_frame]; rfl
@[simp] theorem rttUpdateIrq_tcBmr (s : State) : (rttUpdateIrq s).tcBmr = s.tcBmr := by
  rw [rttUpdateIrq_frame]; rfl
@[simp] theorem rttUpdateIrq_bmr (s : State) (j : Fin 2) : (rttUpdateIrq s).bmr j = s.bmr j := by
  rw [rttUpdateIrq_frame]; rfl
@[simp] theorem rttUpdateIrq_pit (s : State) : (rttUpdateIrq s).pit = s.pit := by
  rw [rttUpdateIrq_frame]; rfl
@[simp] theorem rttUpdateIrq_rtt (s : State) : (rttUpdateIrq s).rtt = s.rtt := by
  rw [rttUpdateIrq_frame]; rfl
@[simp] theorem rttUpdateIrq_dbgu (s : State) : (rttUpdateIrq s).dbgu = s.dbgu := by
  rw [rttUpdateIrq_frame]; rfl
@[simp] theorem rttUpdateIrq_consoleOut (s : State) : (rttUpdateIrq s).consoleOut = s.consoleOut := by
  rw [rttUpdateIrq_frame]; rfl
@[simp] theorem rttUpdateIrq_pios (s : State) : (rttUpdateIrq s).pios = s.pios := by
  rw [rttUpdateIrq_frame]; rfl
@[simp] theorem rttUpdateIrq_pio (s : State) (j : Fin 3) : (rttUpdateIrq s).pio j = s.pio j := by
  rw [rttUpdateIrq_frame]; rfl
@[simp] theorem rttUpdateIrq_pmc (s : State) : (rttUpdateIrq s).pmc = s.pmc := by
  rw [rttUpdateIrq_frame]; rfl
@[simp] theorem rttUpdateIrq_matrix (s : State) : (rttUpdateIrq s).matrix = s.matrix := by
  rw [rttUpdateIrq_frame]; rfl
@[simp] theorem rttUpdateIrq_rstc (s : State) : (rttUpdateIrq s).rstc = s.rstc := by
  rw [rttUpdateIrq_frame]; rfl
@[simp] theorem rttUpdateIrq_sdramc (s : State) : (rttUpdateIrq s).sdramc = s.sdramc := by
  rw [rttUpdateIrq_frame]; rfl
@[simp] theorem rttUpdateIrq_links (s : State) : (rttUpdateIrq s).links = s.links := by
  rw [rttUpdateIrq_frame]; rfl
@[simp] theorem rttUpdateIrq_link (s : State) (j : LinkId) : (rttUpdateIrq s).link j = s.link j := by
  rw [rttUpdateIrq_frame]; rfl
@[simp] theorem rttUpdateIrq_sd (s : State) : (rttUpdateIrq s).sd = s.sd := by
  rw [rttUpdateIrq_frame]; rfl

/-- The interrupt output writes nothing but the path to the AIC (R778). -/
theorem dbguUpdateIrq_frame (s : State) : dbguUpdateIrq s = (s.setStubIn (dbguUpdateIrq s).stubIn).setAic (dbguUpdateIrq s).aic := driveStub_frame _ _ _

@[simp] theorem dbguUpdateIrq_params (s : State) : (dbguUpdateIrq s).params = s.params := by
  rw [dbguUpdateIrq_frame]; rfl
@[simp] theorem dbguUpdateIrq_inputs (s : State) : (dbguUpdateIrq s).inputs = s.inputs := by
  rw [dbguUpdateIrq_frame]; rfl
@[simp] theorem dbguUpdateIrq_rdata (s : State) : (dbguUpdateIrq s).rdata = s.rdata := by
  rw [dbguUpdateIrq_frame]; rfl
@[simp] theorem dbguUpdateIrq_fault (s : State) : (dbguUpdateIrq s).fault = s.fault := by
  rw [dbguUpdateIrq_frame]; rfl
@[simp] theorem dbguUpdateIrq_mem (s : State) : (dbguUpdateIrq s).mem = s.mem := by
  rw [dbguUpdateIrq_frame]; rfl
@[simp] theorem dbguUpdateIrq_bootTarget (s : State) : (dbguUpdateIrq s).bootTarget = s.bootTarget := by
  rw [dbguUpdateIrq_frame]; rfl
@[simp] theorem dbguUpdateIrq_pdcs (s : State) : (dbguUpdateIrq s).pdcs = s.pdcs := by
  rw [dbguUpdateIrq_frame]; rfl
@[simp] theorem dbguUpdateIrq_pdc (s : State) (j : PdcHost) : (dbguUpdateIrq s).pdc j = s.pdc j := by
  rw [dbguUpdateIrq_frame]; rfl
@[simp] theorem dbguUpdateIrq_usarts (s : State) : (dbguUpdateIrq s).usarts = s.usarts := by
  rw [dbguUpdateIrq_frame]; rfl
@[simp] theorem dbguUpdateIrq_usart (s : State) (j : Fin 6) : (dbguUpdateIrq s).usart j = s.usart j := by
  rw [dbguUpdateIrq_frame]; rfl
@[simp] theorem dbguUpdateIrq_spis (s : State) : (dbguUpdateIrq s).spis = s.spis := by
  rw [dbguUpdateIrq_frame]; rfl
@[simp] theorem dbguUpdateIrq_spi (s : State) (j : Fin 2) : (dbguUpdateIrq s).spi j = s.spi j := by
  rw [dbguUpdateIrq_frame]; rfl
@[simp] theorem dbguUpdateIrq_twi (s : State) : (dbguUpdateIrq s).twi = s.twi := by
  rw [dbguUpdateIrq_frame]; rfl
@[simp] theorem dbguUpdateIrq_mci (s : State) : (dbguUpdateIrq s).mci = s.mci := by
  rw [dbguUpdateIrq_frame]; rfl
@[simp] theorem dbguUpdateIrq_tcs (s : State) : (dbguUpdateIrq s).tcs = s.tcs := by
  rw [dbguUpdateIrq_frame]; rfl
@[simp] theorem dbguUpdateIrq_tc (s : State) (j : Fin 6) : (dbguUpdateIrq s).tc j = s.tc j := by
  rw [dbguUpdateIrq_frame]; rfl
@[simp] theorem dbguUpdateIrq_tcBmr (s : State) : (dbguUpdateIrq s).tcBmr = s.tcBmr := by
  rw [dbguUpdateIrq_frame]; rfl
@[simp] theorem dbguUpdateIrq_bmr (s : State) (j : Fin 2) : (dbguUpdateIrq s).bmr j = s.bmr j := by
  rw [dbguUpdateIrq_frame]; rfl
@[simp] theorem dbguUpdateIrq_pit (s : State) : (dbguUpdateIrq s).pit = s.pit := by
  rw [dbguUpdateIrq_frame]; rfl
@[simp] theorem dbguUpdateIrq_rtt (s : State) : (dbguUpdateIrq s).rtt = s.rtt := by
  rw [dbguUpdateIrq_frame]; rfl
@[simp] theorem dbguUpdateIrq_dbgu (s : State) : (dbguUpdateIrq s).dbgu = s.dbgu := by
  rw [dbguUpdateIrq_frame]; rfl
@[simp] theorem dbguUpdateIrq_consoleOut (s : State) : (dbguUpdateIrq s).consoleOut = s.consoleOut := by
  rw [dbguUpdateIrq_frame]; rfl
@[simp] theorem dbguUpdateIrq_pios (s : State) : (dbguUpdateIrq s).pios = s.pios := by
  rw [dbguUpdateIrq_frame]; rfl
@[simp] theorem dbguUpdateIrq_pio (s : State) (j : Fin 3) : (dbguUpdateIrq s).pio j = s.pio j := by
  rw [dbguUpdateIrq_frame]; rfl
@[simp] theorem dbguUpdateIrq_pmc (s : State) : (dbguUpdateIrq s).pmc = s.pmc := by
  rw [dbguUpdateIrq_frame]; rfl
@[simp] theorem dbguUpdateIrq_matrix (s : State) : (dbguUpdateIrq s).matrix = s.matrix := by
  rw [dbguUpdateIrq_frame]; rfl
@[simp] theorem dbguUpdateIrq_rstc (s : State) : (dbguUpdateIrq s).rstc = s.rstc := by
  rw [dbguUpdateIrq_frame]; rfl
@[simp] theorem dbguUpdateIrq_sdramc (s : State) : (dbguUpdateIrq s).sdramc = s.sdramc := by
  rw [dbguUpdateIrq_frame]; rfl
@[simp] theorem dbguUpdateIrq_links (s : State) : (dbguUpdateIrq s).links = s.links := by
  rw [dbguUpdateIrq_frame]; rfl
@[simp] theorem dbguUpdateIrq_link (s : State) (j : LinkId) : (dbguUpdateIrq s).link j = s.link j := by
  rw [dbguUpdateIrq_frame]; rfl
@[simp] theorem dbguUpdateIrq_sd (s : State) : (dbguUpdateIrq s).sd = s.sd := by
  rw [dbguUpdateIrq_frame]; rfl

/-- The interrupt output writes nothing but the path to the AIC (R778). -/
theorem pmcUpdateIrq_frame (s : State) : pmcUpdateIrq s = (s.setStubIn (pmcUpdateIrq s).stubIn).setAic (pmcUpdateIrq s).aic := driveStub_frame _ _ _

@[simp] theorem pmcUpdateIrq_params (s : State) : (pmcUpdateIrq s).params = s.params := by
  rw [pmcUpdateIrq_frame]; rfl
@[simp] theorem pmcUpdateIrq_inputs (s : State) : (pmcUpdateIrq s).inputs = s.inputs := by
  rw [pmcUpdateIrq_frame]; rfl
@[simp] theorem pmcUpdateIrq_rdata (s : State) : (pmcUpdateIrq s).rdata = s.rdata := by
  rw [pmcUpdateIrq_frame]; rfl
@[simp] theorem pmcUpdateIrq_fault (s : State) : (pmcUpdateIrq s).fault = s.fault := by
  rw [pmcUpdateIrq_frame]; rfl
@[simp] theorem pmcUpdateIrq_mem (s : State) : (pmcUpdateIrq s).mem = s.mem := by
  rw [pmcUpdateIrq_frame]; rfl
@[simp] theorem pmcUpdateIrq_bootTarget (s : State) : (pmcUpdateIrq s).bootTarget = s.bootTarget := by
  rw [pmcUpdateIrq_frame]; rfl
@[simp] theorem pmcUpdateIrq_pdcs (s : State) : (pmcUpdateIrq s).pdcs = s.pdcs := by
  rw [pmcUpdateIrq_frame]; rfl
@[simp] theorem pmcUpdateIrq_pdc (s : State) (j : PdcHost) : (pmcUpdateIrq s).pdc j = s.pdc j := by
  rw [pmcUpdateIrq_frame]; rfl
@[simp] theorem pmcUpdateIrq_usarts (s : State) : (pmcUpdateIrq s).usarts = s.usarts := by
  rw [pmcUpdateIrq_frame]; rfl
@[simp] theorem pmcUpdateIrq_usart (s : State) (j : Fin 6) : (pmcUpdateIrq s).usart j = s.usart j := by
  rw [pmcUpdateIrq_frame]; rfl
@[simp] theorem pmcUpdateIrq_spis (s : State) : (pmcUpdateIrq s).spis = s.spis := by
  rw [pmcUpdateIrq_frame]; rfl
@[simp] theorem pmcUpdateIrq_spi (s : State) (j : Fin 2) : (pmcUpdateIrq s).spi j = s.spi j := by
  rw [pmcUpdateIrq_frame]; rfl
@[simp] theorem pmcUpdateIrq_twi (s : State) : (pmcUpdateIrq s).twi = s.twi := by
  rw [pmcUpdateIrq_frame]; rfl
@[simp] theorem pmcUpdateIrq_mci (s : State) : (pmcUpdateIrq s).mci = s.mci := by
  rw [pmcUpdateIrq_frame]; rfl
@[simp] theorem pmcUpdateIrq_tcs (s : State) : (pmcUpdateIrq s).tcs = s.tcs := by
  rw [pmcUpdateIrq_frame]; rfl
@[simp] theorem pmcUpdateIrq_tc (s : State) (j : Fin 6) : (pmcUpdateIrq s).tc j = s.tc j := by
  rw [pmcUpdateIrq_frame]; rfl
@[simp] theorem pmcUpdateIrq_tcBmr (s : State) : (pmcUpdateIrq s).tcBmr = s.tcBmr := by
  rw [pmcUpdateIrq_frame]; rfl
@[simp] theorem pmcUpdateIrq_bmr (s : State) (j : Fin 2) : (pmcUpdateIrq s).bmr j = s.bmr j := by
  rw [pmcUpdateIrq_frame]; rfl
@[simp] theorem pmcUpdateIrq_pit (s : State) : (pmcUpdateIrq s).pit = s.pit := by
  rw [pmcUpdateIrq_frame]; rfl
@[simp] theorem pmcUpdateIrq_rtt (s : State) : (pmcUpdateIrq s).rtt = s.rtt := by
  rw [pmcUpdateIrq_frame]; rfl
@[simp] theorem pmcUpdateIrq_dbgu (s : State) : (pmcUpdateIrq s).dbgu = s.dbgu := by
  rw [pmcUpdateIrq_frame]; rfl
@[simp] theorem pmcUpdateIrq_consoleOut (s : State) : (pmcUpdateIrq s).consoleOut = s.consoleOut := by
  rw [pmcUpdateIrq_frame]; rfl
@[simp] theorem pmcUpdateIrq_pios (s : State) : (pmcUpdateIrq s).pios = s.pios := by
  rw [pmcUpdateIrq_frame]; rfl
@[simp] theorem pmcUpdateIrq_pio (s : State) (j : Fin 3) : (pmcUpdateIrq s).pio j = s.pio j := by
  rw [pmcUpdateIrq_frame]; rfl
@[simp] theorem pmcUpdateIrq_pmc (s : State) : (pmcUpdateIrq s).pmc = s.pmc := by
  rw [pmcUpdateIrq_frame]; rfl
@[simp] theorem pmcUpdateIrq_matrix (s : State) : (pmcUpdateIrq s).matrix = s.matrix := by
  rw [pmcUpdateIrq_frame]; rfl
@[simp] theorem pmcUpdateIrq_rstc (s : State) : (pmcUpdateIrq s).rstc = s.rstc := by
  rw [pmcUpdateIrq_frame]; rfl
@[simp] theorem pmcUpdateIrq_sdramc (s : State) : (pmcUpdateIrq s).sdramc = s.sdramc := by
  rw [pmcUpdateIrq_frame]; rfl
@[simp] theorem pmcUpdateIrq_links (s : State) : (pmcUpdateIrq s).links = s.links := by
  rw [pmcUpdateIrq_frame]; rfl
@[simp] theorem pmcUpdateIrq_link (s : State) (j : LinkId) : (pmcUpdateIrq s).link j = s.link j := by
  rw [pmcUpdateIrq_frame]; rfl
@[simp] theorem pmcUpdateIrq_sd (s : State) : (pmcUpdateIrq s).sd = s.sd := by
  rw [pmcUpdateIrq_frame]; rfl

/-- The interrupt output writes nothing but the path to the AIC (R778). -/
theorem sdramcUpdateIrq_frame (s : State) : sdramcUpdateIrq s = (s.setStubIn (sdramcUpdateIrq s).stubIn).setAic (sdramcUpdateIrq s).aic := driveStub_frame _ _ _

@[simp] theorem sdramcUpdateIrq_params (s : State) : (sdramcUpdateIrq s).params = s.params := by
  rw [sdramcUpdateIrq_frame]; rfl
@[simp] theorem sdramcUpdateIrq_inputs (s : State) : (sdramcUpdateIrq s).inputs = s.inputs := by
  rw [sdramcUpdateIrq_frame]; rfl
@[simp] theorem sdramcUpdateIrq_rdata (s : State) : (sdramcUpdateIrq s).rdata = s.rdata := by
  rw [sdramcUpdateIrq_frame]; rfl
@[simp] theorem sdramcUpdateIrq_fault (s : State) : (sdramcUpdateIrq s).fault = s.fault := by
  rw [sdramcUpdateIrq_frame]; rfl
@[simp] theorem sdramcUpdateIrq_mem (s : State) : (sdramcUpdateIrq s).mem = s.mem := by
  rw [sdramcUpdateIrq_frame]; rfl
@[simp] theorem sdramcUpdateIrq_bootTarget (s : State) : (sdramcUpdateIrq s).bootTarget = s.bootTarget := by
  rw [sdramcUpdateIrq_frame]; rfl
@[simp] theorem sdramcUpdateIrq_pdcs (s : State) : (sdramcUpdateIrq s).pdcs = s.pdcs := by
  rw [sdramcUpdateIrq_frame]; rfl
@[simp] theorem sdramcUpdateIrq_pdc (s : State) (j : PdcHost) : (sdramcUpdateIrq s).pdc j = s.pdc j := by
  rw [sdramcUpdateIrq_frame]; rfl
@[simp] theorem sdramcUpdateIrq_usarts (s : State) : (sdramcUpdateIrq s).usarts = s.usarts := by
  rw [sdramcUpdateIrq_frame]; rfl
@[simp] theorem sdramcUpdateIrq_usart (s : State) (j : Fin 6) : (sdramcUpdateIrq s).usart j = s.usart j := by
  rw [sdramcUpdateIrq_frame]; rfl
@[simp] theorem sdramcUpdateIrq_spis (s : State) : (sdramcUpdateIrq s).spis = s.spis := by
  rw [sdramcUpdateIrq_frame]; rfl
@[simp] theorem sdramcUpdateIrq_spi (s : State) (j : Fin 2) : (sdramcUpdateIrq s).spi j = s.spi j := by
  rw [sdramcUpdateIrq_frame]; rfl
@[simp] theorem sdramcUpdateIrq_twi (s : State) : (sdramcUpdateIrq s).twi = s.twi := by
  rw [sdramcUpdateIrq_frame]; rfl
@[simp] theorem sdramcUpdateIrq_mci (s : State) : (sdramcUpdateIrq s).mci = s.mci := by
  rw [sdramcUpdateIrq_frame]; rfl
@[simp] theorem sdramcUpdateIrq_tcs (s : State) : (sdramcUpdateIrq s).tcs = s.tcs := by
  rw [sdramcUpdateIrq_frame]; rfl
@[simp] theorem sdramcUpdateIrq_tc (s : State) (j : Fin 6) : (sdramcUpdateIrq s).tc j = s.tc j := by
  rw [sdramcUpdateIrq_frame]; rfl
@[simp] theorem sdramcUpdateIrq_tcBmr (s : State) : (sdramcUpdateIrq s).tcBmr = s.tcBmr := by
  rw [sdramcUpdateIrq_frame]; rfl
@[simp] theorem sdramcUpdateIrq_bmr (s : State) (j : Fin 2) : (sdramcUpdateIrq s).bmr j = s.bmr j := by
  rw [sdramcUpdateIrq_frame]; rfl
@[simp] theorem sdramcUpdateIrq_pit (s : State) : (sdramcUpdateIrq s).pit = s.pit := by
  rw [sdramcUpdateIrq_frame]; rfl
@[simp] theorem sdramcUpdateIrq_rtt (s : State) : (sdramcUpdateIrq s).rtt = s.rtt := by
  rw [sdramcUpdateIrq_frame]; rfl
@[simp] theorem sdramcUpdateIrq_dbgu (s : State) : (sdramcUpdateIrq s).dbgu = s.dbgu := by
  rw [sdramcUpdateIrq_frame]; rfl
@[simp] theorem sdramcUpdateIrq_consoleOut (s : State) : (sdramcUpdateIrq s).consoleOut = s.consoleOut := by
  rw [sdramcUpdateIrq_frame]; rfl
@[simp] theorem sdramcUpdateIrq_pios (s : State) : (sdramcUpdateIrq s).pios = s.pios := by
  rw [sdramcUpdateIrq_frame]; rfl
@[simp] theorem sdramcUpdateIrq_pio (s : State) (j : Fin 3) : (sdramcUpdateIrq s).pio j = s.pio j := by
  rw [sdramcUpdateIrq_frame]; rfl
@[simp] theorem sdramcUpdateIrq_pmc (s : State) : (sdramcUpdateIrq s).pmc = s.pmc := by
  rw [sdramcUpdateIrq_frame]; rfl
@[simp] theorem sdramcUpdateIrq_matrix (s : State) : (sdramcUpdateIrq s).matrix = s.matrix := by
  rw [sdramcUpdateIrq_frame]; rfl
@[simp] theorem sdramcUpdateIrq_rstc (s : State) : (sdramcUpdateIrq s).rstc = s.rstc := by
  rw [sdramcUpdateIrq_frame]; rfl
@[simp] theorem sdramcUpdateIrq_sdramc (s : State) : (sdramcUpdateIrq s).sdramc = s.sdramc := by
  rw [sdramcUpdateIrq_frame]; rfl
@[simp] theorem sdramcUpdateIrq_links (s : State) : (sdramcUpdateIrq s).links = s.links := by
  rw [sdramcUpdateIrq_frame]; rfl
@[simp] theorem sdramcUpdateIrq_link (s : State) (j : LinkId) : (sdramcUpdateIrq s).link j = s.link j := by
  rw [sdramcUpdateIrq_frame]; rfl
@[simp] theorem sdramcUpdateIrq_sd (s : State) : (sdramcUpdateIrq s).sd = s.sd := by
  rw [sdramcUpdateIrq_frame]; rfl

/-- The interrupt output of the MCI also asks the card (R485, R486). -/
theorem mciUpdateIrq_frame (s : State) :
    mciUpdateIrq s = (s.setSd (mciUpdateIrq s).sd).setAic (mciUpdateIrq s).aic := by
  unfold mciUpdateIrq; rw [driveLine_frame]; rfl

/-- The cards are as before after the MCI's interrupt output. -/
@[simp] theorem mciUpdateIrq_cards (s : State) : (mciUpdateIrq s).sd.cards = s.sd.cards := by
  unfold mciUpdateIrq; rw [driveLine_frame]; rfl

@[simp] theorem mciUpdateIrq_params (s : State) : (mciUpdateIrq s).params = s.params := by
  rw [mciUpdateIrq_frame]; rfl
@[simp] theorem mciUpdateIrq_inputs (s : State) : (mciUpdateIrq s).inputs = s.inputs := by
  rw [mciUpdateIrq_frame]; rfl
@[simp] theorem mciUpdateIrq_rdata (s : State) : (mciUpdateIrq s).rdata = s.rdata := by
  rw [mciUpdateIrq_frame]; rfl
@[simp] theorem mciUpdateIrq_fault (s : State) : (mciUpdateIrq s).fault = s.fault := by
  rw [mciUpdateIrq_frame]; rfl
@[simp] theorem mciUpdateIrq_mem (s : State) : (mciUpdateIrq s).mem = s.mem := by
  rw [mciUpdateIrq_frame]; rfl
@[simp] theorem mciUpdateIrq_bootTarget (s : State) : (mciUpdateIrq s).bootTarget = s.bootTarget := by
  rw [mciUpdateIrq_frame]; rfl
@[simp] theorem mciUpdateIrq_stubIn (s : State) : (mciUpdateIrq s).stubIn = s.stubIn := by
  rw [mciUpdateIrq_frame]; rfl
@[simp] theorem mciUpdateIrq_pdcs (s : State) : (mciUpdateIrq s).pdcs = s.pdcs := by
  rw [mciUpdateIrq_frame]; rfl
@[simp] theorem mciUpdateIrq_pdc (s : State) (j : PdcHost) : (mciUpdateIrq s).pdc j = s.pdc j := by
  rw [mciUpdateIrq_frame]; rfl
@[simp] theorem mciUpdateIrq_usarts (s : State) : (mciUpdateIrq s).usarts = s.usarts := by
  rw [mciUpdateIrq_frame]; rfl
@[simp] theorem mciUpdateIrq_usart (s : State) (j : Fin 6) : (mciUpdateIrq s).usart j = s.usart j := by
  rw [mciUpdateIrq_frame]; rfl
@[simp] theorem mciUpdateIrq_spis (s : State) : (mciUpdateIrq s).spis = s.spis := by
  rw [mciUpdateIrq_frame]; rfl
@[simp] theorem mciUpdateIrq_spi (s : State) (j : Fin 2) : (mciUpdateIrq s).spi j = s.spi j := by
  rw [mciUpdateIrq_frame]; rfl
@[simp] theorem mciUpdateIrq_twi (s : State) : (mciUpdateIrq s).twi = s.twi := by
  rw [mciUpdateIrq_frame]; rfl
@[simp] theorem mciUpdateIrq_mci (s : State) : (mciUpdateIrq s).mci = s.mci := by
  rw [mciUpdateIrq_frame]; rfl
@[simp] theorem mciUpdateIrq_tcs (s : State) : (mciUpdateIrq s).tcs = s.tcs := by
  rw [mciUpdateIrq_frame]; rfl
@[simp] theorem mciUpdateIrq_tc (s : State) (j : Fin 6) : (mciUpdateIrq s).tc j = s.tc j := by
  rw [mciUpdateIrq_frame]; rfl
@[simp] theorem mciUpdateIrq_tcBmr (s : State) : (mciUpdateIrq s).tcBmr = s.tcBmr := by
  rw [mciUpdateIrq_frame]; rfl
@[simp] theorem mciUpdateIrq_bmr (s : State) (j : Fin 2) : (mciUpdateIrq s).bmr j = s.bmr j := by
  rw [mciUpdateIrq_frame]; rfl
@[simp] theorem mciUpdateIrq_pit (s : State) : (mciUpdateIrq s).pit = s.pit := by
  rw [mciUpdateIrq_frame]; rfl
@[simp] theorem mciUpdateIrq_rtt (s : State) : (mciUpdateIrq s).rtt = s.rtt := by
  rw [mciUpdateIrq_frame]; rfl
@[simp] theorem mciUpdateIrq_dbgu (s : State) : (mciUpdateIrq s).dbgu = s.dbgu := by
  rw [mciUpdateIrq_frame]; rfl
@[simp] theorem mciUpdateIrq_consoleOut (s : State) : (mciUpdateIrq s).consoleOut = s.consoleOut := by
  rw [mciUpdateIrq_frame]; rfl
@[simp] theorem mciUpdateIrq_pios (s : State) : (mciUpdateIrq s).pios = s.pios := by
  rw [mciUpdateIrq_frame]; rfl
@[simp] theorem mciUpdateIrq_pio (s : State) (j : Fin 3) : (mciUpdateIrq s).pio j = s.pio j := by
  rw [mciUpdateIrq_frame]; rfl
@[simp] theorem mciUpdateIrq_pmc (s : State) : (mciUpdateIrq s).pmc = s.pmc := by
  rw [mciUpdateIrq_frame]; rfl
@[simp] theorem mciUpdateIrq_matrix (s : State) : (mciUpdateIrq s).matrix = s.matrix := by
  rw [mciUpdateIrq_frame]; rfl
@[simp] theorem mciUpdateIrq_rstc (s : State) : (mciUpdateIrq s).rstc = s.rstc := by
  rw [mciUpdateIrq_frame]; rfl
@[simp] theorem mciUpdateIrq_sdramc (s : State) : (mciUpdateIrq s).sdramc = s.sdramc := by
  rw [mciUpdateIrq_frame]; rfl
@[simp] theorem mciUpdateIrq_links (s : State) : (mciUpdateIrq s).links = s.links := by
  rw [mciUpdateIrq_frame]; rfl
@[simp] theorem mciUpdateIrq_link (s : State) (j : LinkId) : (mciUpdateIrq s).link j = s.link j := by
  rw [mciUpdateIrq_frame]; rfl

/-- The interrupt output of a PDC's host (R260). -/
theorem pdcUpdateIrq_frame (h : PdcHost) (s : State) :
    pdcUpdateIrq h s = (s.setSd (pdcUpdateIrq h s).sd).setAic (pdcUpdateIrq h s).aic := by
  cases h with
  | usart u =>
    show usartUpdateIrq u s = (s.setSd (usartUpdateIrq u s).sd).setAic (usartUpdateIrq u s).aic
    rw [usartUpdateIrq_frame]; rfl
  | spi u =>
    show spiUpdateIrq u s = (s.setSd (spiUpdateIrq u s).sd).setAic (spiUpdateIrq u s).aic
    rw [spiUpdateIrq_frame]; rfl
  | twi =>
    show twiUpdateIrq s = (s.setSd (twiUpdateIrq s).sd).setAic (twiUpdateIrq s).aic
    rw [twiUpdateIrq_frame]; rfl
  | mci => exact mciUpdateIrq_frame s

@[simp] theorem pdcUpdateIrq_params (h : PdcHost) (s : State) : (pdcUpdateIrq h s).params = s.params := by
  rw [pdcUpdateIrq_frame]; rfl
@[simp] theorem pdcUpdateIrq_inputs (h : PdcHost) (s : State) : (pdcUpdateIrq h s).inputs = s.inputs := by
  rw [pdcUpdateIrq_frame]; rfl
@[simp] theorem pdcUpdateIrq_rdata (h : PdcHost) (s : State) : (pdcUpdateIrq h s).rdata = s.rdata := by
  rw [pdcUpdateIrq_frame]; rfl
@[simp] theorem pdcUpdateIrq_fault (h : PdcHost) (s : State) : (pdcUpdateIrq h s).fault = s.fault := by
  rw [pdcUpdateIrq_frame]; rfl
@[simp] theorem pdcUpdateIrq_mem (h : PdcHost) (s : State) : (pdcUpdateIrq h s).mem = s.mem := by
  rw [pdcUpdateIrq_frame]; rfl
@[simp] theorem pdcUpdateIrq_bootTarget (h : PdcHost) (s : State) : (pdcUpdateIrq h s).bootTarget = s.bootTarget := by
  rw [pdcUpdateIrq_frame]; rfl
@[simp] theorem pdcUpdateIrq_stubIn (h : PdcHost) (s : State) : (pdcUpdateIrq h s).stubIn = s.stubIn := by
  rw [pdcUpdateIrq_frame]; rfl
@[simp] theorem pdcUpdateIrq_pdcs (h : PdcHost) (s : State) : (pdcUpdateIrq h s).pdcs = s.pdcs := by
  rw [pdcUpdateIrq_frame]; rfl
@[simp] theorem pdcUpdateIrq_pdc (h : PdcHost) (s : State) (j : PdcHost) : (pdcUpdateIrq h s).pdc j = s.pdc j := by
  rw [pdcUpdateIrq_frame]; rfl
@[simp] theorem pdcUpdateIrq_usarts (h : PdcHost) (s : State) : (pdcUpdateIrq h s).usarts = s.usarts := by
  rw [pdcUpdateIrq_frame]; rfl
@[simp] theorem pdcUpdateIrq_usart (h : PdcHost) (s : State) (j : Fin 6) : (pdcUpdateIrq h s).usart j = s.usart j := by
  rw [pdcUpdateIrq_frame]; rfl
@[simp] theorem pdcUpdateIrq_spis (h : PdcHost) (s : State) : (pdcUpdateIrq h s).spis = s.spis := by
  rw [pdcUpdateIrq_frame]; rfl
@[simp] theorem pdcUpdateIrq_spi (h : PdcHost) (s : State) (j : Fin 2) : (pdcUpdateIrq h s).spi j = s.spi j := by
  rw [pdcUpdateIrq_frame]; rfl
@[simp] theorem pdcUpdateIrq_twi (h : PdcHost) (s : State) : (pdcUpdateIrq h s).twi = s.twi := by
  rw [pdcUpdateIrq_frame]; rfl
@[simp] theorem pdcUpdateIrq_mci (h : PdcHost) (s : State) : (pdcUpdateIrq h s).mci = s.mci := by
  rw [pdcUpdateIrq_frame]; rfl
@[simp] theorem pdcUpdateIrq_tcs (h : PdcHost) (s : State) : (pdcUpdateIrq h s).tcs = s.tcs := by
  rw [pdcUpdateIrq_frame]; rfl
@[simp] theorem pdcUpdateIrq_tc (h : PdcHost) (s : State) (j : Fin 6) : (pdcUpdateIrq h s).tc j = s.tc j := by
  rw [pdcUpdateIrq_frame]; rfl
@[simp] theorem pdcUpdateIrq_tcBmr (h : PdcHost) (s : State) : (pdcUpdateIrq h s).tcBmr = s.tcBmr := by
  rw [pdcUpdateIrq_frame]; rfl
@[simp] theorem pdcUpdateIrq_bmr (h : PdcHost) (s : State) (j : Fin 2) : (pdcUpdateIrq h s).bmr j = s.bmr j := by
  rw [pdcUpdateIrq_frame]; rfl
@[simp] theorem pdcUpdateIrq_pit (h : PdcHost) (s : State) : (pdcUpdateIrq h s).pit = s.pit := by
  rw [pdcUpdateIrq_frame]; rfl
@[simp] theorem pdcUpdateIrq_rtt (h : PdcHost) (s : State) : (pdcUpdateIrq h s).rtt = s.rtt := by
  rw [pdcUpdateIrq_frame]; rfl
@[simp] theorem pdcUpdateIrq_dbgu (h : PdcHost) (s : State) : (pdcUpdateIrq h s).dbgu = s.dbgu := by
  rw [pdcUpdateIrq_frame]; rfl
@[simp] theorem pdcUpdateIrq_consoleOut (h : PdcHost) (s : State) : (pdcUpdateIrq h s).consoleOut = s.consoleOut := by
  rw [pdcUpdateIrq_frame]; rfl
@[simp] theorem pdcUpdateIrq_pios (h : PdcHost) (s : State) : (pdcUpdateIrq h s).pios = s.pios := by
  rw [pdcUpdateIrq_frame]; rfl
@[simp] theorem pdcUpdateIrq_pio (h : PdcHost) (s : State) (j : Fin 3) : (pdcUpdateIrq h s).pio j = s.pio j := by
  rw [pdcUpdateIrq_frame]; rfl
@[simp] theorem pdcUpdateIrq_pmc (h : PdcHost) (s : State) : (pdcUpdateIrq h s).pmc = s.pmc := by
  rw [pdcUpdateIrq_frame]; rfl
@[simp] theorem pdcUpdateIrq_matrix (h : PdcHost) (s : State) : (pdcUpdateIrq h s).matrix = s.matrix := by
  rw [pdcUpdateIrq_frame]; rfl
@[simp] theorem pdcUpdateIrq_rstc (h : PdcHost) (s : State) : (pdcUpdateIrq h s).rstc = s.rstc := by
  rw [pdcUpdateIrq_frame]; rfl
@[simp] theorem pdcUpdateIrq_sdramc (h : PdcHost) (s : State) : (pdcUpdateIrq h s).sdramc = s.sdramc := by
  rw [pdcUpdateIrq_frame]; rfl
@[simp] theorem pdcUpdateIrq_links (h : PdcHost) (s : State) : (pdcUpdateIrq h s).links = s.links := by
  rw [pdcUpdateIrq_frame]; rfl
@[simp] theorem pdcUpdateIrq_link (h : PdcHost) (s : State) (j : LinkId) : (pdcUpdateIrq h s).link j = s.link j := by
  rw [pdcUpdateIrq_frame]; rfl

/-! ### Links -/

/-- A frame out writes the server of its link only (R730 to R735). -/
theorem emit_frame (l : LinkId) (cat id : Byte) (payload : List Byte) (s : State) :
    emit l cat id payload s = s.setLink l ((emit l cat id payload s).link l) := by
  unfold emit; dsimp only; split
  · simp
  · exact (State.setLink_self s l).symm

@[simp] theorem emit_params (l : LinkId) (cat id : Byte) (payload : List Byte) (s : State) : (emit l cat id payload s).params = s.params := by
  rw [emit_frame]; rfl
@[simp] theorem emit_inputs (l : LinkId) (cat id : Byte) (payload : List Byte) (s : State) : (emit l cat id payload s).inputs = s.inputs := by
  rw [emit_frame]; rfl
@[simp] theorem emit_rdata (l : LinkId) (cat id : Byte) (payload : List Byte) (s : State) : (emit l cat id payload s).rdata = s.rdata := by
  rw [emit_frame]; rfl
@[simp] theorem emit_fault (l : LinkId) (cat id : Byte) (payload : List Byte) (s : State) : (emit l cat id payload s).fault = s.fault := by
  rw [emit_frame]; rfl
@[simp] theorem emit_mem (l : LinkId) (cat id : Byte) (payload : List Byte) (s : State) : (emit l cat id payload s).mem = s.mem := by
  rw [emit_frame]; rfl
@[simp] theorem emit_bootTarget (l : LinkId) (cat id : Byte) (payload : List Byte) (s : State) : (emit l cat id payload s).bootTarget = s.bootTarget := by
  rw [emit_frame]; rfl
@[simp] theorem emit_aic (l : LinkId) (cat id : Byte) (payload : List Byte) (s : State) : (emit l cat id payload s).aic = s.aic := by
  rw [emit_frame]; rfl
@[simp] theorem emit_stubIn (l : LinkId) (cat id : Byte) (payload : List Byte) (s : State) : (emit l cat id payload s).stubIn = s.stubIn := by
  rw [emit_frame]; rfl
@[simp] theorem emit_pdcs (l : LinkId) (cat id : Byte) (payload : List Byte) (s : State) : (emit l cat id payload s).pdcs = s.pdcs := by
  rw [emit_frame]; rfl
@[simp] theorem emit_pdc (l : LinkId) (cat id : Byte) (payload : List Byte) (s : State) (j : PdcHost) : (emit l cat id payload s).pdc j = s.pdc j := by
  rw [emit_frame]; rfl
@[simp] theorem emit_usarts (l : LinkId) (cat id : Byte) (payload : List Byte) (s : State) : (emit l cat id payload s).usarts = s.usarts := by
  rw [emit_frame]; rfl
@[simp] theorem emit_usart (l : LinkId) (cat id : Byte) (payload : List Byte) (s : State) (j : Fin 6) : (emit l cat id payload s).usart j = s.usart j := by
  rw [emit_frame]; rfl
@[simp] theorem emit_spis (l : LinkId) (cat id : Byte) (payload : List Byte) (s : State) : (emit l cat id payload s).spis = s.spis := by
  rw [emit_frame]; rfl
@[simp] theorem emit_spi (l : LinkId) (cat id : Byte) (payload : List Byte) (s : State) (j : Fin 2) : (emit l cat id payload s).spi j = s.spi j := by
  rw [emit_frame]; rfl
@[simp] theorem emit_twi (l : LinkId) (cat id : Byte) (payload : List Byte) (s : State) : (emit l cat id payload s).twi = s.twi := by
  rw [emit_frame]; rfl
@[simp] theorem emit_mci (l : LinkId) (cat id : Byte) (payload : List Byte) (s : State) : (emit l cat id payload s).mci = s.mci := by
  rw [emit_frame]; rfl
@[simp] theorem emit_tcs (l : LinkId) (cat id : Byte) (payload : List Byte) (s : State) : (emit l cat id payload s).tcs = s.tcs := by
  rw [emit_frame]; rfl
@[simp] theorem emit_tc (l : LinkId) (cat id : Byte) (payload : List Byte) (s : State) (j : Fin 6) : (emit l cat id payload s).tc j = s.tc j := by
  rw [emit_frame]; rfl
@[simp] theorem emit_tcBmr (l : LinkId) (cat id : Byte) (payload : List Byte) (s : State) : (emit l cat id payload s).tcBmr = s.tcBmr := by
  rw [emit_frame]; rfl
@[simp] theorem emit_bmr (l : LinkId) (cat id : Byte) (payload : List Byte) (s : State) (j : Fin 2) : (emit l cat id payload s).bmr j = s.bmr j := by
  rw [emit_frame]; rfl
@[simp] theorem emit_pit (l : LinkId) (cat id : Byte) (payload : List Byte) (s : State) : (emit l cat id payload s).pit = s.pit := by
  rw [emit_frame]; rfl
@[simp] theorem emit_rtt (l : LinkId) (cat id : Byte) (payload : List Byte) (s : State) : (emit l cat id payload s).rtt = s.rtt := by
  rw [emit_frame]; rfl
@[simp] theorem emit_dbgu (l : LinkId) (cat id : Byte) (payload : List Byte) (s : State) : (emit l cat id payload s).dbgu = s.dbgu := by
  rw [emit_frame]; rfl
@[simp] theorem emit_consoleOut (l : LinkId) (cat id : Byte) (payload : List Byte) (s : State) : (emit l cat id payload s).consoleOut = s.consoleOut := by
  rw [emit_frame]; rfl
@[simp] theorem emit_pios (l : LinkId) (cat id : Byte) (payload : List Byte) (s : State) : (emit l cat id payload s).pios = s.pios := by
  rw [emit_frame]; rfl
@[simp] theorem emit_pio (l : LinkId) (cat id : Byte) (payload : List Byte) (s : State) (j : Fin 3) : (emit l cat id payload s).pio j = s.pio j := by
  rw [emit_frame]; rfl
@[simp] theorem emit_pmc (l : LinkId) (cat id : Byte) (payload : List Byte) (s : State) : (emit l cat id payload s).pmc = s.pmc := by
  rw [emit_frame]; rfl
@[simp] theorem emit_matrix (l : LinkId) (cat id : Byte) (payload : List Byte) (s : State) : (emit l cat id payload s).matrix = s.matrix := by
  rw [emit_frame]; rfl
@[simp] theorem emit_rstc (l : LinkId) (cat id : Byte) (payload : List Byte) (s : State) : (emit l cat id payload s).rstc = s.rstc := by
  rw [emit_frame]; rfl
@[simp] theorem emit_sdramc (l : LinkId) (cat id : Byte) (payload : List Byte) (s : State) : (emit l cat id payload s).sdramc = s.sdramc := by
  rw [emit_frame]; rfl
@[simp] theorem emit_sd (l : LinkId) (cat id : Byte) (payload : List Byte) (s : State) : (emit l cat id payload s).sd = s.sd := by
  rw [emit_frame]; rfl

/-- A frame out writes the server of its link only (R730 to R735). -/
theorem emitData_frame (l : LinkId) (bs : List Byte) (s : State) :
    emitData l bs s = s.setLink l ((emitData l bs s).link l) := by
  unfold emitData; dsimp only; split
  · simp
  · exact (State.setLink_self s l).symm

@[simp] theorem emitData_params (l : LinkId) (bs : List Byte) (s : State) : (emitData l bs s).params = s.params := by
  rw [emitData_frame]; rfl
@[simp] theorem emitData_inputs (l : LinkId) (bs : List Byte) (s : State) : (emitData l bs s).inputs = s.inputs := by
  rw [emitData_frame]; rfl
@[simp] theorem emitData_rdata (l : LinkId) (bs : List Byte) (s : State) : (emitData l bs s).rdata = s.rdata := by
  rw [emitData_frame]; rfl
@[simp] theorem emitData_fault (l : LinkId) (bs : List Byte) (s : State) : (emitData l bs s).fault = s.fault := by
  rw [emitData_frame]; rfl
@[simp] theorem emitData_mem (l : LinkId) (bs : List Byte) (s : State) : (emitData l bs s).mem = s.mem := by
  rw [emitData_frame]; rfl
@[simp] theorem emitData_bootTarget (l : LinkId) (bs : List Byte) (s : State) : (emitData l bs s).bootTarget = s.bootTarget := by
  rw [emitData_frame]; rfl
@[simp] theorem emitData_aic (l : LinkId) (bs : List Byte) (s : State) : (emitData l bs s).aic = s.aic := by
  rw [emitData_frame]; rfl
@[simp] theorem emitData_stubIn (l : LinkId) (bs : List Byte) (s : State) : (emitData l bs s).stubIn = s.stubIn := by
  rw [emitData_frame]; rfl
@[simp] theorem emitData_pdcs (l : LinkId) (bs : List Byte) (s : State) : (emitData l bs s).pdcs = s.pdcs := by
  rw [emitData_frame]; rfl
@[simp] theorem emitData_pdc (l : LinkId) (bs : List Byte) (s : State) (j : PdcHost) : (emitData l bs s).pdc j = s.pdc j := by
  rw [emitData_frame]; rfl
@[simp] theorem emitData_usarts (l : LinkId) (bs : List Byte) (s : State) : (emitData l bs s).usarts = s.usarts := by
  rw [emitData_frame]; rfl
@[simp] theorem emitData_usart (l : LinkId) (bs : List Byte) (s : State) (j : Fin 6) : (emitData l bs s).usart j = s.usart j := by
  rw [emitData_frame]; rfl
@[simp] theorem emitData_spis (l : LinkId) (bs : List Byte) (s : State) : (emitData l bs s).spis = s.spis := by
  rw [emitData_frame]; rfl
@[simp] theorem emitData_spi (l : LinkId) (bs : List Byte) (s : State) (j : Fin 2) : (emitData l bs s).spi j = s.spi j := by
  rw [emitData_frame]; rfl
@[simp] theorem emitData_twi (l : LinkId) (bs : List Byte) (s : State) : (emitData l bs s).twi = s.twi := by
  rw [emitData_frame]; rfl
@[simp] theorem emitData_mci (l : LinkId) (bs : List Byte) (s : State) : (emitData l bs s).mci = s.mci := by
  rw [emitData_frame]; rfl
@[simp] theorem emitData_tcs (l : LinkId) (bs : List Byte) (s : State) : (emitData l bs s).tcs = s.tcs := by
  rw [emitData_frame]; rfl
@[simp] theorem emitData_tc (l : LinkId) (bs : List Byte) (s : State) (j : Fin 6) : (emitData l bs s).tc j = s.tc j := by
  rw [emitData_frame]; rfl
@[simp] theorem emitData_tcBmr (l : LinkId) (bs : List Byte) (s : State) : (emitData l bs s).tcBmr = s.tcBmr := by
  rw [emitData_frame]; rfl
@[simp] theorem emitData_bmr (l : LinkId) (bs : List Byte) (s : State) (j : Fin 2) : (emitData l bs s).bmr j = s.bmr j := by
  rw [emitData_frame]; rfl
@[simp] theorem emitData_pit (l : LinkId) (bs : List Byte) (s : State) : (emitData l bs s).pit = s.pit := by
  rw [emitData_frame]; rfl
@[simp] theorem emitData_rtt (l : LinkId) (bs : List Byte) (s : State) : (emitData l bs s).rtt = s.rtt := by
  rw [emitData_frame]; rfl
@[simp] theorem emitData_dbgu (l : LinkId) (bs : List Byte) (s : State) : (emitData l bs s).dbgu = s.dbgu := by
  rw [emitData_frame]; rfl
@[simp] theorem emitData_consoleOut (l : LinkId) (bs : List Byte) (s : State) : (emitData l bs s).consoleOut = s.consoleOut := by
  rw [emitData_frame]; rfl
@[simp] theorem emitData_pios (l : LinkId) (bs : List Byte) (s : State) : (emitData l bs s).pios = s.pios := by
  rw [emitData_frame]; rfl
@[simp] theorem emitData_pio (l : LinkId) (bs : List Byte) (s : State) (j : Fin 3) : (emitData l bs s).pio j = s.pio j := by
  rw [emitData_frame]; rfl
@[simp] theorem emitData_pmc (l : LinkId) (bs : List Byte) (s : State) : (emitData l bs s).pmc = s.pmc := by
  rw [emitData_frame]; rfl
@[simp] theorem emitData_matrix (l : LinkId) (bs : List Byte) (s : State) : (emitData l bs s).matrix = s.matrix := by
  rw [emitData_frame]; rfl
@[simp] theorem emitData_rstc (l : LinkId) (bs : List Byte) (s : State) : (emitData l bs s).rstc = s.rstc := by
  rw [emitData_frame]; rfl
@[simp] theorem emitData_sdramc (l : LinkId) (bs : List Byte) (s : State) : (emitData l bs s).sdramc = s.sdramc := by
  rw [emitData_frame]; rfl
@[simp] theorem emitData_sd (l : LinkId) (bs : List Byte) (s : State) : (emitData l bs s).sd = s.sd := by
  rw [emitData_frame]; rfl

/-- A frame out writes the server of its link only (R730 to R735). -/
theorem respond_frame (l : LinkId) (seq cat id : Byte) (payload : List Byte) (s : State) :
    respond l seq cat id payload s = s.setLink l ((respond l seq cat id payload s).link l) := by
  unfold respond; simp

@[simp] theorem respond_params (l : LinkId) (seq cat id : Byte) (payload : List Byte) (s : State) : (respond l seq cat id payload s).params = s.params := by
  rw [respond_frame]; rfl
@[simp] theorem respond_inputs (l : LinkId) (seq cat id : Byte) (payload : List Byte) (s : State) : (respond l seq cat id payload s).inputs = s.inputs := by
  rw [respond_frame]; rfl
@[simp] theorem respond_rdata (l : LinkId) (seq cat id : Byte) (payload : List Byte) (s : State) : (respond l seq cat id payload s).rdata = s.rdata := by
  rw [respond_frame]; rfl
@[simp] theorem respond_fault (l : LinkId) (seq cat id : Byte) (payload : List Byte) (s : State) : (respond l seq cat id payload s).fault = s.fault := by
  rw [respond_frame]; rfl
@[simp] theorem respond_mem (l : LinkId) (seq cat id : Byte) (payload : List Byte) (s : State) : (respond l seq cat id payload s).mem = s.mem := by
  rw [respond_frame]; rfl
@[simp] theorem respond_bootTarget (l : LinkId) (seq cat id : Byte) (payload : List Byte) (s : State) : (respond l seq cat id payload s).bootTarget = s.bootTarget := by
  rw [respond_frame]; rfl
@[simp] theorem respond_aic (l : LinkId) (seq cat id : Byte) (payload : List Byte) (s : State) : (respond l seq cat id payload s).aic = s.aic := by
  rw [respond_frame]; rfl
@[simp] theorem respond_stubIn (l : LinkId) (seq cat id : Byte) (payload : List Byte) (s : State) : (respond l seq cat id payload s).stubIn = s.stubIn := by
  rw [respond_frame]; rfl
@[simp] theorem respond_pdcs (l : LinkId) (seq cat id : Byte) (payload : List Byte) (s : State) : (respond l seq cat id payload s).pdcs = s.pdcs := by
  rw [respond_frame]; rfl
@[simp] theorem respond_pdc (l : LinkId) (seq cat id : Byte) (payload : List Byte) (s : State) (j : PdcHost) : (respond l seq cat id payload s).pdc j = s.pdc j := by
  rw [respond_frame]; rfl
@[simp] theorem respond_usarts (l : LinkId) (seq cat id : Byte) (payload : List Byte) (s : State) : (respond l seq cat id payload s).usarts = s.usarts := by
  rw [respond_frame]; rfl
@[simp] theorem respond_usart (l : LinkId) (seq cat id : Byte) (payload : List Byte) (s : State) (j : Fin 6) : (respond l seq cat id payload s).usart j = s.usart j := by
  rw [respond_frame]; rfl
@[simp] theorem respond_spis (l : LinkId) (seq cat id : Byte) (payload : List Byte) (s : State) : (respond l seq cat id payload s).spis = s.spis := by
  rw [respond_frame]; rfl
@[simp] theorem respond_spi (l : LinkId) (seq cat id : Byte) (payload : List Byte) (s : State) (j : Fin 2) : (respond l seq cat id payload s).spi j = s.spi j := by
  rw [respond_frame]; rfl
@[simp] theorem respond_twi (l : LinkId) (seq cat id : Byte) (payload : List Byte) (s : State) : (respond l seq cat id payload s).twi = s.twi := by
  rw [respond_frame]; rfl
@[simp] theorem respond_mci (l : LinkId) (seq cat id : Byte) (payload : List Byte) (s : State) : (respond l seq cat id payload s).mci = s.mci := by
  rw [respond_frame]; rfl
@[simp] theorem respond_tcs (l : LinkId) (seq cat id : Byte) (payload : List Byte) (s : State) : (respond l seq cat id payload s).tcs = s.tcs := by
  rw [respond_frame]; rfl
@[simp] theorem respond_tc (l : LinkId) (seq cat id : Byte) (payload : List Byte) (s : State) (j : Fin 6) : (respond l seq cat id payload s).tc j = s.tc j := by
  rw [respond_frame]; rfl
@[simp] theorem respond_tcBmr (l : LinkId) (seq cat id : Byte) (payload : List Byte) (s : State) : (respond l seq cat id payload s).tcBmr = s.tcBmr := by
  rw [respond_frame]; rfl
@[simp] theorem respond_bmr (l : LinkId) (seq cat id : Byte) (payload : List Byte) (s : State) (j : Fin 2) : (respond l seq cat id payload s).bmr j = s.bmr j := by
  rw [respond_frame]; rfl
@[simp] theorem respond_pit (l : LinkId) (seq cat id : Byte) (payload : List Byte) (s : State) : (respond l seq cat id payload s).pit = s.pit := by
  rw [respond_frame]; rfl
@[simp] theorem respond_rtt (l : LinkId) (seq cat id : Byte) (payload : List Byte) (s : State) : (respond l seq cat id payload s).rtt = s.rtt := by
  rw [respond_frame]; rfl
@[simp] theorem respond_dbgu (l : LinkId) (seq cat id : Byte) (payload : List Byte) (s : State) : (respond l seq cat id payload s).dbgu = s.dbgu := by
  rw [respond_frame]; rfl
@[simp] theorem respond_consoleOut (l : LinkId) (seq cat id : Byte) (payload : List Byte) (s : State) : (respond l seq cat id payload s).consoleOut = s.consoleOut := by
  rw [respond_frame]; rfl
@[simp] theorem respond_pios (l : LinkId) (seq cat id : Byte) (payload : List Byte) (s : State) : (respond l seq cat id payload s).pios = s.pios := by
  rw [respond_frame]; rfl
@[simp] theorem respond_pio (l : LinkId) (seq cat id : Byte) (payload : List Byte) (s : State) (j : Fin 3) : (respond l seq cat id payload s).pio j = s.pio j := by
  rw [respond_frame]; rfl
@[simp] theorem respond_pmc (l : LinkId) (seq cat id : Byte) (payload : List Byte) (s : State) : (respond l seq cat id payload s).pmc = s.pmc := by
  rw [respond_frame]; rfl
@[simp] theorem respond_matrix (l : LinkId) (seq cat id : Byte) (payload : List Byte) (s : State) : (respond l seq cat id payload s).matrix = s.matrix := by
  rw [respond_frame]; rfl
@[simp] theorem respond_rstc (l : LinkId) (seq cat id : Byte) (payload : List Byte) (s : State) : (respond l seq cat id payload s).rstc = s.rstc := by
  rw [respond_frame]; rfl
@[simp] theorem respond_sdramc (l : LinkId) (seq cat id : Byte) (payload : List Byte) (s : State) : (respond l seq cat id payload s).sdramc = s.sdramc := by
  rw [respond_frame]; rfl
@[simp] theorem respond_sd (l : LinkId) (seq cat id : Byte) (payload : List Byte) (s : State) : (respond l seq cat id payload s).sd = s.sd := by
  rw [respond_frame]; rfl

/-- A frame out writes the server of its link only (R730 to R735). -/
theorem reply_frame (l : LinkId) (seq : Byte) (status : Word) (s : State) :
    reply l seq status s = s.setLink l ((reply l seq status s).link l) := by
  unfold reply; exact respond_frame _ _ _ _ _ _

@[simp] theorem reply_params (l : LinkId) (seq : Byte) (status : Word) (s : State) : (reply l seq status s).params = s.params := by
  rw [reply_frame]; rfl
@[simp] theorem reply_inputs (l : LinkId) (seq : Byte) (status : Word) (s : State) : (reply l seq status s).inputs = s.inputs := by
  rw [reply_frame]; rfl
@[simp] theorem reply_rdata (l : LinkId) (seq : Byte) (status : Word) (s : State) : (reply l seq status s).rdata = s.rdata := by
  rw [reply_frame]; rfl
@[simp] theorem reply_fault (l : LinkId) (seq : Byte) (status : Word) (s : State) : (reply l seq status s).fault = s.fault := by
  rw [reply_frame]; rfl
@[simp] theorem reply_mem (l : LinkId) (seq : Byte) (status : Word) (s : State) : (reply l seq status s).mem = s.mem := by
  rw [reply_frame]; rfl
@[simp] theorem reply_bootTarget (l : LinkId) (seq : Byte) (status : Word) (s : State) : (reply l seq status s).bootTarget = s.bootTarget := by
  rw [reply_frame]; rfl
@[simp] theorem reply_aic (l : LinkId) (seq : Byte) (status : Word) (s : State) : (reply l seq status s).aic = s.aic := by
  rw [reply_frame]; rfl
@[simp] theorem reply_stubIn (l : LinkId) (seq : Byte) (status : Word) (s : State) : (reply l seq status s).stubIn = s.stubIn := by
  rw [reply_frame]; rfl
@[simp] theorem reply_pdcs (l : LinkId) (seq : Byte) (status : Word) (s : State) : (reply l seq status s).pdcs = s.pdcs := by
  rw [reply_frame]; rfl
@[simp] theorem reply_pdc (l : LinkId) (seq : Byte) (status : Word) (s : State) (j : PdcHost) : (reply l seq status s).pdc j = s.pdc j := by
  rw [reply_frame]; rfl
@[simp] theorem reply_usarts (l : LinkId) (seq : Byte) (status : Word) (s : State) : (reply l seq status s).usarts = s.usarts := by
  rw [reply_frame]; rfl
@[simp] theorem reply_usart (l : LinkId) (seq : Byte) (status : Word) (s : State) (j : Fin 6) : (reply l seq status s).usart j = s.usart j := by
  rw [reply_frame]; rfl
@[simp] theorem reply_spis (l : LinkId) (seq : Byte) (status : Word) (s : State) : (reply l seq status s).spis = s.spis := by
  rw [reply_frame]; rfl
@[simp] theorem reply_spi (l : LinkId) (seq : Byte) (status : Word) (s : State) (j : Fin 2) : (reply l seq status s).spi j = s.spi j := by
  rw [reply_frame]; rfl
@[simp] theorem reply_twi (l : LinkId) (seq : Byte) (status : Word) (s : State) : (reply l seq status s).twi = s.twi := by
  rw [reply_frame]; rfl
@[simp] theorem reply_mci (l : LinkId) (seq : Byte) (status : Word) (s : State) : (reply l seq status s).mci = s.mci := by
  rw [reply_frame]; rfl
@[simp] theorem reply_tcs (l : LinkId) (seq : Byte) (status : Word) (s : State) : (reply l seq status s).tcs = s.tcs := by
  rw [reply_frame]; rfl
@[simp] theorem reply_tc (l : LinkId) (seq : Byte) (status : Word) (s : State) (j : Fin 6) : (reply l seq status s).tc j = s.tc j := by
  rw [reply_frame]; rfl
@[simp] theorem reply_tcBmr (l : LinkId) (seq : Byte) (status : Word) (s : State) : (reply l seq status s).tcBmr = s.tcBmr := by
  rw [reply_frame]; rfl
@[simp] theorem reply_bmr (l : LinkId) (seq : Byte) (status : Word) (s : State) (j : Fin 2) : (reply l seq status s).bmr j = s.bmr j := by
  rw [reply_frame]; rfl
@[simp] theorem reply_pit (l : LinkId) (seq : Byte) (status : Word) (s : State) : (reply l seq status s).pit = s.pit := by
  rw [reply_frame]; rfl
@[simp] theorem reply_rtt (l : LinkId) (seq : Byte) (status : Word) (s : State) : (reply l seq status s).rtt = s.rtt := by
  rw [reply_frame]; rfl
@[simp] theorem reply_dbgu (l : LinkId) (seq : Byte) (status : Word) (s : State) : (reply l seq status s).dbgu = s.dbgu := by
  rw [reply_frame]; rfl
@[simp] theorem reply_consoleOut (l : LinkId) (seq : Byte) (status : Word) (s : State) : (reply l seq status s).consoleOut = s.consoleOut := by
  rw [reply_frame]; rfl
@[simp] theorem reply_pios (l : LinkId) (seq : Byte) (status : Word) (s : State) : (reply l seq status s).pios = s.pios := by
  rw [reply_frame]; rfl
@[simp] theorem reply_pio (l : LinkId) (seq : Byte) (status : Word) (s : State) (j : Fin 3) : (reply l seq status s).pio j = s.pio j := by
  rw [reply_frame]; rfl
@[simp] theorem reply_pmc (l : LinkId) (seq : Byte) (status : Word) (s : State) : (reply l seq status s).pmc = s.pmc := by
  rw [reply_frame]; rfl
@[simp] theorem reply_matrix (l : LinkId) (seq : Byte) (status : Word) (s : State) : (reply l seq status s).matrix = s.matrix := by
  rw [reply_frame]; rfl
@[simp] theorem reply_rstc (l : LinkId) (seq : Byte) (status : Word) (s : State) : (reply l seq status s).rstc = s.rstc := by
  rw [reply_frame]; rfl
@[simp] theorem reply_sdramc (l : LinkId) (seq : Byte) (status : Word) (s : State) : (reply l seq status s).sdramc = s.sdramc := by
  rw [reply_frame]; rfl
@[simp] theorem reply_sd (l : LinkId) (seq : Byte) (status : Word) (s : State) : (reply l seq status s).sd = s.sd := by
  rw [reply_frame]; rfl

/-! ### Reads and aborts -/

@[simp] theorem State.returns_eq (s : State) (v : Word) : s.returns v = s.setRdata v := rfl

@[simp] theorem readPlain_eq (get : State → Word) (s : State) : readPlain get s = s.setRdata (get s) := rfl

/-- The next sub-action happens when nothing aborted (R770). -/
theorem State.andThen_live {s : State} (f : State → State) (h : s.fault = none) : s.andThen f = f s := by
  simp [State.andThen, h]

/-- The next sub-action does not happen after an abort (R770). -/
theorem State.andThen_aborted {s : State} (f : State → State) (h : s.fault.isSome = true) : s.andThen f = s := by
  simp [State.andThen, h]

/-! ### CPU accesses to memory -/

/-- No byte is outside exactly when a DMA could read them all: each lies in a memory-backed region (R8, R95). -/
theorem State.firstOutside_eq_none_iff (s : State) (p : Word) (n : Nat) :
    s.firstOutside p n = none ↔ s.dmaAll (dmaReadable s.params.sizes) p n = true := by
  induction n generalizing p with
  | zero => simp [State.firstOutside, State.dmaAll]
  | succ n ih =>
    rw [State.firstOutside, State.dmaAll]
    split <;> simp_all [dmaReadable]

/-- The first byte outside memory decides what the abort names (R8): the bytes before it do not. -/
theorem State.firstOutside_at {s : State} {n k : Nat} {p : Word} (hk : k < n)
    (hp : s.dmaAll (dmaReadable s.params.sizes) p k = true)
    (ho : memoryAt s.params.sizes (s.redirect (p + BitVec.ofNat 32 k)) = none) :
    s.firstOutside p n = some (s.redirect (p + BitVec.ofNat 32 k)) := by
  induction n generalizing p k with
  | zero => omega
  | succ n ih =>
    cases k with
    | zero => simp_all [State.firstOutside]
    | succ k =>
      simp only [State.dmaAll, dmaReadable, Bool.and_eq_true] at hp
      have e : p + BitVec.ofNat 32 (k + 1) = p + 1#32 + BitVec.ofNat 32 k := by
        apply BitVec.eq_of_toNat_eq
        simp [BitVec.toNat_add, BitVec.toNat_ofNat]
        omega
      rw [e] at ho ⊢
      rw [State.firstOutside, if_pos hp.1]
      exact ih (by omega) hp.2 ho

/-- A CPU access to memory either has every byte in memory and goes through, or it aborts and moves nothing (R8). -/
theorem memAccess_cases (dir : Dir) (addr : Word) (size : AccessSize) (v : Word) (f : State → State) (s : State) :
    (s.dmaAll (dmaReadable s.params.sizes) addr size.bytes = true ∧ memAccess dir addr size v f s = f s)
      ∨ ∃ a, s.firstOutside addr size.bytes = some a
        ∧ memAccess dir addr size v f s = s.raise (.reserved addr a dir size.bytes v) := by
  unfold memAccess
  cases h : s.firstOutside addr size.bytes with
  | none => exact .inl ⟨(s.firstOutside_eq_none_iff _ _).mp h, rfl⟩
  | some a => exact .inr ⟨a, rfl, rfl⟩

/-- A read whose bytes all lie in memory returns them (R90). -/
theorem memRead_inside {addr : Word} {size : AccessSize} {s : State}
    (h : s.dmaAll (dmaReadable s.params.sizes) addr size.bytes = true) :
    memRead addr size s = s.setRdata (leWord (s.loadBytes addr size.bytes)) := by
  simp [memRead, memAccess, (s.firstOutside_eq_none_iff _ _).mpr h]

/-- A write whose bytes all lie in memory stores the low bytes of the datum (R90). -/
theorem memWrite_inside {addr v : Word} {size : AccessSize} {s : State}
    (h : s.dmaAll (dmaReadable s.params.sizes) addr size.bytes = true) :
    memWrite addr size v s = s.storeBytes addr (leBytes size.bytes v) := by
  simp [memWrite, memAccess, (s.firstOutside_eq_none_iff _ _).mpr h]

/-! ### DMA -/

/-- A DMA write either moves every byte or aborts before any moves (R95, R273). -/
theorem dmaStore_cases (h : PdcHost) (p : Word) (bs : List Byte) (s : State) :
    (s.dmaAll (dmaWritable s.params.sizes) p bs.length = true ∧ dmaStore h p bs s = s.storeBytes p bs)
      ∨ (s.dmaAll (dmaWritable s.params.sizes) p bs.length = false
        ∧ dmaStore h p bs s = s.raise (.dma h p (s.dmaWriteError p bs))) := by
  unfold dmaStore
  cases hd : s.dmaAll (dmaWritable s.params.sizes) p bs.length <;> simp

/-- The first byte a DMA may not write decides the underlying error (R85, R95): the bytes before it do not. -/
theorem State.dmaWriteError_at {s : State} {b : Byte} (bs : List Byte) {p : Word} (k : Nat) (hb : bs[k]? = some b)
    (hp : s.dmaAll (dmaWritable s.params.sizes) p k = true)
    (hw : dmaWritable s.params.sizes (s.redirect (p + BitVec.ofNat 32 k)) = false) :
    s.dmaWriteError p bs = if inRom s.params.sizes (s.redirect (p + BitVec.ofNat 32 k)) then
      .romWrite (s.redirect (p + BitVec.ofNat 32 k)) (b.setWidth 32) else .notMemory := by
  induction bs generalizing p k with
  | nil => simp at hb
  | cons c cs ih =>
    cases k with
    | zero => simp_all [State.dmaWriteError]
    | succ k =>
      simp only [State.dmaAll, Bool.and_eq_true] at hp
      have e : p + BitVec.ofNat 32 (k + 1) = p + 1#32 + BitVec.ofNat 32 k := by
        apply BitVec.eq_of_toNat_eq
        simp [BitVec.toNat_add, BitVec.toNat_ofNat]
        omega
      rw [e] at hw ⊢
      rw [State.dmaWriteError, if_pos hp.1]
      exact ih k (by simpa using hb) hp.2 hw

end Sys2Proof.Machine
end

