-- ==== Sys2Proof/Laws/Safety.lean ====
section
/-! SUPPORT. The conditions of `Safety.lean` in the form the other lemmas take them, and how the change of one
interrupt line composes over the steps of a transfer. -/

namespace Sys2Proof.Machine

/-- A transaction is served at once when nothing aborted and no SPI holds the CPU (R150). -/
theorem State.ready_iff (s : State) : s.ready = true ↔ s.fault = none ∧ s.held = false := by
  cases hf : s.fault <;> cases hh : s.held <;> simp [State.ready, hf, hh]

/-- A served transaction has its effect (R150). -/
theorem runBus_ready {f : State → State} {s : State} (h : s.ready = true) : runBus f s = .next (f s) :=
  runBus_served ((State.ready_iff s).1 h).1 ((State.ready_iff s).1 h).2

/-- A served transaction finds no abort (R770). -/
theorem State.ready_fault {s : State} (h : s.ready = true) : s.fault = none := ((State.ready_iff s).1 h).1

/-- A buffer that may be written is one whose every byte passes the test of R95. -/
theorem State.writableBuffer_eq (s : State) (p : Word) (n : Nat) :
    s.writableBuffer p n = s.dmaAll (dmaWritable s.params.sizes) p n := rfl

/-- A buffer that may be read is one whose every byte passes the test of R95. -/
theorem State.readableBuffer_eq (s : State) (p : Word) (n : Nat) :
    s.readableBuffer p n = s.dmaAll (dmaReadable s.params.sizes) p n := rfl

/-! ### One interrupt line -/

/-- Nothing has changed at the AIC. -/
theorem Aic.onlyLine_refl (n : Fin 32) (a : Aic) : Aic.onlyLine n a a := ⟨fun _ _ => ⟨rfl, rfl⟩, rfl, id⟩

/-- Two changes of one line make a change of that line. -/
theorem Aic.onlyLine_trans {n : Fin 32} {a b c : Aic} (h : Aic.onlyLine n a b) (k : Aic.onlyLine n b c) :
    Aic.onlyLine n a c := by
  refine ⟨fun m hm => ⟨(k.1 m hm).1.trans (h.1 m hm).1, (k.1 m hm).2.trans (h.1 m hm).2⟩, ?_, fun ha => k.2.2 (h.2.2 ha)⟩
  rw [k.2.1, h.2.1]

/-- Another bit of a word in which one bit was put (R222). -/
theorem bit_putBit_other (w : Word) {n m : Fin 32} (b : Bool) (h : m ≠ n) :
    bit (putBit w n.val b) m.val = bit w m.val := by
  have hv : m.val ≠ n.val := fun e => h (Fin.ext e)
  cases b <;> simp [bit, putBit] <;> omega

/-- The outputs recomputed twice are the outputs recomputed once (R217, R218). -/
theorem Aic.update_update (a : Aic) : a.update.update = a.update := rfl

/-- A driven line is all that changes (R222). -/
theorem driveLine_onlyLine (n : Fin 32) (b : Bool) (s : State) : Aic.onlyLine n s.aic (driveLine n b s).aic := by
  unfold driveLine
  split
  · exact Aic.onlyLine_refl n s.aic
  · refine ⟨fun m hm => ⟨bit_putBit_other _ _ hm, ?_⟩, rfl, fun _ => rfl⟩
    show bit (s.aic.latchAfter n b) m.val = bit s.aic.latch m.val
    unfold Aic.latchAfter
    split <;> cases b <;> simp [bit_putBit_other _ _ hm]

/-- The recomputation of a host's interrupt output makes the output follow (R269, R778). -/
theorem irqFollows_pdcUpdateIrq (h : PdcHost) (s : State) : irqFollows h s (pdcUpdateIrq h s) := by
  cases h with
  | usart u =>
    have e : usartLine u = hostLine (.usart u) := by revert u; decide
    refine ⟨?_, e ▸ driveLine_onlyLine (usartLine u) _ s⟩
    show bit (driveLine (usartLine u) _ s).aic.line _ = _
    rw [← e, driveLine_line]
    show _ = decide ((driveLine (usartLine u) _ s).usartCsr u &&& ((driveLine (usartLine u) _ s).usart u).imr ≠ 0#32)
    rw [driveLine_frame]; rfl
  | spi u =>
    have e : spiLine u = hostLine (.spi u) := by revert u; decide
    refine ⟨?_, e ▸ driveLine_onlyLine (spiLine u) _ s⟩
    show bit (driveLine (spiLine u) _ s).aic.line _ = _
    rw [← e, driveLine_line]
    show _ = decide ((driveLine (spiLine u) _ s).spiSr u &&& ((driveLine (spiLine u) _ s).spi u).imr ≠ 0#32)
    rw [driveLine_frame]; rfl
  | twi =>
    refine ⟨?_, driveLine_onlyLine 11 _ s⟩
    show bit (driveLine 11 _ s).aic.line (11 : Fin 32).val = _
    rw [driveLine_line]
    show _ = decide ((driveLine 11 _ s).twiSr &&& (driveLine 11 _ s).twi.imr ≠ 0#32)
    rw [driveLine_frame]; rfl
  | mci =>
    refine ⟨?_, driveLine_onlyLine 9 _ s⟩
    show bit (driveLine 9 _ s).aic.line (9 : Fin 32).val = _
    rw [driveLine_line]
    unfold pdcUpdateIrq mciUpdateIrq
    rw [driveLine_frame]; rfl

end Sys2Proof.Machine
end

