-- ==== Sys2Proof/Tests/Slice0.lean ====
section
/-! SUPPORT. Tests: the checks of `WellFormed.lean`, the decoding of every row, one-step examples whose expected values
are the vectors of `spec/95_test_vectors.md` or hand calculation from the rules named, and a concrete case of the
hypotheses of each statement. Every state is `State.reset` with one component changed by a helper. -/

namespace Sys2Proof.Tests

set_option Elab.async false

open Sys2Proof Sys2Proof.Machine

/-! ### Helpers -/

/-- A read of the CPU. -/
def rd (a : Word) (size : Nat) : BusTxn := ⟨.read, a, size, 0⟩

/-- A write of the CPU. -/
def wr (a : Word) (size : Nat) (v : Word) : BusTxn := ⟨.write, a, size, v⟩

/-- Each transaction decodes to the instruction beside it. -/
noncomputable def decodesAll (l : List (BusTxn × Instr)) : Bool := l.all fun p => decide (decode .iobc (.bus p.1) = .ok p.2)

/-- Each instruction is ill formed. -/
def illFormed (l : List Instr) : Bool := l.all fun i => !i.wellFormed .iobc

/-- A payload that fits no frame. -/
def tooLong : List Byte := List.replicate 256 0#8

/-- The state one agent's step leads to. -/
noncomputable def after (s : State) (i : Input) : Option State :=
  match step (s.setInputs [i]) with
  | .next t => some t
  | _ => none

/-- What is seen of the state after one step. -/
noncomputable def seen {α : Type} (s : State) (i : Input) (f : State → α) : Option α := (after s i).map f

/-- The outcome is a next state. -/
def answers (o : Host.Outcome State Fault Refusal) : Bool :=
  match o with
  | .next _ => true
  | _ => false

def withAic (f : Aic → Aic) : State := State.reset.setAic (f State.reset.aic)
def withPdc (h : PdcHost) (f : Pdc → Pdc) (s : State) : State := s.setPdc h (f (s.pdc h))
def withUsart (u : Fin 6) (f : Usart → Usart) : State := State.reset.setUsart u (f (State.reset.usart u))
def withSpi (u : Fin 2) (f : Spi → Spi) : State := State.reset.setSpi u (f (State.reset.spi u))
def withTwi (f : Twi → Twi) : State := State.reset.setTwi (f State.reset.twi)
def withMci (f : Mci → Mci) : State := State.reset.setMci (f State.reset.mci)
def withTc (c : Fin 6) (f : TcChannel → TcChannel) : State := State.reset.setTc c (f (State.reset.tc c))
def withPio (p : Fin 3) (f : Pio → Pio) : State := State.reset.setPio p (f (State.reset.pio p))
def withPmc (f : Pmc → Pmc) : State := State.reset.setPmc (f State.reset.pmc)
def withParams (f : Params → Params) : State := { State.reset with params := f Params.iobc }
def withClient (l : LinkId) (s : State) : State := s.setLink l { s.link l with client := true }
def withCard (c : SdCard) (s : State) : State := s.setSdCard 0 c

/-- Two edge lines, 6 at priority 5 and 9 at priority 3, both enabled and latched (vector P2). -/
def twoLines : State := withAic fun a =>
  ({ a with
    smr := (a.smr.set 6 0x25#32).set 9 0x23#32
    svr := (a.svr.set 6 0x20000600#32).set 9 0x20000900#32
    imr := 0x240#32
    latch := 0x240#32 }).update

/-- The AIC with its in-service stack full. -/
def fullStack (dcr : Word) : State := withAic fun a => { a with stack := List.replicate 8 ⟨0, 8⟩, dcr := dcr }

/-- An aborted machine. -/
def aborted : State := State.reset.raise (.aicStack 8)

/-- An SPI that awaits the echo of one unit. -/
def awaiting : State := withSpi 0 fun x => { x with awaiting := some 1, lastPcs := 14#4 }

/-! ### Well-formedness: an ill-formed term for each check -/

/-- R123: an address outside the window its row selects, one past either end. -/
theorem test_illFormed_window : illFormed [.bootmemR 0x00100000#32 .word, .bootmemW 0x00100000#32 .word 0,
    .romR 0x00108000#32 .word, .romR 0x000FFFFC#32 .word, .romW 0x00108000#32 .word 0,
    .sram0R 0x00204000#32 .word, .sram0W 0x001FFFFC#32 .word 0, .sram1R 0x00304000#32 .word,
    .sram1W 0x002FFFFC#32 .word 0, .norR 0x10100000#32 .word, .norW 0x0FFFFFFC#32 .word 0,
    .sdramR 0x22000000#32 .word, .sdramW 0x1FFFFFFC#32 .word 0] = true := by decide +kernel

/-- R123, R86: the same for the unimplemented windows. -/
theorem test_illFormed_unimplemented : illFormed [.unimplUhpR 0x00504000#32, .unimplUhpW 0x004FFFFC#32 0,
    .unimplUdpR 0xFFFA8000#32, .unimplUdpW 0xFFFA3FFC#32 0, .unimplSscR 0xFFFC0000#32, .unimplSscW 0xFFFBBFFC#32 0,
    .unimplIsiR 0xFFFC4000#32, .unimplIsiW 0xFFFBFFFC#32 0, .unimplEmacR 0xFFFC8000#32, .unimplEmacW 0xFFFC3FFC#32 0,
    .unimplAdcR 0xFFFE4000#32, .unimplAdcW 0xFFFDFFFC#32 0, .unimplEccR 0xFFFFEA00#32, .unimplEccW 0xFFFFE7FC#32 0,
    .unimplSmcR 0xFFFFEE00#32, .unimplSmcW 0xFFFFEBFC#32 0, .unimplShdwcR 0xFFFFFD20#32,
    .unimplShdwcW 0xFFFFFD0C#32 0, .unimplWdtR 0xFFFFFD50#32, .unimplWdtW 0xFFFFFD3C#32 0,
    .unimplGpbrR 0xFFFFFD60#32, .unimplGpbrW 0xFFFFFD4C#32 0] = true := by decide +kernel

/-- R93, R94: an address that is not aligned to the access. -/
theorem test_illFormed_aligned : illFormed [.bootmemR 0x00000002#32 .word, .bootmemW 0x00000001#32 .half 0,
    .romR 0x00100001#32 .half, .romW 0x00100002#32 .word 0, .sram0R 0x00200003#32 .word, .sram0W 0x00200003#32 .half 0,
    .sram1R 0x00300001#32 .word, .sram1W 0x00300001#32 .half 0, .norR 0x10000002#32 .word, .norW 0x10000001#32 .half 0,
    .sdramR 0x20000001#32 .half, .sdramW 0x20000002#32 .word 0, .unimplUhpR 0x00500002#32, .unimplUhpW 0x00500001#32 0,
    .unimplWdtR 0xFFFFFD42#32, .unimplGpbrW 0xFFFFFD51#32 0] = true := by decide +kernel

/-- R130: a payload of 256 bytes fits no frame. -/
theorem test_illFormed_payload : illFormed [.usartDataIn 0 0 tooLong, .usartDataOut 0 tooLong, .usartFaultOvre 0 0 tooLong,
    .usartFaultFrame 0 0 tooLong, .usartFaultPare 0 0 tooLong, .usartFaultTimeout 0 0 tooLong, .spiDataIn 0 0 tooLong,
    .spiDataOut 0 tooLong, .spiFaultModf 0 0 tooLong, .spiFaultOvres 0 0 tooLong, .twiDataIn 0 tooLong,
    .twiDataOut tooLong, .twiFaultOvre 0 tooLong, .twiFaultNack 0 tooLong, .twiFaultArblst 0 tooLong,
    .pioPinstateEnable 0 0 tooLong, .pioPinstateDisable 0 0 tooLong, .pioPinstateGet 0 0 tooLong,
    .sdramcFaultRes 0 tooLong] = true := by decide +kernel

/-- R379: an SPI transmission of part of a unit. -/
theorem test_illFormed_units : illFormed [.spiDataOut 0 [0xA5#8], .spiDataOut 1 [1#8, 2#8, 3#8, 4#8, 5#8]] = true := by
  decide +kernel

/-- R6, R86: what is well formed with the default sizes is not where the environment asks for smaller arrays. -/
theorem test_illFormed_sizes : ([.norR 0x10001000#32 .word, .norW 0x10001000#32 .half 0, .sdramR 0x20002000#32 .byte,
    .sdramW 0x20002000#32 .word 0] : List Instr).all
    (fun i => i.wellFormed .iobc && !i.wellFormed ⟨0x1000, 0x2000⟩) = true := by decide +kernel

/-- R83, R86: sizes with which a region would meet the next one; a size may end within a word. -/
theorem test_sizes_refused : (MemSizes.mk 0x10000001 4).ok = false ∧ (MemSizes.mk 4 0xDFFA0001).ok = false
    ∧ (MemSizes.mk 0x10000000 0xDFFA0000).ok = true ∧ (MemSizes.mk 6 3).ok = true ∧ MemSizes.iobc.ok = true := by decide

/-! ### Decoding: every row of the table, by its window, offset and direction (R86, R120, R123) -/

theorem test_decode_memory_part1 : decodesAll [
    (rd 0x00000000#32 4, .bootmemR 0x00000000#32 .word),
    (rd 0x000FFFFF#32 1, .bootmemR 0x000FFFFF#32 .byte),
    (rd 0x000FFFFE#32 2, .bootmemR 0x000FFFFE#32 .half),
    (rd 0x000FFFFC#32 4, .bootmemR 0x000FFFFC#32 .word),
    (wr 0x00000000#32 4 0xA5C30F96#32, .bootmemW 0x00000000#32 .word 0xA5C30F96#32),
    (wr 0x000FFFFF#32 1 0xA5C30F96#32, .bootmemW 0x000FFFFF#32 .byte 0xA5C30F96#32),
    (wr 0x000FFFFE#32 2 0xA5C30F96#32, .bootmemW 0x000FFFFE#32 .half 0xA5C30F96#32),
    (wr 0x000FFFFC#32 4 0xA5C30F96#32, .bootmemW 0x000FFFFC#32 .word 0xA5C30F96#32),
    (rd 0x00100000#32 4, .romR 0x00100000#32 .word),
    (rd 0x00107FFF#32 1, .romR 0x00107FFF#32 .byte),
    (rd 0x00107FFE#32 2, .romR 0x00107FFE#32 .half),
    (rd 0x00107FFC#32 4, .romR 0x00107FFC#32 .word),
    (wr 0x00100000#32 4 0xA5C30F96#32, .romW 0x00100000#32 .word 0xA5C30F96#32),
    (wr 0x00107FFF#32 1 0xA5C30F96#32, .romW 0x00107FFF#32 .byte 0xA5C30F96#32),
    (wr 0x00107FFE#32 2 0xA5C30F96#32, .romW 0x00107FFE#32 .half 0xA5C30F96#32),
    (wr 0x00107FFC#32 4 0xA5C30F96#32, .romW 0x00107FFC#32 .word 0xA5C30F96#32),
    (rd 0x00200000#32 4, .sram0R 0x00200000#32 .word),
    (rd 0x00203FFF#32 1, .sram0R 0x00203FFF#32 .byte),
    (rd 0x00203FFE#32 2, .sram0R 0x00203FFE#32 .half),
    (rd 0x00203FFC#32 4, .sram0R 0x00203FFC#32 .word),
    (wr 0x00200000#32 4 0xA5C30F96#32, .sram0W 0x00200000#32 .word 0xA5C30F96#32),
    (wr 0x00203FFF#32 1 0xA5C30F96#32, .sram0W 0x00203FFF#32 .byte 0xA5C30F96#32),
    (wr 0x00203FFE#32 2 0xA5C30F96#32, .sram0W 0x00203FFE#32 .half 0xA5C30F96#32),
    (wr 0x00203FFC#32 4 0xA5C30F96#32, .sram0W 0x00203FFC#32 .word 0xA5C30F96#32),
    (rd 0x00300000#32 4, .sram1R 0x00300000#32 .word),
    (rd 0x00303FFF#32 1, .sram1R 0x00303FFF#32 .byte),
    (rd 0x00303FFE#32 2, .sram1R 0x00303FFE#32 .half),
    (rd 0x00303FFC#32 4, .sram1R 0x00303FFC#32 .word),
    (wr 0x00300000#32 4 0xA5C30F96#32, .sram1W 0x00300000#32 .word 0xA5C30F96#32),
    (wr 0x00303FFF#32 1 0xA5C30F96#32, .sram1W 0x00303FFF#32 .byte 0xA5C30F96#32),
    (wr 0x00303FFE#32 2 0xA5C30F96#32, .sram1W 0x00303FFE#32 .half 0xA5C30F96#32),
    (wr 0x00303FFC#32 4 0xA5C30F96#32, .sram1W 0x00303FFC#32 .word 0xA5C30F96#32),
    (rd 0x10000000#32 4, .norR 0x10000000#32 .word),
    (rd 0x100FFFFF#32 1, .norR 0x100FFFFF#32 .byte),
    (rd 0x100FFFFE#32 2, .norR 0x100FFFFE#32 .half),
    (rd 0x100FFFFC#32 4, .norR 0x100FFFFC#32 .word),
    (wr 0x10000000#32 4 0xA5C30F96#32, .norW 0x10000000#32 .word 0xA5C30F96#32),
    (wr 0x100FFFFF#32 1 0xA5C30F96#32, .norW 0x100FFFFF#32 .byte 0xA5C30F96#32),
    (wr 0x100FFFFE#32 2 0xA5C30F96#32, .norW 0x100FFFFE#32 .half 0xA5C30F96#32),
    (wr 0x100FFFFC#32 4 0xA5C30F96#32, .norW 0x100FFFFC#32 .word 0xA5C30F96#32)] = true := by decide +kernel

theorem test_decode_memory_part2 : decodesAll [
    (rd 0x20000000#32 4, .sdramR 0x20000000#32 .word),
    (rd 0x21FFFFFF#32 1, .sdramR 0x21FFFFFF#32 .byte),
    (rd 0x21FFFFFE#32 2, .sdramR 0x21FFFFFE#32 .half),
    (rd 0x21FFFFFC#32 4, .sdramR 0x21FFFFFC#32 .word),
    (wr 0x20000000#32 4 0xA5C30F96#32, .sdramW 0x20000000#32 .word 0xA5C30F96#32),
    (wr 0x21FFFFFF#32 1 0xA5C30F96#32, .sdramW 0x21FFFFFF#32 .byte 0xA5C30F96#32),
    (wr 0x21FFFFFE#32 2 0xA5C30F96#32, .sdramW 0x21FFFFFE#32 .half 0xA5C30F96#32),
    (wr 0x21FFFFFC#32 4 0xA5C30F96#32, .sdramW 0x21FFFFFC#32 .word 0xA5C30F96#32)] = true := by decide +kernel

theorem test_decode_unimplemented_windows : decodesAll [
    (rd 0x00503FFC#32 4, .unimplUhpR 0x00503FFC#32),
    (wr 0x00503FFC#32 4 0xA5C30F96#32, .unimplUhpW 0x00503FFC#32 0xA5C30F96#32),
    (rd 0xFFFA7FFC#32 4, .unimplUdpR 0xFFFA7FFC#32),
    (wr 0xFFFA7FFC#32 4 0xA5C30F96#32, .unimplUdpW 0xFFFA7FFC#32 0xA5C30F96#32),
    (rd 0xFFFBFFFC#32 4, .unimplSscR 0xFFFBFFFC#32),
    (wr 0xFFFBFFFC#32 4 0xA5C30F96#32, .unimplSscW 0xFFFBFFFC#32 0xA5C30F96#32),
    (rd 0xFFFC3FFC#32 4, .unimplIsiR 0xFFFC3FFC#32),
    (wr 0xFFFC3FFC#32 4 0xA5C30F96#32, .unimplIsiW 0xFFFC3FFC#32 0xA5C30F96#32),
    (rd 0xFFFC7FFC#32 4, .unimplEmacR 0xFFFC7FFC#32),
    (wr 0xFFFC7FFC#32 4 0xA5C30F96#32, .unimplEmacW 0xFFFC7FFC#32 0xA5C30F96#32),
    (rd 0xFFFE3FFC#32 4, .unimplAdcR 0xFFFE3FFC#32),
    (wr 0xFFFE3FFC#32 4 0xA5C30F96#32, .unimplAdcW 0xFFFE3FFC#32 0xA5C30F96#32),
    (rd 0xFFFFE9FC#32 4, .unimplEccR 0xFFFFE9FC#32),
    (wr 0xFFFFE9FC#32 4 0xA5C30F96#32, .unimplEccW 0xFFFFE9FC#32 0xA5C30F96#32),
    (rd 0xFFFFEDFC#32 4, .unimplSmcR 0xFFFFEDFC#32),
    (wr 0xFFFFEDFC#32 4 0xA5C30F96#32, .unimplSmcW 0xFFFFEDFC#32 0xA5C30F96#32),
    (rd 0xFFFFFD1C#32 4, .unimplShdwcR 0xFFFFFD1C#32),
    (wr 0xFFFFFD1C#32 4 0xA5C30F96#32, .unimplShdwcW 0xFFFFFD1C#32 0xA5C30F96#32),
    (rd 0xFFFFFD4C#32 4, .unimplWdtR 0xFFFFFD4C#32),
    (wr 0xFFFFFD4C#32 4 0xA5C30F96#32, .unimplWdtW 0xFFFFFD4C#32 0xA5C30F96#32),
    (rd 0xFFFFFD5C#32 4, .unimplGpbrR 0xFFFFFD5C#32),
    (wr 0xFFFFFD5C#32 4 0xA5C30F96#32, .unimplGpbrW 0xFFFFFD5C#32 0xA5C30F96#32)] = true := by decide +kernel

theorem test_decode_aic : decodesAll [
    (rd 0xFFFFF000#32 4, .aicSmrR 0),
    (rd 0xFFFFF07C#32 4, .aicSmrR 31),
    (wr 0xFFFFF000#32 4 0xA5C30F96#32, .aicSmrW 0 0xA5C30F96#32),
    (wr 0xFFFFF07C#32 4 0xA5C30F96#32, .aicSmrW 31 0xA5C30F96#32),
    (rd 0xFFFFF080#32 4, .aicSvrR 0),
    (rd 0xFFFFF0FC#32 4, .aicSvrR 31),
    (wr 0xFFFFF080#32 4 0xA5C30F96#32, .aicSvrW 0 0xA5C30F96#32),
    (wr 0xFFFFF0FC#32 4 0xA5C30F96#32, .aicSvrW 31 0xA5C30F96#32),
    (rd 0xFFFFF100#32 4, .aicIvrR),
    (wr 0xFFFFF100#32 4 0xA5C30F96#32, .aicIvrW 0xA5C30F96#32),
    (rd 0xFFFFF104#32 4, .aicFvrR),
    (rd 0xFFFFF108#32 4, .aicIsrR),
    (rd 0xFFFFF10C#32 4, .aicIprR),
    (rd 0xFFFFF110#32 4, .aicImrR),
    (rd 0xFFFFF114#32 4, .aicCisrR),
    (wr 0xFFFFF120#32 4 0xA5C30F96#32, .aicIecrW 0xA5C30F96#32),
    (wr 0xFFFFF124#32 4 0xA5C30F96#32, .aicIdcrW 0xA5C30F96#32),
    (wr 0xFFFFF128#32 4 0xA5C30F96#32, .aicIccrW 0xA5C30F96#32),
    (wr 0xFFFFF12C#32 4 0xA5C30F96#32, .aicIscrW 0xA5C30F96#32),
    (wr 0xFFFFF130#32 4 0xA5C30F96#32, .aicEoicrW 0xA5C30F96#32),
    (rd 0xFFFFF134#32 4, .aicSpuR),
    (wr 0xFFFFF134#32 4 0xA5C30F96#32, .aicSpuW 0xA5C30F96#32),
    (rd 0xFFFFF138#32 4, .aicDcrR),
    (wr 0xFFFFF138#32 4 0xA5C30F96#32, .aicDcrW 0xA5C30F96#32),
    (wr 0xFFFFF140#32 4 0xA5C30F96#32, .aicFferW 0xA5C30F96#32),
    (wr 0xFFFFF144#32 4 0xA5C30F96#32, .aicFfdrW 0xA5C30F96#32),
    (rd 0xFFFFF148#32 4, .aicFfsrR)] = true := by decide +kernel

theorem test_decode_usart0 : decodesAll [
    (wr 0xFFFB0000#32 4 0xA5C30F96#32, .usart0CrW 0xA5C30F96#32),
    (rd 0xFFFB0004#32 4, .usart0MrR),
    (wr 0xFFFB0004#32 4 0xA5C30F96#32, .usart0MrW 0xA5C30F96#32),
    (wr 0xFFFB0008#32 4 0xA5C30F96#32, .usart0IerW 0xA5C30F96#32),
    (wr 0xFFFB000C#32 4 0xA5C30F96#32, .usart0IdrW 0xA5C30F96#32),
    (rd 0xFFFB0010#32 4, .usart0ImrR),
    (rd 0xFFFB0014#32 4, .usart0CsrR),
    (rd 0xFFFB0018#32 4, .usart0RhrR),
    (wr 0xFFFB001C#32 4 0xA5C30F96#32, .usart0ThrW 0xA5C30F96#32),
    (rd 0xFFFB0020#32 4, .usart0BrgrR),
    (wr 0xFFFB0020#32 4 0xA5C30F96#32, .usart0BrgrW 0xA5C30F96#32),
    (rd 0xFFFB0024#32 4, .usart0RtorR),
    (wr 0xFFFB0024#32 4 0xA5C30F96#32, .usart0RtorW 0xA5C30F96#32),
    (rd 0xFFFB0028#32 4, .usart0TtgrR),
    (wr 0xFFFB0028#32 4 0xA5C30F96#32, .usart0TtgrW 0xA5C30F96#32),
    (rd 0xFFFB0040#32 4, .usart0FidiR),
    (wr 0xFFFB0040#32 4 0xA5C30F96#32, .usart0FidiW 0xA5C30F96#32),
    (rd 0xFFFB0044#32 4, .usart0NerR),
    (rd 0xFFFB004C#32 4, .usart0IfR),
    (wr 0xFFFB004C#32 4 0xA5C30F96#32, .usart0IfW 0xA5C30F96#32),
    (rd 0xFFFB0050#32 4, .usart0ManR),
    (wr 0xFFFB0050#32 4 0xA5C30F96#32, .usart0ManW 0xA5C30F96#32),
    (rd 0xFFFB0100#32 4, .usart0RprR),
    (wr 0xFFFB0100#32 4 0xA5C30F96#32, .usart0RprW 0xA5C30F96#32),
    (rd 0xFFFB0104#32 4, .usart0RcrR),
    (wr 0xFFFB0104#32 4 0xA5C30F96#32, .usart0RcrW 0xA5C30F96#32),
    (rd 0xFFFB0108#32 4, .usart0TprR),
    (wr 0xFFFB0108#32 4 0xA5C30F96#32, .usart0TprW 0xA5C30F96#32),
    (rd 0xFFFB010C#32 4, .usart0TcrR),
    (wr 0xFFFB010C#32 4 0xA5C30F96#32, .usart0TcrW 0xA5C30F96#32),
    (rd 0xFFFB0110#32 4, .usart0RnprR),
    (wr 0xFFFB0110#32 4 0xA5C30F96#32, .usart0RnprW 0xA5C30F96#32),
    (rd 0xFFFB0114#32 4, .usart0RncrR),
    (wr 0xFFFB0114#32 4 0xA5C30F96#32, .usart0RncrW 0xA5C30F96#32),
    (rd 0xFFFB0118#32 4, .usart0TnprR),
    (wr 0xFFFB0118#32 4 0xA5C30F96#32, .usart0TnprW 0xA5C30F96#32),
    (rd 0xFFFB011C#32 4, .usart0TncrR),
    (wr 0xFFFB011C#32 4 0xA5C30F96#32, .usart0TncrW 0xA5C30F96#32),
    (wr 0xFFFB0120#32 4 0xA5C30F96#32, .usart0PtcrW 0xA5C30F96#32),
    (rd 0xFFFB0124#32 4, .usart0PtsrR)] = true := by decide +kernel

theorem test_decode_usart1 : decodesAll [
    (wr 0xFFFB4000#32 4 0xA5C30F96#32, .usart1CrW 0xA5C30F96#32),
    (rd 0xFFFB4004#32 4, .usart1MrR),
    (wr 0xFFFB4004#32 4 0xA5C30F96#32, .usart1MrW 0xA5C30F96#32),
    (wr 0xFFFB4008#32 4 0xA5C30F96#32, .usart1IerW 0xA5C30F96#32),
    (wr 0xFFFB400C#32 4 0xA5C30F96#32, .usart1IdrW 0xA5C30F96#32),
    (rd 0xFFFB4010#32 4, .usart1ImrR),
    (rd 0xFFFB4014#32 4, .usart1CsrR),
    (rd 0xFFFB4018#32 4, .usart1RhrR),
    (wr 0xFFFB401C#32 4 0xA5C30F96#32, .usart1ThrW 0xA5C30F96#32),
    (rd 0xFFFB4020#32 4, .usart1BrgrR),
    (wr 0xFFFB4020#32 4 0xA5C30F96#32, .usart1BrgrW 0xA5C30F96#32),
    (rd 0xFFFB4024#32 4, .usart1RtorR),
    (wr 0xFFFB4024#32 4 0xA5C30F96#32, .usart1RtorW 0xA5C30F96#32),
    (rd 0xFFFB4028#32 4, .usart1TtgrR),
    (wr 0xFFFB4028#32 4 0xA5C30F96#32, .usart1TtgrW 0xA5C30F96#32),
    (rd 0xFFFB4040#32 4, .usart1FidiR),
    (wr 0xFFFB4040#32 4 0xA5C30F96#32, .usart1FidiW 0xA5C30F96#32),
    (rd 0xFFFB4044#32 4, .usart1NerR),
    (rd 0xFFFB404C#32 4, .usart1IfR),
    (wr 0xFFFB404C#32 4 0xA5C30F96#32, .usart1IfW 0xA5C30F96#32),
    (rd 0xFFFB4050#32 4, .usart1ManR),
    (wr 0xFFFB4050#32 4 0xA5C30F96#32, .usart1ManW 0xA5C30F96#32),
    (rd 0xFFFB4100#32 4, .usart1RprR),
    (wr 0xFFFB4100#32 4 0xA5C30F96#32, .usart1RprW 0xA5C30F96#32),
    (rd 0xFFFB4104#32 4, .usart1RcrR),
    (wr 0xFFFB4104#32 4 0xA5C30F96#32, .usart1RcrW 0xA5C30F96#32),
    (rd 0xFFFB4108#32 4, .usart1TprR),
    (wr 0xFFFB4108#32 4 0xA5C30F96#32, .usart1TprW 0xA5C30F96#32),
    (rd 0xFFFB410C#32 4, .usart1TcrR),
    (wr 0xFFFB410C#32 4 0xA5C30F96#32, .usart1TcrW 0xA5C30F96#32),
    (rd 0xFFFB4110#32 4, .usart1RnprR),
    (wr 0xFFFB4110#32 4 0xA5C30F96#32, .usart1RnprW 0xA5C30F96#32),
    (rd 0xFFFB4114#32 4, .usart1RncrR),
    (wr 0xFFFB4114#32 4 0xA5C30F96#32, .usart1RncrW 0xA5C30F96#32),
    (rd 0xFFFB4118#32 4, .usart1TnprR),
    (wr 0xFFFB4118#32 4 0xA5C30F96#32, .usart1TnprW 0xA5C30F96#32),
    (rd 0xFFFB411C#32 4, .usart1TncrR),
    (wr 0xFFFB411C#32 4 0xA5C30F96#32, .usart1TncrW 0xA5C30F96#32),
    (wr 0xFFFB4120#32 4 0xA5C30F96#32, .usart1PtcrW 0xA5C30F96#32),
    (rd 0xFFFB4124#32 4, .usart1PtsrR)] = true := by decide +kernel

theorem test_decode_usart2 : decodesAll [
    (wr 0xFFFB8000#32 4 0xA5C30F96#32, .usart2CrW 0xA5C30F96#32),
    (rd 0xFFFB8004#32 4, .usart2MrR),
    (wr 0xFFFB8004#32 4 0xA5C30F96#32, .usart2MrW 0xA5C30F96#32),
    (wr 0xFFFB8008#32 4 0xA5C30F96#32, .usart2IerW 0xA5C30F96#32),
    (wr 0xFFFB800C#32 4 0xA5C30F96#32, .usart2IdrW 0xA5C30F96#32),
    (rd 0xFFFB8010#32 4, .usart2ImrR),
    (rd 0xFFFB8014#32 4, .usart2CsrR),
    (rd 0xFFFB8018#32 4, .usart2RhrR),
    (wr 0xFFFB801C#32 4 0xA5C30F96#32, .usart2ThrW 0xA5C30F96#32),
    (rd 0xFFFB8020#32 4, .usart2BrgrR),
    (wr 0xFFFB8020#32 4 0xA5C30F96#32, .usart2BrgrW 0xA5C30F96#32),
    (rd 0xFFFB8024#32 4, .usart2RtorR),
    (wr 0xFFFB8024#32 4 0xA5C30F96#32, .usart2RtorW 0xA5C30F96#32),
    (rd 0xFFFB8028#32 4, .usart2TtgrR),
    (wr 0xFFFB8028#32 4 0xA5C30F96#32, .usart2TtgrW 0xA5C30F96#32),
    (rd 0xFFFB8040#32 4, .usart2FidiR),
    (wr 0xFFFB8040#32 4 0xA5C30F96#32, .usart2FidiW 0xA5C30F96#32),
    (rd 0xFFFB8044#32 4, .usart2NerR),
    (rd 0xFFFB804C#32 4, .usart2IfR),
    (wr 0xFFFB804C#32 4 0xA5C30F96#32, .usart2IfW 0xA5C30F96#32),
    (rd 0xFFFB8050#32 4, .usart2ManR),
    (wr 0xFFFB8050#32 4 0xA5C30F96#32, .usart2ManW 0xA5C30F96#32),
    (rd 0xFFFB8100#32 4, .usart2RprR),
    (wr 0xFFFB8100#32 4 0xA5C30F96#32, .usart2RprW 0xA5C30F96#32),
    (rd 0xFFFB8104#32 4, .usart2RcrR),
    (wr 0xFFFB8104#32 4 0xA5C30F96#32, .usart2RcrW 0xA5C30F96#32),
    (rd 0xFFFB8108#32 4, .usart2TprR),
    (wr 0xFFFB8108#32 4 0xA5C30F96#32, .usart2TprW 0xA5C30F96#32),
    (rd 0xFFFB810C#32 4, .usart2TcrR),
    (wr 0xFFFB810C#32 4 0xA5C30F96#32, .usart2TcrW 0xA5C30F96#32),
    (rd 0xFFFB8110#32 4, .usart2RnprR),
    (wr 0xFFFB8110#32 4 0xA5C30F96#32, .usart2RnprW 0xA5C30F96#32),
    (rd 0xFFFB8114#32 4, .usart2RncrR),
    (wr 0xFFFB8114#32 4 0xA5C30F96#32, .usart2RncrW 0xA5C30F96#32),
    (rd 0xFFFB8118#32 4, .usart2TnprR),
    (wr 0xFFFB8118#32 4 0xA5C30F96#32, .usart2TnprW 0xA5C30F96#32),
    (rd 0xFFFB811C#32 4, .usart2TncrR),
    (wr 0xFFFB811C#32 4 0xA5C30F96#32, .usart2TncrW 0xA5C30F96#32),
    (wr 0xFFFB8120#32 4 0xA5C30F96#32, .usart2PtcrW 0xA5C30F96#32),
    (rd 0xFFFB8124#32 4, .usart2PtsrR)] = true := by decide +kernel

theorem test_decode_usart3 : decodesAll [
    (wr 0xFFFD0000#32 4 0xA5C30F96#32, .usart3CrW 0xA5C30F96#32),
    (rd 0xFFFD0004#32 4, .usart3MrR),
    (wr 0xFFFD0004#32 4 0xA5C30F96#32, .usart3MrW 0xA5C30F96#32),
    (wr 0xFFFD0008#32 4 0xA5C30F96#32, .usart3IerW 0xA5C30F96#32),
    (wr 0xFFFD000C#32 4 0xA5C30F96#32, .usart3IdrW 0xA5C30F96#32),
    (rd 0xFFFD0010#32 4, .usart3ImrR),
    (rd 0xFFFD0014#32 4, .usart3CsrR),
    (rd 0xFFFD0018#32 4, .usart3RhrR),
    (wr 0xFFFD001C#32 4 0xA5C30F96#32, .usart3ThrW 0xA5C30F96#32),
    (rd 0xFFFD0020#32 4, .usart3BrgrR),
    (wr 0xFFFD0020#32 4 0xA5C30F96#32, .usart3BrgrW 0xA5C30F96#32),
    (rd 0xFFFD0024#32 4, .usart3RtorR),
    (wr 0xFFFD0024#32 4 0xA5C30F96#32, .usart3RtorW 0xA5C30F96#32),
    (rd 0xFFFD0028#32 4, .usart3TtgrR),
    (wr 0xFFFD0028#32 4 0xA5C30F96#32, .usart3TtgrW 0xA5C30F96#32),
    (rd 0xFFFD0040#32 4, .usart3FidiR),
    (wr 0xFFFD0040#32 4 0xA5C30F96#32, .usart3FidiW 0xA5C30F96#32),
    (rd 0xFFFD0044#32 4, .usart3NerR),
    (rd 0xFFFD004C#32 4, .usart3IfR),
    (wr 0xFFFD004C#32 4 0xA5C30F96#32, .usart3IfW 0xA5C30F96#32),
    (rd 0xFFFD0050#32 4, .usart3ManR),
    (wr 0xFFFD0050#32 4 0xA5C30F96#32, .usart3ManW 0xA5C30F96#32),
    (rd 0xFFFD0100#32 4, .usart3RprR),
    (wr 0xFFFD0100#32 4 0xA5C30F96#32, .usart3RprW 0xA5C30F96#32),
    (rd 0xFFFD0104#32 4, .usart3RcrR),
    (wr 0xFFFD0104#32 4 0xA5C30F96#32, .usart3RcrW 0xA5C30F96#32),
    (rd 0xFFFD0108#32 4, .usart3TprR),
    (wr 0xFFFD0108#32 4 0xA5C30F96#32, .usart3TprW 0xA5C30F96#32),
    (rd 0xFFFD010C#32 4, .usart3TcrR),
    (wr 0xFFFD010C#32 4 0xA5C30F96#32, .usart3TcrW 0xA5C30F96#32),
    (rd 0xFFFD0110#32 4, .usart3RnprR),
    (wr 0xFFFD0110#32 4 0xA5C30F96#32, .usart3RnprW 0xA5C30F96#32),
    (rd 0xFFFD0114#32 4, .usart3RncrR),
    (wr 0xFFFD0114#32 4 0xA5C30F96#32, .usart3RncrW 0xA5C30F96#32),
    (rd 0xFFFD0118#32 4, .usart3TnprR),
    (wr 0xFFFD0118#32 4 0xA5C30F96#32, .usart3TnprW 0xA5C30F96#32),
    (rd 0xFFFD011C#32 4, .usart3TncrR),
    (wr 0xFFFD011C#32 4 0xA5C30F96#32, .usart3TncrW 0xA5C30F96#32),
    (wr 0xFFFD0120#32 4 0xA5C30F96#32, .usart3PtcrW 0xA5C30F96#32),
    (rd 0xFFFD0124#32 4, .usart3PtsrR)] = true := by decide +kernel

theorem test_decode_usart4 : decodesAll [
    (wr 0xFFFD4000#32 4 0xA5C30F96#32, .usart4CrW 0xA5C30F96#32),
    (rd 0xFFFD4004#32 4, .usart4MrR),
    (wr 0xFFFD4004#32 4 0xA5C30F96#32, .usart4MrW 0xA5C30F96#32),
    (wr 0xFFFD4008#32 4 0xA5C30F96#32, .usart4IerW 0xA5C30F96#32),
    (wr 0xFFFD400C#32 4 0xA5C30F96#32, .usart4IdrW 0xA5C30F96#32),
    (rd 0xFFFD4010#32 4, .usart4ImrR),
    (rd 0xFFFD4014#32 4, .usart4CsrR),
    (rd 0xFFFD4018#32 4, .usart4RhrR),
    (wr 0xFFFD401C#32 4 0xA5C30F96#32, .usart4ThrW 0xA5C30F96#32),
    (rd 0xFFFD4020#32 4, .usart4BrgrR),
    (wr 0xFFFD4020#32 4 0xA5C30F96#32, .usart4BrgrW 0xA5C30F96#32),
    (rd 0xFFFD4024#32 4, .usart4RtorR),
    (wr 0xFFFD4024#32 4 0xA5C30F96#32, .usart4RtorW 0xA5C30F96#32),
    (rd 0xFFFD4028#32 4, .usart4TtgrR),
    (wr 0xFFFD4028#32 4 0xA5C30F96#32, .usart4TtgrW 0xA5C30F96#32),
    (rd 0xFFFD4040#32 4, .usart4FidiR),
    (wr 0xFFFD4040#32 4 0xA5C30F96#32, .usart4FidiW 0xA5C30F96#32),
    (rd 0xFFFD4044#32 4, .usart4NerR),
    (rd 0xFFFD404C#32 4, .usart4IfR),
    (wr 0xFFFD404C#32 4 0xA5C30F96#32, .usart4IfW 0xA5C30F96#32),
    (rd 0xFFFD4050#32 4, .usart4ManR),
    (wr 0xFFFD4050#32 4 0xA5C30F96#32, .usart4ManW 0xA5C30F96#32),
    (rd 0xFFFD4100#32 4, .usart4RprR),
    (wr 0xFFFD4100#32 4 0xA5C30F96#32, .usart4RprW 0xA5C30F96#32),
    (rd 0xFFFD4104#32 4, .usart4RcrR),
    (wr 0xFFFD4104#32 4 0xA5C30F96#32, .usart4RcrW 0xA5C30F96#32),
    (rd 0xFFFD4108#32 4, .usart4TprR),
    (wr 0xFFFD4108#32 4 0xA5C30F96#32, .usart4TprW 0xA5C30F96#32),
    (rd 0xFFFD410C#32 4, .usart4TcrR),
    (wr 0xFFFD410C#32 4 0xA5C30F96#32, .usart4TcrW 0xA5C30F96#32),
    (rd 0xFFFD4110#32 4, .usart4RnprR),
    (wr 0xFFFD4110#32 4 0xA5C30F96#32, .usart4RnprW 0xA5C30F96#32),
    (rd 0xFFFD4114#32 4, .usart4RncrR),
    (wr 0xFFFD4114#32 4 0xA5C30F96#32, .usart4RncrW 0xA5C30F96#32),
    (rd 0xFFFD4118#32 4, .usart4TnprR),
    (wr 0xFFFD4118#32 4 0xA5C30F96#32, .usart4TnprW 0xA5C30F96#32),
    (rd 0xFFFD411C#32 4, .usart4TncrR),
    (wr 0xFFFD411C#32 4 0xA5C30F96#32, .usart4TncrW 0xA5C30F96#32),
    (wr 0xFFFD4120#32 4 0xA5C30F96#32, .usart4PtcrW 0xA5C30F96#32),
    (rd 0xFFFD4124#32 4, .usart4PtsrR)] = true := by decide +kernel

theorem test_decode_usart5 : decodesAll [
    (wr 0xFFFD8000#32 4 0xA5C30F96#32, .usart5CrW 0xA5C30F96#32),
    (rd 0xFFFD8004#32 4, .usart5MrR),
    (wr 0xFFFD8004#32 4 0xA5C30F96#32, .usart5MrW 0xA5C30F96#32),
    (wr 0xFFFD8008#32 4 0xA5C30F96#32, .usart5IerW 0xA5C30F96#32),
    (wr 0xFFFD800C#32 4 0xA5C30F96#32, .usart5IdrW 0xA5C30F96#32),
    (rd 0xFFFD8010#32 4, .usart5ImrR),
    (rd 0xFFFD8014#32 4, .usart5CsrR),
    (rd 0xFFFD8018#32 4, .usart5RhrR),
    (wr 0xFFFD801C#32 4 0xA5C30F96#32, .usart5ThrW 0xA5C30F96#32),
    (rd 0xFFFD8020#32 4, .usart5BrgrR),
    (wr 0xFFFD8020#32 4 0xA5C30F96#32, .usart5BrgrW 0xA5C30F96#32),
    (rd 0xFFFD8024#32 4, .usart5RtorR),
    (wr 0xFFFD8024#32 4 0xA5C30F96#32, .usart5RtorW 0xA5C30F96#32),
    (rd 0xFFFD8028#32 4, .usart5TtgrR),
    (wr 0xFFFD8028#32 4 0xA5C30F96#32, .usart5TtgrW 0xA5C30F96#32),
    (rd 0xFFFD8040#32 4, .usart5FidiR),
    (wr 0xFFFD8040#32 4 0xA5C30F96#32, .usart5FidiW 0xA5C30F96#32),
    (rd 0xFFFD8044#32 4, .usart5NerR),
    (rd 0xFFFD804C#32 4, .usart5IfR),
    (wr 0xFFFD804C#32 4 0xA5C30F96#32, .usart5IfW 0xA5C30F96#32),
    (rd 0xFFFD8050#32 4, .usart5ManR),
    (wr 0xFFFD8050#32 4 0xA5C30F96#32, .usart5ManW 0xA5C30F96#32),
    (rd 0xFFFD8100#32 4, .usart5RprR),
    (wr 0xFFFD8100#32 4 0xA5C30F96#32, .usart5RprW 0xA5C30F96#32),
    (rd 0xFFFD8104#32 4, .usart5RcrR),
    (wr 0xFFFD8104#32 4 0xA5C30F96#32, .usart5RcrW 0xA5C30F96#32),
    (rd 0xFFFD8108#32 4, .usart5TprR),
    (wr 0xFFFD8108#32 4 0xA5C30F96#32, .usart5TprW 0xA5C30F96#32),
    (rd 0xFFFD810C#32 4, .usart5TcrR),
    (wr 0xFFFD810C#32 4 0xA5C30F96#32, .usart5TcrW 0xA5C30F96#32),
    (rd 0xFFFD8110#32 4, .usart5RnprR),
    (wr 0xFFFD8110#32 4 0xA5C30F96#32, .usart5RnprW 0xA5C30F96#32),
    (rd 0xFFFD8114#32 4, .usart5RncrR),
    (wr 0xFFFD8114#32 4 0xA5C30F96#32, .usart5RncrW 0xA5C30F96#32),
    (rd 0xFFFD8118#32 4, .usart5TnprR),
    (wr 0xFFFD8118#32 4 0xA5C30F96#32, .usart5TnprW 0xA5C30F96#32),
    (rd 0xFFFD811C#32 4, .usart5TncrR),
    (wr 0xFFFD811C#32 4 0xA5C30F96#32, .usart5TncrW 0xA5C30F96#32),
    (wr 0xFFFD8120#32 4 0xA5C30F96#32, .usart5PtcrW 0xA5C30F96#32),
    (rd 0xFFFD8124#32 4, .usart5PtsrR)] = true := by decide +kernel

theorem test_decode_spi0 : decodesAll [
    (wr 0xFFFC8000#32 4 0xA5C30F96#32, .spi0CrW 0xA5C30F96#32),
    (rd 0xFFFC8004#32 4, .spi0MrR),
    (wr 0xFFFC8004#32 4 0xA5C30F96#32, .spi0MrW 0xA5C30F96#32),
    (rd 0xFFFC8008#32 4, .spi0RdrR),
    (wr 0xFFFC800C#32 4 0xA5C30F96#32, .spi0TdrW 0xA5C30F96#32),
    (rd 0xFFFC8010#32 4, .spi0SrR),
    (wr 0xFFFC8014#32 4 0xA5C30F96#32, .spi0IerW 0xA5C30F96#32),
    (wr 0xFFFC8018#32 4 0xA5C30F96#32, .spi0IdrW 0xA5C30F96#32),
    (rd 0xFFFC801C#32 4, .spi0ImrR),
    (rd 0xFFFC8030#32 4, .spi0CsrR 0),
    (rd 0xFFFC803C#32 4, .spi0CsrR 3),
    (wr 0xFFFC8030#32 4 0xA5C30F96#32, .spi0CsrW 0 0xA5C30F96#32),
    (wr 0xFFFC803C#32 4 0xA5C30F96#32, .spi0CsrW 3 0xA5C30F96#32),
    (rd 0xFFFC8100#32 4, .spi0RprR),
    (wr 0xFFFC8100#32 4 0xA5C30F96#32, .spi0RprW 0xA5C30F96#32),
    (rd 0xFFFC8104#32 4, .spi0RcrR),
    (wr 0xFFFC8104#32 4 0xA5C30F96#32, .spi0RcrW 0xA5C30F96#32),
    (rd 0xFFFC8108#32 4, .spi0TprR),
    (wr 0xFFFC8108#32 4 0xA5C30F96#32, .spi0TprW 0xA5C30F96#32),
    (rd 0xFFFC810C#32 4, .spi0TcrR),
    (wr 0xFFFC810C#32 4 0xA5C30F96#32, .spi0TcrW 0xA5C30F96#32),
    (rd 0xFFFC8110#32 4, .spi0RnprR),
    (wr 0xFFFC8110#32 4 0xA5C30F96#32, .spi0RnprW 0xA5C30F96#32),
    (rd 0xFFFC8114#32 4, .spi0RncrR),
    (wr 0xFFFC8114#32 4 0xA5C30F96#32, .spi0RncrW 0xA5C30F96#32),
    (rd 0xFFFC8118#32 4, .spi0TnprR),
    (wr 0xFFFC8118#32 4 0xA5C30F96#32, .spi0TnprW 0xA5C30F96#32),
    (rd 0xFFFC811C#32 4, .spi0TncrR),
    (wr 0xFFFC811C#32 4 0xA5C30F96#32, .spi0TncrW 0xA5C30F96#32),
    (wr 0xFFFC8120#32 4 0xA5C30F96#32, .spi0PtcrW 0xA5C30F96#32),
    (rd 0xFFFC8124#32 4, .spi0PtsrR)] = true := by decide +kernel

theorem test_decode_spi1 : decodesAll [
    (wr 0xFFFCC000#32 4 0xA5C30F96#32, .spi1CrW 0xA5C30F96#32),
    (rd 0xFFFCC004#32 4, .spi1MrR),
    (wr 0xFFFCC004#32 4 0xA5C30F96#32, .spi1MrW 0xA5C30F96#32),
    (rd 0xFFFCC008#32 4, .spi1RdrR),
    (wr 0xFFFCC00C#32 4 0xA5C30F96#32, .spi1TdrW 0xA5C30F96#32),
    (rd 0xFFFCC010#32 4, .spi1SrR),
    (wr 0xFFFCC014#32 4 0xA5C30F96#32, .spi1IerW 0xA5C30F96#32),
    (wr 0xFFFCC018#32 4 0xA5C30F96#32, .spi1IdrW 0xA5C30F96#32),
    (rd 0xFFFCC01C#32 4, .spi1ImrR),
    (rd 0xFFFCC030#32 4, .spi1CsrR 0),
    (rd 0xFFFCC03C#32 4, .spi1CsrR 3),
    (wr 0xFFFCC030#32 4 0xA5C30F96#32, .spi1CsrW 0 0xA5C30F96#32),
    (wr 0xFFFCC03C#32 4 0xA5C30F96#32, .spi1CsrW 3 0xA5C30F96#32),
    (rd 0xFFFCC100#32 4, .spi1RprR),
    (wr 0xFFFCC100#32 4 0xA5C30F96#32, .spi1RprW 0xA5C30F96#32),
    (rd 0xFFFCC104#32 4, .spi1RcrR),
    (wr 0xFFFCC104#32 4 0xA5C30F96#32, .spi1RcrW 0xA5C30F96#32),
    (rd 0xFFFCC108#32 4, .spi1TprR),
    (wr 0xFFFCC108#32 4 0xA5C30F96#32, .spi1TprW 0xA5C30F96#32),
    (rd 0xFFFCC10C#32 4, .spi1TcrR),
    (wr 0xFFFCC10C#32 4 0xA5C30F96#32, .spi1TcrW 0xA5C30F96#32),
    (rd 0xFFFCC110#32 4, .spi1RnprR),
    (wr 0xFFFCC110#32 4 0xA5C30F96#32, .spi1RnprW 0xA5C30F96#32),
    (rd 0xFFFCC114#32 4, .spi1RncrR),
    (wr 0xFFFCC114#32 4 0xA5C30F96#32, .spi1RncrW 0xA5C30F96#32),
    (rd 0xFFFCC118#32 4, .spi1TnprR),
    (wr 0xFFFCC118#32 4 0xA5C30F96#32, .spi1TnprW 0xA5C30F96#32),
    (rd 0xFFFCC11C#32 4, .spi1TncrR),
    (wr 0xFFFCC11C#32 4 0xA5C30F96#32, .spi1TncrW 0xA5C30F96#32),
    (wr 0xFFFCC120#32 4 0xA5C30F96#32, .spi1PtcrW 0xA5C30F96#32),
    (rd 0xFFFCC124#32 4, .spi1PtsrR)] = true := by decide +kernel

theorem test_decode_twi : decodesAll [
    (wr 0xFFFAC000#32 4 0xA5C30F96#32, .twiCrW 0xA5C30F96#32),
    (rd 0xFFFAC004#32 4, .twiMmrR),
    (wr 0xFFFAC004#32 4 0xA5C30F96#32, .twiMmrW 0xA5C30F96#32),
    (rd 0xFFFAC008#32 4, .twiSmrR),
    (wr 0xFFFAC008#32 4 0xA5C30F96#32, .twiSmrW 0xA5C30F96#32),
    (rd 0xFFFAC00C#32 4, .twiIadrR),
    (wr 0xFFFAC00C#32 4 0xA5C30F96#32, .twiIadrW 0xA5C30F96#32),
    (rd 0xFFFAC010#32 4, .twiCwgrR),
    (wr 0xFFFAC010#32 4 0xA5C30F96#32, .twiCwgrW 0xA5C30F96#32),
    (rd 0xFFFAC020#32 4, .twiSrR),
    (wr 0xFFFAC024#32 4 0xA5C30F96#32, .twiIerW 0xA5C30F96#32),
    (wr 0xFFFAC028#32 4 0xA5C30F96#32, .twiIdrW 0xA5C30F96#32),
    (rd 0xFFFAC02C#32 4, .twiImrR),
    (rd 0xFFFAC030#32 4, .twiRhrR),
    (wr 0xFFFAC034#32 4 0xA5C30F96#32, .twiThrW 0xA5C30F96#32),
    (rd 0xFFFAC100#32 4, .twiRprR),
    (wr 0xFFFAC100#32 4 0xA5C30F96#32, .twiRprW 0xA5C30F96#32),
    (rd 0xFFFAC104#32 4, .twiRcrR),
    (wr 0xFFFAC104#32 4 0xA5C30F96#32, .twiRcrW 0xA5C30F96#32),
    (rd 0xFFFAC108#32 4, .twiTprR),
    (wr 0xFFFAC108#32 4 0xA5C30F96#32, .twiTprW 0xA5C30F96#32),
    (rd 0xFFFAC10C#32 4, .twiTcrR),
    (wr 0xFFFAC10C#32 4 0xA5C30F96#32, .twiTcrW 0xA5C30F96#32),
    (rd 0xFFFAC110#32 4, .twiRnprR),
    (wr 0xFFFAC110#32 4 0xA5C30F96#32, .twiRnprW 0xA5C30F96#32),
    (rd 0xFFFAC114#32 4, .twiRncrR),
    (wr 0xFFFAC114#32 4 0xA5C30F96#32, .twiRncrW 0xA5C30F96#32),
    (rd 0xFFFAC118#32 4, .twiTnprR),
    (wr 0xFFFAC118#32 4 0xA5C30F96#32, .twiTnprW 0xA5C30F96#32),
    (rd 0xFFFAC11C#32 4, .twiTncrR),
    (wr 0xFFFAC11C#32 4 0xA5C30F96#32, .twiTncrW 0xA5C30F96#32),
    (wr 0xFFFAC120#32 4 0xA5C30F96#32, .twiPtcrW 0xA5C30F96#32),
    (rd 0xFFFAC124#32 4, .twiPtsrR)] = true := by decide +kernel

theorem test_decode_mci : decodesAll [
    (wr 0xFFFA8000#32 4 0xA5C30F96#32, .mciCrW 0xA5C30F96#32),
    (rd 0xFFFA8004#32 4, .mciMrR),
    (wr 0xFFFA8004#32 4 0xA5C30F96#32, .mciMrW 0xA5C30F96#32),
    (rd 0xFFFA8008#32 4, .mciDtorR),
    (wr 0xFFFA8008#32 4 0xA5C30F96#32, .mciDtorW 0xA5C30F96#32),
    (rd 0xFFFA800C#32 4, .mciSdcrR),
    (wr 0xFFFA800C#32 4 0xA5C30F96#32, .mciSdcrW 0xA5C30F96#32),
    (rd 0xFFFA8010#32 4, .mciArgrR),
    (wr 0xFFFA8010#32 4 0xA5C30F96#32, .mciArgrW 0xA5C30F96#32),
    (wr 0xFFFA8014#32 4 0xA5C30F96#32, .mciCmdrW 0xA5C30F96#32),
    (rd 0xFFFA8018#32 4, .mciBlkrR),
    (wr 0xFFFA8018#32 4 0xA5C30F96#32, .mciBlkrW 0xA5C30F96#32),
    (rd 0xFFFA8020#32 4, .mciRsprR 0),
    (rd 0xFFFA802C#32 4, .mciRsprR 3),
    (rd 0xFFFA8030#32 4, .mciRdrR),
    (wr 0xFFFA8034#32 4 0xA5C30F96#32, .mciTdrW 0xA5C30F96#32),
    (rd 0xFFFA8040#32 4, .mciSrR),
    (wr 0xFFFA8044#32 4 0xA5C30F96#32, .mciIerW 0xA5C30F96#32),
    (wr 0xFFFA8048#32 4 0xA5C30F96#32, .mciIdrW 0xA5C30F96#32),
    (rd 0xFFFA804C#32 4, .mciImrR),
    (rd 0xFFFA8100#32 4, .mciRprR),
    (wr 0xFFFA8100#32 4 0xA5C30F96#32, .mciRprW 0xA5C30F96#32),
    (rd 0xFFFA8104#32 4, .mciRcrR),
    (wr 0xFFFA8104#32 4 0xA5C30F96#32, .mciRcrW 0xA5C30F96#32),
    (rd 0xFFFA8108#32 4, .mciTprR),
    (wr 0xFFFA8108#32 4 0xA5C30F96#32, .mciTprW 0xA5C30F96#32),
    (rd 0xFFFA810C#32 4, .mciTcrR),
    (wr 0xFFFA810C#32 4 0xA5C30F96#32, .mciTcrW 0xA5C30F96#32),
    (rd 0xFFFA8110#32 4, .mciRnprR),
    (wr 0xFFFA8110#32 4 0xA5C30F96#32, .mciRnprW 0xA5C30F96#32),
    (rd 0xFFFA8114#32 4, .mciRncrR),
    (wr 0xFFFA8114#32 4 0xA5C30F96#32, .mciRncrW 0xA5C30F96#32),
    (rd 0xFFFA8118#32 4, .mciTnprR),
    (wr 0xFFFA8118#32 4 0xA5C30F96#32, .mciTnprW 0xA5C30F96#32),
    (rd 0xFFFA811C#32 4, .mciTncrR),
    (wr 0xFFFA811C#32 4 0xA5C30F96#32, .mciTncrW 0xA5C30F96#32),
    (wr 0xFFFA8120#32 4 0xA5C30F96#32, .mciPtcrW 0xA5C30F96#32),
    (rd 0xFFFA8124#32 4, .mciPtsrR)] = true := by decide +kernel

theorem test_decode_tc_block0_part1 : decodesAll [
    (wr 0xFFFA0000#32 4 0xA5C30F96#32, .tcb0Ch0CcrW 0xA5C30F96#32),
    (rd 0xFFFA0004#32 4, .tcb0Ch0CmrR),
    (wr 0xFFFA0004#32 4 0xA5C30F96#32, .tcb0Ch0CmrW 0xA5C30F96#32),
    (rd 0xFFFA0010#32 4, .tcb0Ch0CvR),
    (rd 0xFFFA0014#32 4, .tcb0Ch0RaR),
    (wr 0xFFFA0014#32 4 0xA5C30F96#32, .tcb0Ch0RaW 0xA5C30F96#32),
    (rd 0xFFFA0018#32 4, .tcb0Ch0RbR),
    (wr 0xFFFA0018#32 4 0xA5C30F96#32, .tcb0Ch0RbW 0xA5C30F96#32),
    (rd 0xFFFA001C#32 4, .tcb0Ch0RcR),
    (wr 0xFFFA001C#32 4 0xA5C30F96#32, .tcb0Ch0RcW 0xA5C30F96#32),
    (rd 0xFFFA0020#32 4, .tcb0Ch0SrR),
    (wr 0xFFFA0024#32 4 0xA5C30F96#32, .tcb0Ch0IerW 0xA5C30F96#32),
    (wr 0xFFFA0028#32 4 0xA5C30F96#32, .tcb0Ch0IdrW 0xA5C30F96#32),
    (rd 0xFFFA002C#32 4, .tcb0Ch0ImrR),
    (wr 0xFFFA0040#32 4 0xA5C30F96#32, .tcb0Ch1CcrW 0xA5C30F96#32),
    (rd 0xFFFA0044#32 4, .tcb0Ch1CmrR),
    (wr 0xFFFA0044#32 4 0xA5C30F96#32, .tcb0Ch1CmrW 0xA5C30F96#32),
    (rd 0xFFFA0050#32 4, .tcb0Ch1CvR),
    (rd 0xFFFA0054#32 4, .tcb0Ch1RaR),
    (wr 0xFFFA0054#32 4 0xA5C30F96#32, .tcb0Ch1RaW 0xA5C30F96#32),
    (rd 0xFFFA0058#32 4, .tcb0Ch1RbR),
    (wr 0xFFFA0058#32 4 0xA5C30F96#32, .tcb0Ch1RbW 0xA5C30F96#32),
    (rd 0xFFFA005C#32 4, .tcb0Ch1RcR),
    (wr 0xFFFA005C#32 4 0xA5C30F96#32, .tcb0Ch1RcW 0xA5C30F96#32),
    (rd 0xFFFA0060#32 4, .tcb0Ch1SrR),
    (wr 0xFFFA0064#32 4 0xA5C30F96#32, .tcb0Ch1IerW 0xA5C30F96#32),
    (wr 0xFFFA0068#32 4 0xA5C30F96#32, .tcb0Ch1IdrW 0xA5C30F96#32),
    (rd 0xFFFA006C#32 4, .tcb0Ch1ImrR),
    (wr 0xFFFA0080#32 4 0xA5C30F96#32, .tcb0Ch2CcrW 0xA5C30F96#32),
    (rd 0xFFFA0084#32 4, .tcb0Ch2CmrR),
    (wr 0xFFFA0084#32 4 0xA5C30F96#32, .tcb0Ch2CmrW 0xA5C30F96#32),
    (rd 0xFFFA0090#32 4, .tcb0Ch2CvR),
    (rd 0xFFFA0094#32 4, .tcb0Ch2RaR),
    (wr 0xFFFA0094#32 4 0xA5C30F96#32, .tcb0Ch2RaW 0xA5C30F96#32),
    (rd 0xFFFA0098#32 4, .tcb0Ch2RbR),
    (wr 0xFFFA0098#32 4 0xA5C30F96#32, .tcb0Ch2RbW 0xA5C30F96#32),
    (rd 0xFFFA009C#32 4, .tcb0Ch2RcR),
    (wr 0xFFFA009C#32 4 0xA5C30F96#32, .tcb0Ch2RcW 0xA5C30F96#32),
    (rd 0xFFFA00A0#32 4, .tcb0Ch2SrR),
    (wr 0xFFFA00A4#32 4 0xA5C30F96#32, .tcb0Ch2IerW 0xA5C30F96#32)] = true := by decide +kernel

theorem test_decode_tc_block0_part2 : decodesAll [
    (wr 0xFFFA00A8#32 4 0xA5C30F96#32, .tcb0Ch2IdrW 0xA5C30F96#32),
    (rd 0xFFFA00AC#32 4, .tcb0Ch2ImrR),
    (wr 0xFFFA00C0#32 4 0xA5C30F96#32, .tcb0BcrW 0xA5C30F96#32),
    (rd 0xFFFA00C4#32 4, .tcb0BmrR),
    (wr 0xFFFA00C4#32 4 0xA5C30F96#32, .tcb0BmrW 0xA5C30F96#32)] = true := by decide +kernel

theorem test_decode_tc_block1_part1 : decodesAll [
    (wr 0xFFFDC000#32 4 0xA5C30F96#32, .tcb1Ch0CcrW 0xA5C30F96#32),
    (rd 0xFFFDC004#32 4, .tcb1Ch0CmrR),
    (wr 0xFFFDC004#32 4 0xA5C30F96#32, .tcb1Ch0CmrW 0xA5C30F96#32),
    (rd 0xFFFDC010#32 4, .tcb1Ch0CvR),
    (rd 0xFFFDC014#32 4, .tcb1Ch0RaR),
    (wr 0xFFFDC014#32 4 0xA5C30F96#32, .tcb1Ch0RaW 0xA5C30F96#32),
    (rd 0xFFFDC018#32 4, .tcb1Ch0RbR),
    (wr 0xFFFDC018#32 4 0xA5C30F96#32, .tcb1Ch0RbW 0xA5C30F96#32),
    (rd 0xFFFDC01C#32 4, .tcb1Ch0RcR),
    (wr 0xFFFDC01C#32 4 0xA5C30F96#32, .tcb1Ch0RcW 0xA5C30F96#32),
    (rd 0xFFFDC020#32 4, .tcb1Ch0SrR),
    (wr 0xFFFDC024#32 4 0xA5C30F96#32, .tcb1Ch0IerW 0xA5C30F96#32),
    (wr 0xFFFDC028#32 4 0xA5C30F96#32, .tcb1Ch0IdrW 0xA5C30F96#32),
    (rd 0xFFFDC02C#32 4, .tcb1Ch0ImrR),
    (wr 0xFFFDC040#32 4 0xA5C30F96#32, .tcb1Ch1CcrW 0xA5C30F96#32),
    (rd 0xFFFDC044#32 4, .tcb1Ch1CmrR),
    (wr 0xFFFDC044#32 4 0xA5C30F96#32, .tcb1Ch1CmrW 0xA5C30F96#32),
    (rd 0xFFFDC050#32 4, .tcb1Ch1CvR),
    (rd 0xFFFDC054#32 4, .tcb1Ch1RaR),
    (wr 0xFFFDC054#32 4 0xA5C30F96#32, .tcb1Ch1RaW 0xA5C30F96#32),
    (rd 0xFFFDC058#32 4, .tcb1Ch1RbR),
    (wr 0xFFFDC058#32 4 0xA5C30F96#32, .tcb1Ch1RbW 0xA5C30F96#32),
    (rd 0xFFFDC05C#32 4, .tcb1Ch1RcR),
    (wr 0xFFFDC05C#32 4 0xA5C30F96#32, .tcb1Ch1RcW 0xA5C30F96#32),
    (rd 0xFFFDC060#32 4, .tcb1Ch1SrR),
    (wr 0xFFFDC064#32 4 0xA5C30F96#32, .tcb1Ch1IerW 0xA5C30F96#32),
    (wr 0xFFFDC068#32 4 0xA5C30F96#32, .tcb1Ch1IdrW 0xA5C30F96#32),
    (rd 0xFFFDC06C#32 4, .tcb1Ch1ImrR),
    (wr 0xFFFDC080#32 4 0xA5C30F96#32, .tcb1Ch2CcrW 0xA5C30F96#32),
    (rd 0xFFFDC084#32 4, .tcb1Ch2CmrR),
    (wr 0xFFFDC084#32 4 0xA5C30F96#32, .tcb1Ch2CmrW 0xA5C30F96#32),
    (rd 0xFFFDC090#32 4, .tcb1Ch2CvR),
    (rd 0xFFFDC094#32 4, .tcb1Ch2RaR),
    (wr 0xFFFDC094#32 4 0xA5C30F96#32, .tcb1Ch2RaW 0xA5C30F96#32),
    (rd 0xFFFDC098#32 4, .tcb1Ch2RbR),
    (wr 0xFFFDC098#32 4 0xA5C30F96#32, .tcb1Ch2RbW 0xA5C30F96#32),
    (rd 0xFFFDC09C#32 4, .tcb1Ch2RcR),
    (wr 0xFFFDC09C#32 4 0xA5C30F96#32, .tcb1Ch2RcW 0xA5C30F96#32),
    (rd 0xFFFDC0A0#32 4, .tcb1Ch2SrR),
    (wr 0xFFFDC0A4#32 4 0xA5C30F96#32, .tcb1Ch2IerW 0xA5C30F96#32)] = true := by decide +kernel

theorem test_decode_tc_block1_part2 : decodesAll [
    (wr 0xFFFDC0A8#32 4 0xA5C30F96#32, .tcb1Ch2IdrW 0xA5C30F96#32),
    (rd 0xFFFDC0AC#32 4, .tcb1Ch2ImrR),
    (wr 0xFFFDC0C0#32 4 0xA5C30F96#32, .tcb1BcrW 0xA5C30F96#32),
    (rd 0xFFFDC0C4#32 4, .tcb1BmrR),
    (wr 0xFFFDC0C4#32 4 0xA5C30F96#32, .tcb1BmrW 0xA5C30F96#32)] = true := by decide +kernel

theorem test_decode_pit : decodesAll [
    (rd 0xFFFFFD30#32 4, .pitMrR),
    (wr 0xFFFFFD30#32 4 0xA5C30F96#32, .pitMrW 0xA5C30F96#32),
    (rd 0xFFFFFD34#32 4, .pitSrR),
    (rd 0xFFFFFD38#32 4, .pitPivrR),
    (rd 0xFFFFFD3C#32 4, .pitPiirR)] = true := by decide +kernel

theorem test_decode_rtt : decodesAll [
    (rd 0xFFFFFD20#32 4, .rttMrR),
    (wr 0xFFFFFD20#32 4 0xA5C30F96#32, .rttMrW 0xA5C30F96#32),
    (rd 0xFFFFFD24#32 4, .rttArR),
    (wr 0xFFFFFD24#32 4 0xA5C30F96#32, .rttArW 0xA5C30F96#32),
    (rd 0xFFFFFD28#32 4, .rttVrR),
    (rd 0xFFFFFD2C#32 4, .rttSrR)] = true := by decide +kernel

theorem test_decode_dbgu : decodesAll [
    (wr 0xFFFFF200#32 4 0xA5C30F96#32, .dbguCrW 0xA5C30F96#32),
    (rd 0xFFFFF204#32 4, .dbguMrR),
    (wr 0xFFFFF204#32 4 0xA5C30F96#32, .dbguMrW 0xA5C30F96#32),
    (wr 0xFFFFF208#32 4 0xA5C30F96#32, .dbguIerW 0xA5C30F96#32),
    (wr 0xFFFFF20C#32 4 0xA5C30F96#32, .dbguIdrW 0xA5C30F96#32),
    (rd 0xFFFFF210#32 4, .dbguImrR),
    (rd 0xFFFFF214#32 4, .dbguSrR),
    (rd 0xFFFFF218#32 4, .dbguRhrR),
    (wr 0xFFFFF21C#32 4 0xA5C30F96#32, .dbguThrW 0xA5C30F96#32),
    (rd 0xFFFFF220#32 4, .dbguBrgrR),
    (wr 0xFFFFF220#32 4 0xA5C30F96#32, .dbguBrgrW 0xA5C30F96#32),
    (rd 0xFFFFF240#32 4, .dbguCidrR),
    (rd 0xFFFFF244#32 4, .dbguExidR)] = true := by decide +kernel

theorem test_decode_pioa : decodesAll [
    (wr 0xFFFFF400#32 4 0xA5C30F96#32, .pioaPerW 0xA5C30F96#32),
    (wr 0xFFFFF404#32 4 0xA5C30F96#32, .pioaPdrW 0xA5C30F96#32),
    (rd 0xFFFFF408#32 4, .pioaPsrR),
    (wr 0xFFFFF410#32 4 0xA5C30F96#32, .pioaOerW 0xA5C30F96#32),
    (wr 0xFFFFF414#32 4 0xA5C30F96#32, .pioaOdrW 0xA5C30F96#32),
    (rd 0xFFFFF418#32 4, .pioaOsrR),
    (wr 0xFFFFF420#32 4 0xA5C30F96#32, .pioaIferW 0xA5C30F96#32),
    (wr 0xFFFFF424#32 4 0xA5C30F96#32, .pioaIfdrW 0xA5C30F96#32),
    (rd 0xFFFFF428#32 4, .pioaIfsrR),
    (wr 0xFFFFF430#32 4 0xA5C30F96#32, .pioaSodrW 0xA5C30F96#32),
    (wr 0xFFFFF434#32 4 0xA5C30F96#32, .pioaCodrW 0xA5C30F96#32),
    (rd 0xFFFFF438#32 4, .pioaOdsrR),
    (wr 0xFFFFF438#32 4 0xA5C30F96#32, .pioaOdsrW 0xA5C30F96#32),
    (rd 0xFFFFF43C#32 4, .pioaPdsrR),
    (wr 0xFFFFF440#32 4 0xA5C30F96#32, .pioaIerW 0xA5C30F96#32),
    (wr 0xFFFFF444#32 4 0xA5C30F96#32, .pioaIdrW 0xA5C30F96#32),
    (rd 0xFFFFF448#32 4, .pioaImrR),
    (rd 0xFFFFF44C#32 4, .pioaIsrR),
    (wr 0xFFFFF450#32 4 0xA5C30F96#32, .pioaMderW 0xA5C30F96#32),
    (wr 0xFFFFF454#32 4 0xA5C30F96#32, .pioaMddrW 0xA5C30F96#32),
    (rd 0xFFFFF458#32 4, .pioaMdsrR),
    (wr 0xFFFFF460#32 4 0xA5C30F96#32, .pioaPudrW 0xA5C30F96#32),
    (wr 0xFFFFF464#32 4 0xA5C30F96#32, .pioaPuerW 0xA5C30F96#32),
    (rd 0xFFFFF468#32 4, .pioaPusrR),
    (wr 0xFFFFF470#32 4 0xA5C30F96#32, .pioaAsrW 0xA5C30F96#32),
    (wr 0xFFFFF474#32 4 0xA5C30F96#32, .pioaBsrW 0xA5C30F96#32),
    (rd 0xFFFFF478#32 4, .pioaAbsrR),
    (wr 0xFFFFF4A0#32 4 0xA5C30F96#32, .pioaOwerW 0xA5C30F96#32),
    (wr 0xFFFFF4A4#32 4 0xA5C30F96#32, .pioaOwdrW 0xA5C30F96#32),
    (rd 0xFFFFF4A8#32 4, .pioaOwsrR)] = true := by decide +kernel

theorem test_decode_piob : decodesAll [
    (wr 0xFFFFF600#32 4 0xA5C30F96#32, .piobPerW 0xA5C30F96#32),
    (wr 0xFFFFF604#32 4 0xA5C30F96#32, .piobPdrW 0xA5C30F96#32),
    (rd 0xFFFFF608#32 4, .piobPsrR),
    (wr 0xFFFFF610#32 4 0xA5C30F96#32, .piobOerW 0xA5C30F96#32),
    (wr 0xFFFFF614#32 4 0xA5C30F96#32, .piobOdrW 0xA5C30F96#32),
    (rd 0xFFFFF618#32 4, .piobOsrR),
    (wr 0xFFFFF620#32 4 0xA5C30F96#32, .piobIferW 0xA5C30F96#32),
    (wr 0xFFFFF624#32 4 0xA5C30F96#32, .piobIfdrW 0xA5C30F96#32),
    (rd 0xFFFFF628#32 4, .piobIfsrR),
    (wr 0xFFFFF630#32 4 0xA5C30F96#32, .piobSodrW 0xA5C30F96#32),
    (wr 0xFFFFF634#32 4 0xA5C30F96#32, .piobCodrW 0xA5C30F96#32),
    (rd 0xFFFFF638#32 4, .piobOdsrR),
    (wr 0xFFFFF638#32 4 0xA5C30F96#32, .piobOdsrW 0xA5C30F96#32),
    (rd 0xFFFFF63C#32 4, .piobPdsrR),
    (wr 0xFFFFF640#32 4 0xA5C30F96#32, .piobIerW 0xA5C30F96#32),
    (wr 0xFFFFF644#32 4 0xA5C30F96#32, .piobIdrW 0xA5C30F96#32),
    (rd 0xFFFFF648#32 4, .piobImrR),
    (rd 0xFFFFF64C#32 4, .piobIsrR),
    (wr 0xFFFFF650#32 4 0xA5C30F96#32, .piobMderW 0xA5C30F96#32),
    (wr 0xFFFFF654#32 4 0xA5C30F96#32, .piobMddrW 0xA5C30F96#32),
    (rd 0xFFFFF658#32 4, .piobMdsrR),
    (wr 0xFFFFF660#32 4 0xA5C30F96#32, .piobPudrW 0xA5C30F96#32),
    (wr 0xFFFFF664#32 4 0xA5C30F96#32, .piobPuerW 0xA5C30F96#32),
    (rd 0xFFFFF668#32 4, .piobPusrR),
    (wr 0xFFFFF670#32 4 0xA5C30F96#32, .piobAsrW 0xA5C30F96#32),
    (wr 0xFFFFF674#32 4 0xA5C30F96#32, .piobBsrW 0xA5C30F96#32),
    (rd 0xFFFFF678#32 4, .piobAbsrR),
    (wr 0xFFFFF6A0#32 4 0xA5C30F96#32, .piobOwerW 0xA5C30F96#32),
    (wr 0xFFFFF6A4#32 4 0xA5C30F96#32, .piobOwdrW 0xA5C30F96#32),
    (rd 0xFFFFF6A8#32 4, .piobOwsrR)] = true := by decide +kernel

theorem test_decode_pioc : decodesAll [
    (wr 0xFFFFF800#32 4 0xA5C30F96#32, .piocPerW 0xA5C30F96#32),
    (wr 0xFFFFF804#32 4 0xA5C30F96#32, .piocPdrW 0xA5C30F96#32),
    (rd 0xFFFFF808#32 4, .piocPsrR),
    (wr 0xFFFFF810#32 4 0xA5C30F96#32, .piocOerW 0xA5C30F96#32),
    (wr 0xFFFFF814#32 4 0xA5C30F96#32, .piocOdrW 0xA5C30F96#32),
    (rd 0xFFFFF818#32 4, .piocOsrR),
    (wr 0xFFFFF820#32 4 0xA5C30F96#32, .piocIferW 0xA5C30F96#32),
    (wr 0xFFFFF824#32 4 0xA5C30F96#32, .piocIfdrW 0xA5C30F96#32),
    (rd 0xFFFFF828#32 4, .piocIfsrR),
    (wr 0xFFFFF830#32 4 0xA5C30F96#32, .piocSodrW 0xA5C30F96#32),
    (wr 0xFFFFF834#32 4 0xA5C30F96#32, .piocCodrW 0xA5C30F96#32),
    (rd 0xFFFFF838#32 4, .piocOdsrR),
    (wr 0xFFFFF838#32 4 0xA5C30F96#32, .piocOdsrW 0xA5C30F96#32),
    (rd 0xFFFFF83C#32 4, .piocPdsrR),
    (wr 0xFFFFF840#32 4 0xA5C30F96#32, .piocIerW 0xA5C30F96#32),
    (wr 0xFFFFF844#32 4 0xA5C30F96#32, .piocIdrW 0xA5C30F96#32),
    (rd 0xFFFFF848#32 4, .piocImrR),
    (rd 0xFFFFF84C#32 4, .piocIsrR),
    (wr 0xFFFFF850#32 4 0xA5C30F96#32, .piocMderW 0xA5C30F96#32),
    (wr 0xFFFFF854#32 4 0xA5C30F96#32, .piocMddrW 0xA5C30F96#32),
    (rd 0xFFFFF858#32 4, .piocMdsrR),
    (wr 0xFFFFF860#32 4 0xA5C30F96#32, .piocPudrW 0xA5C30F96#32),
    (wr 0xFFFFF864#32 4 0xA5C30F96#32, .piocPuerW 0xA5C30F96#32),
    (rd 0xFFFFF868#32 4, .piocPusrR),
    (wr 0xFFFFF870#32 4 0xA5C30F96#32, .piocAsrW 0xA5C30F96#32),
    (wr 0xFFFFF874#32 4 0xA5C30F96#32, .piocBsrW 0xA5C30F96#32),
    (rd 0xFFFFF878#32 4, .piocAbsrR),
    (wr 0xFFFFF8A0#32 4 0xA5C30F96#32, .piocOwerW 0xA5C30F96#32),
    (wr 0xFFFFF8A4#32 4 0xA5C30F96#32, .piocOwdrW 0xA5C30F96#32),
    (rd 0xFFFFF8A8#32 4, .piocOwsrR)] = true := by decide +kernel

theorem test_decode_pmc : decodesAll [
    (wr 0xFFFFFC00#32 4 0xA5C30F96#32, .pmcScerW 0xA5C30F96#32),
    (wr 0xFFFFFC04#32 4 0xA5C30F96#32, .pmcScdrW 0xA5C30F96#32),
    (rd 0xFFFFFC08#32 4, .pmcScsrR),
    (wr 0xFFFFFC10#32 4 0xA5C30F96#32, .pmcPcerW 0xA5C30F96#32),
    (wr 0xFFFFFC14#32 4 0xA5C30F96#32, .pmcPcdrW 0xA5C30F96#32),
    (rd 0xFFFFFC18#32 4, .pmcPcsrR),
    (rd 0xFFFFFC20#32 4, .pmcCkgrMorR),
    (wr 0xFFFFFC20#32 4 0xA5C30F96#32, .pmcCkgrMorW 0xA5C30F96#32),
    (rd 0xFFFFFC24#32 4, .pmcCkgrMcfrR),
    (rd 0xFFFFFC28#32 4, .pmcCkgrPllarR),
    (wr 0xFFFFFC28#32 4 0xA5C30F96#32, .pmcCkgrPllarW 0xA5C30F96#32),
    (rd 0xFFFFFC2C#32 4, .pmcCkgrPllbrR),
    (wr 0xFFFFFC2C#32 4 0xA5C30F96#32, .pmcCkgrPllbrW 0xA5C30F96#32),
    (rd 0xFFFFFC30#32 4, .pmcMckrR),
    (wr 0xFFFFFC30#32 4 0xA5C30F96#32, .pmcMckrW 0xA5C30F96#32),
    (rd 0xFFFFFC40#32 4, .pmcPck0R),
    (wr 0xFFFFFC40#32 4 0xA5C30F96#32, .pmcPck0W 0xA5C30F96#32),
    (rd 0xFFFFFC44#32 4, .pmcPck1R),
    (wr 0xFFFFFC44#32 4 0xA5C30F96#32, .pmcPck1W 0xA5C30F96#32),
    (wr 0xFFFFFC60#32 4 0xA5C30F96#32, .pmcIerW 0xA5C30F96#32),
    (wr 0xFFFFFC64#32 4 0xA5C30F96#32, .pmcIdrW 0xA5C30F96#32),
    (rd 0xFFFFFC68#32 4, .pmcSrR),
    (rd 0xFFFFFC6C#32 4, .pmcImrR),
    (rd 0xFFFFFC80#32 4, .pmcPllicprR),
    (wr 0xFFFFFC80#32 4 0xA5C30F96#32, .pmcPllicprW 0xA5C30F96#32)] = true := by decide +kernel

theorem test_decode_matrix : decodesAll [
    (rd 0xFFFFEE00#32 4, .matrixMcfg0R),
    (wr 0xFFFFEE00#32 4 0xA5C30F96#32, .matrixMcfg0W 0xA5C30F96#32),
    (rd 0xFFFFEE04#32 4, .matrixMcfg1R),
    (wr 0xFFFFEE04#32 4 0xA5C30F96#32, .matrixMcfg1W 0xA5C30F96#32),
    (rd 0xFFFFEE08#32 4, .matrixMcfg2R),
    (wr 0xFFFFEE08#32 4 0xA5C30F96#32, .matrixMcfg2W 0xA5C30F96#32),
    (rd 0xFFFFEE0C#32 4, .matrixMcfg3R),
    (wr 0xFFFFEE0C#32 4 0xA5C30F96#32, .matrixMcfg3W 0xA5C30F96#32),
    (rd 0xFFFFEE10#32 4, .matrixMcfg4R),
    (wr 0xFFFFEE10#32 4 0xA5C30F96#32, .matrixMcfg4W 0xA5C30F96#32),
    (rd 0xFFFFEE14#32 4, .matrixMcfg5R),
    (wr 0xFFFFEE14#32 4 0xA5C30F96#32, .matrixMcfg5W 0xA5C30F96#32),
    (rd 0xFFFFEE40#32 4, .matrixScfg0R),
    (wr 0xFFFFEE40#32 4 0xA5C30F96#32, .matrixScfg0W 0xA5C30F96#32),
    (rd 0xFFFFEE44#32 4, .matrixScfg1R),
    (wr 0xFFFFEE44#32 4 0xA5C30F96#32, .matrixScfg1W 0xA5C30F96#32),
    (rd 0xFFFFEE48#32 4, .matrixScfg2R),
    (wr 0xFFFFEE48#32 4 0xA5C30F96#32, .matrixScfg2W 0xA5C30F96#32),
    (rd 0xFFFFEE4C#32 4, .matrixScfg3R),
    (wr 0xFFFFEE4C#32 4 0xA5C30F96#32, .matrixScfg3W 0xA5C30F96#32),
    (rd 0xFFFFEE50#32 4, .matrixScfg4R),
    (wr 0xFFFFEE50#32 4 0xA5C30F96#32, .matrixScfg4W 0xA5C30F96#32),
    (rd 0xFFFFEE80#32 4, .matrixPras0R),
    (wr 0xFFFFEE80#32 4 0xA5C30F96#32, .matrixPras0W 0xA5C30F96#32),
    (rd 0xFFFFEE88#32 4, .matrixPras1R),
    (wr 0xFFFFEE88#32 4 0xA5C30F96#32, .matrixPras1W 0xA5C30F96#32),
    (rd 0xFFFFEE90#32 4, .matrixPras2R),
    (wr 0xFFFFEE90#32 4 0xA5C30F96#32, .matrixPras2W 0xA5C30F96#32),
    (rd 0xFFFFEE98#32 4, .matrixPras3R),
    (wr 0xFFFFEE98#32 4 0xA5C30F96#32, .matrixPras3W 0xA5C30F96#32),
    (rd 0xFFFFEEA0#32 4, .matrixPras4R),
    (wr 0xFFFFEEA0#32 4 0xA5C30F96#32, .matrixPras4W 0xA5C30F96#32),
    (rd 0xFFFFEF00#32 4, .matrixMrcrR),
    (wr 0xFFFFEF00#32 4 0xA5C30F96#32, .matrixMrcrW 0xA5C30F96#32),
    (rd 0xFFFFEF1C#32 4, .matrixEbiCsaR),
    (wr 0xFFFFEF1C#32 4 0xA5C30F96#32, .matrixEbiCsaW 0xA5C30F96#32)] = true := by decide +kernel

theorem test_decode_rstc : decodesAll [
    (wr 0xFFFFFD00#32 4 0xA5C30F96#32, .rstcCrW 0xA5C30F96#32),
    (rd 0xFFFFFD04#32 4, .rstcSrR),
    (rd 0xFFFFFD08#32 4, .rstcMrR),
    (wr 0xFFFFFD08#32 4 0xA5C30F96#32, .rstcMrW 0xA5C30F96#32)] = true := by decide +kernel

theorem test_decode_sdramc : decodesAll [
    (rd 0xFFFFEA00#32 4, .sdramcMrR),
    (wr 0xFFFFEA00#32 4 0xA5C30F96#32, .sdramcMrW 0xA5C30F96#32),
    (rd 0xFFFFEA04#32 4, .sdramcTrR),
    (wr 0xFFFFEA04#32 4 0xA5C30F96#32, .sdramcTrW 0xA5C30F96#32),
    (rd 0xFFFFEA08#32 4, .sdramcCrR),
    (wr 0xFFFFEA08#32 4 0xA5C30F96#32, .sdramcCrW 0xA5C30F96#32),
    (rd 0xFFFFEA10#32 4, .sdramcLprR),
    (wr 0xFFFFEA10#32 4 0xA5C30F96#32, .sdramcLprW 0xA5C30F96#32),
    (wr 0xFFFFEA14#32 4 0xA5C30F96#32, .sdramcIerW 0xA5C30F96#32),
    (wr 0xFFFFEA18#32 4 0xA5C30F96#32, .sdramcIdrW 0xA5C30F96#32),
    (rd 0xFFFFEA1C#32 4, .sdramcImrR),
    (rd 0xFFFFEA20#32 4, .sdramcIsrR),
    (rd 0xFFFFEA24#32 4, .sdramcMdrR),
    (wr 0xFFFFEA24#32 4 0xA5C30F96#32, .sdramcMdrW 0xA5C30F96#32)] = true := by decide +kernel

/-- R131: the frames of every owner, by category and identifier. -/
theorem test_decode_frames : ([
    (.frameIn (.usart 0) ⟨0x05#8, 0x01#8, 0x01#8, [0x61#8]⟩, .usartDataIn 0 0x05#8 [0x61#8]),
    (.frameIn (.usart 5) ⟨0x06#8, 0x02#8, 0x01#8, []⟩, .usartFaultOvre 5 0x06#8 []),
    (.frameIn (.usart 4) ⟨0x07#8, 0x02#8, 0x02#8, []⟩, .usartFaultFrame 4 0x07#8 []),
    (.frameIn (.usart 3) ⟨0x08#8, 0x02#8, 0x03#8, []⟩, .usartFaultPare 3 0x08#8 []),
    (.frameIn (.usart 2) ⟨0x09#8, 0x02#8, 0x04#8, []⟩, .usartFaultTimeout 2 0x09#8 []),
    (.frameOut (.usart 1) 0x01#8 0x02#8 [0x41#8], .usartDataOut 1 [0x41#8]),
    (.frameIn (.spi 1) ⟨0x0A#8, 0x01#8, 0x01#8, [1#8, 2#8, 3#8, 4#8]⟩, .spiDataIn 1 0x0A#8 [1#8, 2#8, 3#8, 4#8]),
    (.frameIn (.spi 0) ⟨0x0B#8, 0x02#8, 0x01#8, []⟩, .spiFaultModf 0 0x0B#8 []),
    (.frameIn (.spi 1) ⟨0x0C#8, 0x02#8, 0x02#8, []⟩, .spiFaultOvres 1 0x0C#8 []),
    (.frameOut (.spi 0) 0x01#8 0x02#8 [0xA5#8, 0#8, 0#8, 1#8], .spiDataOut 0 [0xA5#8, 0#8, 0#8, 1#8]),
    (.frameIn .twi ⟨0x0D#8, 0x01#8, 0x01#8, [7#8]⟩, .twiDataIn 0x0D#8 [7#8]),
    (.frameIn .twi ⟨0x0E#8, 0x02#8, 0x01#8, []⟩, .twiFaultOvre 0x0E#8 []),
    (.frameIn .twi ⟨0x0F#8, 0x02#8, 0x02#8, []⟩, .twiFaultNack 0x0F#8 []),
    (.frameIn .twi ⟨0x10#8, 0x02#8, 0x03#8, []⟩, .twiFaultArblst 0x10#8 []),
    (.frameOut .twi 0x01#8 0x02#8 [0xAA#8], .twiDataOut [0xAA#8]),
    (.frameOut .twi 0x01#8 0x03#8 [], .twiCtrlStart),
    (.frameOut .twi 0x01#8 0x04#8 [], .twiCtrlStop),
    (.frameIn (.pio 0) ⟨0x11#8, 0x01#8, 0x01#8, [1#8, 0#8, 0#8, 0#8]⟩, .pioPinstateEnable 0 0x11#8 [1#8, 0#8, 0#8, 0#8]),
    (.frameIn (.pio 1) ⟨0x12#8, 0x01#8, 0x02#8, [1#8, 0#8, 0#8, 0#8]⟩, .pioPinstateDisable 1 0x12#8 [1#8, 0#8, 0#8, 0#8]),
    (.frameOut (.pio 2) 0x01#8 0x03#8 [], .pioPinstateOut 2),
    (.frameIn (.pio 2) ⟨0x13#8, 0x01#8, 0x04#8, []⟩, .pioPinstateGet 2 0x13#8 []),
    (.frameIn .sdramc ⟨0x14#8, 0x02#8, 0x01#8, []⟩, .sdramcFaultRes 0x14#8 [])] : List (Op × Instr)).all
    (fun p => decide (decode .iobc p.1 = .ok p.2)) = true := by decide +kernel

/-- R93, R94, R158, R162, R163, R132: what the table does not list is rejected under the reason the rule names. -/
theorem test_decode_rejects : decode .iobc (.bus (rd 0x00108000#32 4)) = .reject .reserved
    ∧ decode .iobc (.bus (rd 0x00200002#32 4)) = .reject .accessSize
    ∧ decode .iobc (.bus (rd 0xFFFFF100#32 2)) = .reject .accessSize
    ∧ decode .iobc (.bus (rd 0xFFFFF118#32 4)) = .reject (.undefOffset .aic 0x118)
    ∧ decode .iobc (.bus (wr 0xFFFFF108#32 4 0)) = .reject (.accessDir .aic 0x108)
    ∧ decode .iobc (.frameIn .sdramc ⟨0, 1, 1, []⟩) = .reject .unknownFrame := by decide +kernel

/-- The table numbers a transaction by its address and a frame by category and identifier. -/
theorem test_table_words : decodeTableWord 32 0xFFFFF108 = some .aicIsrR
    ∧ decodeTableWord 32 0xFFFFF130 = some (.aicEoicrW 0#32)
    ∧ decodeTableWord 32 0x20000000 = some (.sdramR 0x20000000#32 .word)
    ∧ decodeTableWord 16 0x0101 = some (.usartDataIn 0 0#8 []) := by decide +kernel

/-- The operation placed by `withFetchWord` is the next one to run (vector S5: a spurious read of `IVR`). -/
theorem test_fetch_runs : (match step (State.reset.withFetchWord 32 0xFFFFF100) with
    | .next t => decide (t.aic.stack = [⟨0, 8⟩])
    | _ => false) = true := by decide +kernel

/-! ### One step -/

/-- Vector P1: the bootmem window shows the NOR flash, little-endian. -/
theorem test_bootmem_word : seen (State.reset.storeBytes 0x10000000#32 [0xEF#8, 0xBE#8, 0xAD#8, 0xDE#8])
    (.bus (rd 0x00000000#32 4)) State.rdata = some 0xDEADBEEF#32 := by decide +kernel

/-- Vector P1: one byte of it, zero-extended. -/
theorem test_bootmem_byte : seen (State.reset.storeBytes 0x10000000#32 [0xEF#8, 0xBE#8, 0xAD#8, 0xDE#8])
    (.bus (rd 0x00000001#32 1)) State.rdata = some 0x000000BE#32 := by decide +kernel

/-- Vector P1: a write of `MATRIX_MRCR` selects SRAM0. -/
theorem test_remap : seen State.reset (.bus (wr 0xFFFFEF00#32 4 3#32)) State.bootTarget = some .sram0 := by decide +kernel

/-- Vector P1: SRAM0 ends at 16 KiB, so the window does too. -/
theorem test_bootmem_end : seen (State.reset.setBootTarget .sram0) (.bus (rd 0x00004000#32 4)) State.fault
    = some (some (.reserved 0x00004000#32 0x00204000#32 .read 4 0#32)) := by decide +kernel

/-- NOR ends after the second byte of a word, SDRAM after the third (R6). -/
def ragged : State := withParams fun p => { p with sizes := ⟨0x1006, 0x2003⟩ }

/-- R8: a read that runs past the end of NOR aborts, also through the bootmem window; up to the end it does not. -/
theorem test_read_past_end :
    seen ragged (.bus (rd 0x10001004#32 4)) State.fault = some (some (.reserved 0x10001004#32 0x10001006#32 .read 4 0#32))
    ∧ seen ragged (.bus (rd 0x00001004#32 4)) State.fault = some (some (.reserved 0x10001004#32 0x10001006#32 .read 4 0#32))
    ∧ seen ragged (.bus (rd 0x10001004#32 2)) State.fault = some none := by decide +kernel

/-- R8: a write that runs past the end of SDRAM aborts and stores nothing; up to the end it stores. -/
theorem test_write_past_end :
    seen ragged (.bus (wr 0x20002002#32 2 0xA55A#32)) (fun t => (t.fault, t.mem))
      = some (some (.reserved 0x20002002#32 0x20002003#32 .write 2 0xA55A#32), [])
    ∧ seen ragged (.bus (wr 0x20002002#32 1 0xA55A#32)) (fun t => (t.fault, t.mem))
      = some (none, [(0x20002002, 0x5A#8)]) := by decide +kernel

/-- R85: the NOR flash takes no write. -/
theorem test_nor_write : seen State.reset (.bus (wr 0x10000000#32 4 1#32)) State.fault
    = some (some (.romWrite 0x10000000#32 1#32)) := by decide +kernel

/-- R90: the low half of the datum is stored, its low byte first. -/
theorem test_store_half : seen State.reset (.bus (wr 0x00200002#32 2 0xCAFEF00D#32)) State.mem
    = some [(0x00200002, 0x0D#8), (0x00200003, 0xF0#8)] := by decide +kernel

/-- Vector P2: line 6 (priority 5) is acknowledged before line 9 (priority 3). -/
theorem test_ivr : seen twoLines (.bus (rd 0xFFFFF100#32 4)) (fun t => (t.rdata, t.aic.stack))
    = some (0x20000600#32, [⟨6, 5⟩]) := by decide +kernel

/-- Vector P3: `IPR` with both edge lines latched and the external low-level lines at 0. -/
theorem test_ipr : seen twoLines (.bus (rd 0xFFFFF10C#32 4)) State.rdata = some 0xE0000241#32 := by decide +kernel

/-- Vector P2: nIRQ. -/
theorem test_cisr : seen twoLines (.bus (rd 0xFFFFF114#32 4)) State.rdata = some 0x00000002#32 := by decide +kernel

/-- Vector S5: the end of a spurious interrupt. -/
theorem test_eoicr : seen (withAic fun a => { a with stack := [⟨0, 8⟩] }) (.bus (wr 0xFFFFF130#32 4 0#32))
    (fun t => t.aic.stack) = some [] := by decide +kernel

/-- R212, R25: a ninth acknowledge aborts. -/
theorem test_aic_stack : seen (fullStack 0) (.bus (rd 0xFFFFF100#32 4)) State.fault = some (some (.aicStack 8)) := by
  decide +kernel

/-- R210: line 0 cannot be fast-forced. -/
theorem test_ffer : seen State.reset (.bus (wr 0xFFFFF140#32 4 0xFFFFFFFF#32)) (fun t => t.aic.ffsr)
    = some 0xFFFFFFFE#32 := by decide +kernel

/-- Vector P4: three bytes to memory, the counter at 0, ENDRX and RXBUFF. -/
theorem test_pdc_receive : seen (withPdc (.usart 0) (fun p => { p with rpr := 0x20000000#32, rcr := 3, rxten := true })
      (withClient (.usart 0) (withUsart 0 fun x => { x with rxEnabled := true })))
    (.bytes (.usart 0) [1#8, 1#8, 1#8, 3#8, 0x10#8, 0x20#8, 0x30#8])
    (fun t => (t.mem, (t.pdc (.usart 0)).rcr, (t.pdc (.usart 0)).rpr, t.usartCsr 0))
    = some ([(0x20000000, 0x10#8), (0x20000001, 0x20#8), (0x20000002, 0x30#8)], 0#16, 0x20000003#32, 0x00001008#32) := by
  decide +kernel

/-- Vector P5: an overrun, with the unread character kept and the new one queued. -/
theorem test_usart_overrun : seen (withClient (.usart 0) (withUsart 0 fun x =>
      { x with rxEnabled := true, rhr := 0x61, rxrdy := true })) (.bytes (.usart 0) [1#8, 1#8, 1#8, 1#8, 0x62#8])
    (fun t => (t.usartCsr 0, (t.usart 0).rhr, (t.usart 0).rxq)) = some (0x00000021#32, 0x61#9, [0x62#9]) := by
  decide +kernel

/-- Section 1.3 of the vectors: a receiver that is off answers ENXIO. -/
theorem test_usart_enxio : seen (withClient (.usart 0) State.reset) (.bytes (.usart 0) [5#8, 1#8, 1#8, 1#8, 0x61#8])
    (fun t => (t.link (.usart 0)).outq) = some [⟨5#8, 1#8, 1#8, [6#8, 0#8, 0#8, 0#8]⟩] := by decide +kernel

/-- Vector P8: a byte transmitted leaves with bit 7 of the sequence byte set. -/
theorem test_usart_transmit : seen (withClient (.usart 0) (withUsart 0 fun x => { x with txEnabled := true }))
    (.bus (wr 0xFFFB001C#32 4 0x41#32)) (fun t => ((t.link (.usart 0)).outq, (t.link (.usart 0)).seq))
    = some ([⟨0x80#8, 1#8, 2#8, [0x41#8]⟩], 1#7) := by decide +kernel

/-- Vector S3: a looped-back word sets RDRF. -/
theorem test_spi_loopback : seen (withSpi 0 fun x => { x with mr := 1, enabled := true }) (.bus (wr 0xFFFC800C#32 4 0xA5#32))
    (fun t => (t.spiSr 0, (t.spi 0).rdr)) = some (0x00010203#32, 0x000000A5#32) := by decide +kernel

/-- Section 1.3 of the vectors: the unit of chip select 1, and the wait for its echo. -/
theorem test_spi_unit : seen (withClient (.spi 0) (withSpi 0 fun x => { x with mr := 0x000D0001#32, enabled := true }))
    (.bus (wr 0xFFFC800C#32 4 0xA5#32)) (fun t => ((t.link (.spi 0)).outq, (t.spi 0).awaiting))
    = some ([⟨0x80#8, 1#8, 2#8, [0xA5#8, 0#8, 0#8, 1#8]⟩], some 1) := by decide +kernel

/-- R374: a word of more than 16 bits. -/
theorem test_spi_bits : seen State.reset (.bus (wr 0xFFFC8034#32 4 0x90#32)) State.fault
    = some (some (.spiBits 0 0x34 0x90#32)) := by decide +kernel

/-- R390: the CPU waits while an SPI awaits an echo, and its transaction stays first. -/
theorem test_spi_hold : seen awaiting (.bus (rd 0xFFFFF108#32 4)) State.inputs = some [.bus (rd 0xFFFFF108#32 4)] := by
  decide +kernel

/-- R388: the echo of one unit ends the wait. -/
theorem test_spi_echo : seen (withClient (.spi 0) awaiting) (.bytes (.spi 0) [9#8, 1#8, 1#8, 4#8, 0x34#8, 0x12#8, 0#8, 0#8])
    (fun t => ((t.spi 0).awaiting, (t.spi 0).rdr, t.held)) = some (none, 0x000E1234#32, false) := by decide +kernel

/-- Section 1.3 of the vectors: one START, data, STOP burst. -/
theorem test_twi_burst : seen (withClient .twi (withTwi fun x =>
      { x with mode := .master, mmr := 0x00500100, iadr := 0x10, txbuf := [0xAA#8], debounceArmed := true, txcomp := false }))
    .twiFlush (fun t => ((t.link .twi).outq, t.twi.txcomp))
    = some ([⟨0x80#8, 1#8, 3#8, [0x50#8, 1#8, 0x10#8, 0#8, 0#8]⟩, ⟨0x81#8, 1#8, 2#8, [0xAA#8]⟩, ⟨0x82#8, 1#8, 4#8, []⟩],
      true) := by decide +kernel

/-- R432: slave mode is unsupported. -/
theorem test_twi_slave : seen State.reset (.bus (wr 0xFFFAC000#32 4 0x10#32)) State.fault
    = some (some (.twiSlave 0x10#32)) := by decide +kernel

/-- Vector S4: the response, most significant byte first. -/
theorem test_mci_response : seen (withCard ⟨[.short 0 0 9 0], [], some true, []⟩ State.reset)
    (.bus (wr 0xFFFA8014#32 4 0x00000051#32)) (fun t => (t.mci.rspr[0], t.mci.rspWords, t.sd.cards[0].calls))
    = some (0x00000900#32, 1, [.command 17#6 0#32]) := by decide +kernel

/-- R502: `TDR` with no write transfer. -/
theorem test_mci_tdr : seen State.reset (.bus (wr 0xFFFA8034#32 4 7#32)) State.fault = some (some (.mciTdr 7#32)) := by
  decide +kernel

/-- R499: four bytes of a read transfer, the first in bits 7:0. -/
theorem test_mci_rdr : seen (withCard ⟨[], [1, 2, 3, 4, 5], some true, []⟩ (withMci fun x =>
      { x with xfer := .active .read (.bytes 8) 0 8 })) (.bus (rd 0xFFFA8030#32 4)) (fun t => (t.rdata, t.mci.xfer))
    = some (0x04030201#32, .active .read (.bytes 4) 4 8) := by decide +kernel

/-- R560: a free-running waveform counter wraps with COVFS. -/
theorem test_tc_wrap : seen (withTc 0 fun x => { x with cmr := 0x8000, cv := 0xFFFF, rc := 5, ra := 9, rb := 9, running := true })
    (.tick (.tc 0)) (fun t => ((t.tc 0).cv, (t.tc 0).latches)) = some (0#16, 0x01#8) := by decide +kernel

/-- R553: burst mode is unsupported. -/
theorem test_tc_burst : seen State.reset (.bus (wr 0xFFFA0044#32 4 0x10#32)) State.fault
    = some (some (.tcBurst 1 0x10#32)) := by decide +kernel

/-- Vector S6: the last tick of a PIT period drives line 1 through the stub. -/
theorem test_pit_tick : seen (State.reset.setPit { State.reset.pit with mr := 0x030000FF, cpiv := 0xFF, running := true })
    (.tick .pit) (fun t => (t.pit.pits, t.pit.value, t.aic.ipr)) = some (true, 0x00100000#32, 0xE0000003#32) := by
  decide +kernel

/-- R594: the alarm one past `AR`. -/
theorem test_rtt_alarm : seen (State.reset.setRtt { State.reset.rtt with ar := 7, crtv := 7 }) (.tick .rtt)
    (fun t => (t.rtt.crtv, t.rtt.alms, t.rtt.rttinc)) = some (8#32, true, true) := by decide +kernel

/-- Vector S1: the console receives the byte. -/
theorem test_dbgu_out : seen State.reset (.bus (wr 0xFFFFF21C#32 4 0x41#32)) State.consoleOut = some [0x41#8] := by
  decide +kernel

/-- R637: an unread byte is replaced and OVRE rises. -/
theorem test_dbgu_in : seen (State.reset.setDbgu { State.reset.dbgu with rxrdy := true, rhr := 1 }) (.console 2#8)
    (fun t => (t.dbgu.rhr, t.dbgu.sr)) = some (2#8, 0x00000223#32) := by decide +kernel

/-- R662: a pin the PIO drives shows its latch, sets `ISR` and is announced. -/
theorem test_pio_output : seen (withClient (.pio 0) (withPio 0 fun x => { x with osr := 4 })) (.bus (wr 0xFFFFF430#32 4 6#32))
    (fun t => ((t.pio 0).pdsr, (t.pio 0).isr, (t.link (.pio 0)).outq))
    = some (4#32, 4#32, [⟨0x80#8, 1#8, 3#8, [4#8, 0#8, 0#8, 0#8]⟩]) := by decide +kernel

/-- R510: PIOB pin 7 selects card 1. -/
theorem test_pio_card : seen (withClient (.pio 1) State.reset) (.bytes (.pio 1) [1#8, 1#8, 1#8, 4#8, 0x80#8, 0#8, 0#8, 0#8])
    (fun t => t.mci.selectedCard) = some 1 := by decide +kernel

/-- Vector P6: the main clock selected, announced once. -/
theorem test_pmc_mckr : seen (withPmc fun x => { x with mor := 0x4001, moscs := true }) (.bus (wr 0xFFFFFC30#32 4 1#32))
    (fun t => (t.pmc.mclkHz, t.pmc.mclkChanges, t.pmc.sr)) = some (18432000, 1, 0x00000009#32) := by decide +kernel

/-- R674: `CKGR_MCFR` with the main oscillator on: 18432000 · 16 / 32768 = 9000. -/
theorem test_pmc_mcfr : seen (withPmc fun x => { x with mor := 1, moscs := true }) (.bus (rd 0xFFFFFC24#32 4)) State.rdata
    = some 0x00012328#32 := by decide +kernel

/-- R170, R822: a software reset. -/
theorem test_rstc : seen twoLines (.bus (wr 0xFFFFFD00#32 4 0xA5000001#32)) (fun t => (t.rstc.sr, t.aic.imr, t.aic.latch))
    = some (0x00010300#32, 0#32, 0#32) := by decide +kernel

/-- R173, R175: a refresh error, enabled, drives the stub. -/
theorem test_sdramc_res : seen (withClient .sdramc (State.reset.setSdramc { State.reset.sdramc with imr := true }))
    (.bytes .sdramc [0#8, 2#8, 1#8, 0#8]) (fun t => (t.sdramc.res, t.stubIn, bit t.aic.line 1)) = some (true, 0x10#32, true) := by
  decide +kernel

/-- R160: an unimplemented window reads 0. -/
theorem test_unimplemented : seen (State.reset.setRdata 5#32) (.bus (rd 0xFFFFFD44#32 4)) State.rdata = some 0#32 := by
  decide +kernel

/-- R826: an image stands in NOR and in SDRAM from offset 0, and address 0 shows the NOR copy. -/
theorem test_image : ((State.withImage Params.iobc [0x11#8, 0x22#8]).mem,
    seen (State.withImage Params.iobc [0x11#8, 0x22#8]) (.bus (rd 0x00000000#32 4)) State.rdata)
    = ([(0x10000000, 0x11#8), (0x10000001, 0x22#8), (0x20000000, 0x11#8), (0x20000001, 0x22#8)], some 0x00002211#32) := by
  decide +kernel

/-- R6: the paths of the IO-X sockets, the default and one an instance overrides. -/
theorem test_iox_path : Params.iobc.ioxPath (.usart 3) = "/tmp/qemu_at91_usart3"
    ∧ ({ Params.iobc with ioxPaths := [(.twi, "/tmp/twi")] } : Params).ioxPath .twi = "/tmp/twi" := by decide +kernel

/-- R820: the host's reset. -/
theorem test_host_reset : seen twoLines .socReset (fun t => (t.aic.imr, t.rstc.rsttyp)) = some (0#32, State.reset.rstc.rsttyp) := by
  decide +kernel

/-- R85, R95: a DMA write to ROM aborts with `A_DMA` and the underlying `A_ROM_WRITE`; one outside memory has no other. -/
theorem test_dma_rom : (dmaStore .twi 0x00107FFF#32 [7#8, 8#8] State.reset).fault
      = some (.dma .twi 0x00107FFF#32 (.romWrite 0x00107FFF#32 7#32))
    ∧ (dmaStore .twi 0x00203FFF#32 [7#8, 8#8] State.reset).fault = some (.dma .twi 0x00203FFF#32 .notMemory) := by
  decide +kernel

/-- Vector V47: a receive DMA into ROM through the bootmem window, `BMS` = 1. -/
theorem test_dma_rom_bootmem : seen (withPdc (.usart 0) (fun p => { p with rpr := 0, rcr := 1, rxten := true })
      (withClient (.usart 0) ((withUsart 0 fun x => { x with rxEnabled := true }).setBootTarget .rom)))
    (.bytes (.usart 0) [0#8, 1#8, 1#8, 1#8, 0#8]) State.fault = some (some (.dma (.usart 0) 0#32 (.romWrite 0x00100000#32 0#32))) := by decide +kernel

/-- R372: a transmit DMA armed while the SPI is off starts when it is enabled. -/
theorem test_spi_armed : seen (withPdc (.spi 0) (fun p => { p with tpr := 0x00200000#32, tcr := 1, txten := true })
      ((withSpi 0 fun x => { x with mr := 1 }).storeBytes 0x00200000#32 [0xA5#8]))
    (.bus (wr 0xFFFC8000#32 4 1#32)) (fun t => ((t.spi 0).rdr, (t.pdc (.spi 0)).txbufe)) = some (0x000000A5#32, true) := by
  decide +kernel

/-- R432: a transmit DMA armed while the TWI is offline starts when it becomes master. -/
theorem test_twi_armed : seen (withPdc .twi (fun p => { p with tpr := 0x00200000#32, tcr := 1, txten := true })
      (withClient .twi (State.reset.storeBytes 0x00200000#32 [9#8])))
    (.bus (wr 0xFFFAC000#32 4 4#32)) (fun t => ((t.link .twi).outq.map Frame.id, (t.pdc .twi).txbufe))
    = some ([3#8, 2#8, 4#8], true) := by decide +kernel

/-- R132: a frame the table does not list has no effect and no reply. -/
theorem test_unlisted_frame : seen (withClient .sdramc State.reset) (.bytes .sdramc [5#8, 1#8, 1#8, 0#8])
    (fun t => ((t.link .sdramc).outq, (t.link .sdramc).inbuf, t.sdramc.res)) = some ([], [], false) := by decide +kernel

/-- A block write of two bytes with a current buffer of two and a next one of one, in byte mode. -/
def limited : State := pdcTxStart .mci (withPdc .mci (fun p => { p with
  tpr := 0x00107FFE#32, tcr := 2, tnpr := 0x00300000#32, tncr := 1, txten := true })
  (withMci fun x => { x with mrLow := 0x2000, xfer := .active .write (.bytes 2) 0 4 }))

/-- R504: a transmit whose limit ends exactly with the current buffer sends the card just that buffer and leaves the
next pair where it is (log entry 15). -/
theorem test_mci_limit : ((limited.pdc .mci).tcr = 0#16 ∧ (limited.pdc .mci).tncr = 1#16
      ∧ (limited.pdc .mci).tpr = 0x00108000#32 ∧ (limited.pdc .mci).endtx = true ∧ (limited.pdc .mci).txbufe = false)
    ∧ limited.mci.xfer = .idle ∧ limited.sd.cards[0].calls = [.writeData 0, .writeData 0] := by decide +kernel

/-- R160, R774: the diagnostic of an aborted access tells a write of 0 from a read. -/
theorem test_unimplemented_abort : seen (withParams fun p => { p with unimplReadAbort := true })
      (.bus (rd 0xFFFFFD44#32 4)) State.fault = some (some (.unimpl .wdt 4 .read 0#32))
    ∧ seen (withParams fun p => { p with unimplWriteAbort := true })
      (.bus (wr 0xFFFFFD44#32 4 0#32)) State.fault = some (some (.unimpl .wdt 4 .write 0#32)) := by decide +kernel

/-- R270: three bytes fill the first receive buffer and roll over into the second. -/
theorem test_pdc_roll_over : seen (withPdc (.usart 0) (fun p => { p with
      rpr := 0x20000000#32, rcr := 2, rnpr := 0x00200000#32, rncr := 2, rxten := true })
      (withClient (.usart 0) (withUsart 0 fun x => { x with rxEnabled := true })))
    (.bytes (.usart 0) [1#8, 1#8, 1#8, 3#8, 0x10#8, 0x20#8, 0x30#8])
    (fun t => (t.mem, (t.pdc (.usart 0)).rcr, (t.pdc (.usart 0)).rpr, (t.pdc (.usart 0)).ptsr))
    = some ([(0x00200000, 0x30#8), (0x20000000, 0x10#8), (0x20000001, 0x20#8)], 1#16, 0x00200001#32, 1#32) := by
  decide +kernel

/-- R386, R387: the DMA of a looped-back SPI copies memory inside the write of `TCR`. -/
theorem test_spi_copy : seen (withPdc (.spi 0) (fun p => { p with
      tpr := 0x00200000#32, txten := true, rpr := 0x20000000#32, rcr := 2, rxten := true })
      ((withSpi 0 fun x => { x with mr := 1, enabled := true }).storeBytes 0x00200000#32 [0xA5#8, 0x5A#8]))
    (.bus (wr 0xFFFC810C#32 4 2#32)) (fun t => (t.loadBytes 0x20000000#32 2, (t.pdc (.spi 0)).rxbuff, (t.spi 0).rdrf))
    = some ([0xA5#8, 0x5A#8], true, false) := by decide +kernel

/-- R450: the transmit DMA of the TWI sends its buffer between one START and one STOP. -/
theorem test_twi_dma : seen (withPdc .twi (fun p => { p with tpr := 0x00200000#32, txten := true })
      (withClient .twi ((withTwi fun x => { x with mode := .master, mmr := 0x00500000 }).storeBytes 0x00200000#32 [9#8])))
    (.bus (wr 0xFFFAC10C#32 4 1#32)) (fun t => (t.link .twi).outq)
    = some [⟨0x80#8, 1#8, 3#8, [0x50#8, 0#8, 0#8, 0#8, 0#8]⟩, ⟨0x81#8, 1#8, 2#8, [9#8]⟩, ⟨0x82#8, 1#8, 4#8, []⟩] := by
  decide +kernel

/-- Vector S4: a block read command in PDC mode brings the block to memory in the same step. -/
theorem test_mci_block : seen (withPdc .mci (fun p => { p with rpr := 0x20000000#32, rcr := 1, rxten := true })
      (withCard ⟨[.short 0 0 9 0], [1, 2, 3, 4], some true, []⟩ (withMci fun x => { x with mrLow := 0x8000, blklen := 4 })))
    (.bus (wr 0xFFFA8014#32 4 0x00050051#32))
    (fun t => (t.loadBytes 0x20000000#32 4, t.mci.xfer, t.mci.blke, (t.pdc .mci).endrx))
    = some ([1#8, 2#8, 3#8, 4#8], .idle, true, true) := by decide +kernel

/-- R497: in PDC mode a block boundary that a `TDR` write passes does not set BLKE; outside it does. -/
theorem test_mci_boundary : seen (withMci fun x => { x with mrLow := 0x8000, xfer := .active .write (.bytes 8) 0 4 })
      (.bus (wr 0xFFFA8034#32 4 7#32)) (fun t => t.mci.blke) = some false
    ∧ seen (withMci fun x => { x with xfer := .active .write (.bytes 8) 0 4 })
      (.bus (wr 0xFFFA8034#32 4 7#32)) (fun t => t.mci.blke) = some true := by decide +kernel

/-- R551, R394, R512: the clocks that follow the master clock of 18432000 Hz. -/
theorem test_clocks : seen ((withPmc fun x => { x with mor := 0x4001, moscs := true }).setSpi 0
      { Spi.reset with csr := Spi.reset.csr.set 1 0x0800#32 }) (.bus (wr 0xFFFFFC30#32 4 1#32))
    (fun t => (t.pit.freqHz, t.spiClock 0 1, t.mciClock)) = some (1152000, 2304000, 9216000) := by decide +kernel

/-- R590: the prescaler of the RTT, 0 standing for 65536. -/
theorem test_rtt_prescaler : rttPrescaler 0x00030000#32 = 65536
    ∧ seen State.reset (.bus (wr 0xFFFFFD20#32 4 0x00000020#32)) (fun t => t.rtt.freqHz) = some 1024 := by decide +kernel

/-- R770: an abort ends the run. -/
theorem test_abort_is_terminal : step (aborted.setInputs [.console 1#8]) = .fault (.aicStack 8) := rfl

/-! ### Concrete cases of the hypotheses of the statements

One theorem for each statement that has hypotheses, with a conjunct for each of its clauses, at the ends of the ranges
where a clause has one. `State.reset.ready` stands for every clause whose only hypothesis is that the fabric serves the
transaction. -/

theorem test_reset_ready : State.reset.ready = true := by decide

theorem test_witness_StepRunsDecodedOperation :
    ((State.reset.setInputs [.bus (rd 0xFFFFF108#32 4)]).ready = true ∧ decode .iobc (.bus (rd 0xFFFFF108#32 4)) = .ok .aicIsrR)
    ∧ ((State.reset.setInputs [.transmit .twi 1#8 4#8 []]).fault = none
      ∧ decode .iobc (.frameOut .twi 1#8 4#8 []) = .ok .twiCtrlStop) := by decide +kernel

theorem test_witness_StepRunsDecodedFrame :
    (((withClient (.usart 0) State.reset).link (.usart 0)).client = true
      ∧ ((withClient (.usart 0) State.reset).link (.usart 0)).inbuf = [] ∧ (withClient (.usart 0) State.reset).fault = none
      ∧ (List.replicate 255 0x61#8).length ≤ 255
      ∧ decode .iobc (.frameIn (.usart 0) ⟨0#8, 1#8, 1#8, List.replicate 255 0x61#8⟩)
        = .ok (.usartDataIn 0 0#8 (List.replicate 255 0x61#8)))
    ∧ ((0x02#8, 0x04#8) ∈ ([(1, 1), (2, 1), (2, 2), (2, 3), (2, 4)] : List (Byte × Byte))
      ∧ (0x02#8, 0x05#8) ∉ ([(1, 1), (2, 1), (2, 2), (2, 3), (2, 4)] : List (Byte × Byte)))
    ∧ (0x01#8, 0x03#8) ∉ ([(1, 1), (1, 2), (1, 4)] : List (Byte × Byte))
    ∧ (State.reset.fault = none ∧ (State.reset.link (.usart 0)).client = false) := by decide +kernel

theorem test_witness_OperationsAnswerUntilAbort : State.reset.fault = none ∧ aborted.fault = some (.aicStack 8) := by
  decide +kernel

theorem test_witness_HoldStopsOnlyTheCpu : awaiting.fault = none ∧ awaiting.held = true
    ∧ encode .aicIsrR = .bus (rd 0xFFFFF108#32 4)
    ∧ (∀ i, i ∈ ([.bus (rd 0xFFFFF108#32 4)] : List Input) → isBusInput i = true)
    ∧ isBusInput (.tick .rtt) = false
    ∧ (awaiting.setInputs [.bus (rd 0xFFFFF108#32 4), .tick .rtt]).inputs
      = [.bus (rd 0xFFFFF108#32 4)] ++ .tick .rtt :: [] := by decide +kernel

theorem test_witness_DecodeOfEncode : (Instr.sdramW 0x21FFFFFC#32 .word 0xFFFFFFFF#32).wellFormed .iobc = true
    ∧ ((MemSizes.mk 6 3).ok = true ∧ (Instr.norR 0x10000004#32 .word).wellFormed ⟨6, 3⟩ = true)
    ∧ (Instr.spiDataOut 1 (List.replicate 252 0#8)).wellFormed .iobc = true
    ∧ (Instr.usartDataIn 5 0#8 (List.replicate 255 0#8)).wellFormed .iobc = true := by decide +kernel

theorem test_witness_InvalidTransactions :
    (regionOf .iobc 0x00108000#32 = none ∧ wordAccess (rd 0x00108000#32 4) = true)
    ∧ (regionOf .iobc 0x00108001#32 = none ∧ wordAccess (rd 0x00108001#32 1) = false)
    ∧ ((regionOf .iobc 0xFFFFF100#32).map Region.kind = some (.mmio .aic) ∧ wordAccess (rd 0xFFFFF100#32 2) = false)
    ∧ ((regionOf .iobc 0xFFFFFD4F#32).map Region.kind = some (.unimpl .wdt) ∧ wordAccess (rd 0xFFFFFD4F#32 1) = false)
    ∧ ((regionOf .iobc 0x00203FFE#32).map Region.kind = some (.memory .sram0) ∧ memoryAccess (rd 0x00203FFE#32 4) = none)
    ∧ ((regionOf .iobc 0x000FFFFE#32).map Region.kind = some .bootmem ∧ memoryAccess (rd 0x000FFFFE#32 4) = none)
    ∧ ((regionOf .iobc 0xFFFFF118#32).map Region.kind = some (.mmio .aic) ∧ wordAccess (rd 0xFFFFF118#32 4) = true
      ∧ decodeRegister .aic 0x118 .read 0 = .undefined)
    ∧ ((regionOf .iobc 0xFFFFF108#32).map Region.kind = some (.mmio .aic) ∧ wordAccess (wr 0xFFFFF108#32 4 0) = true
      ∧ decodeRegister .aic 0x108 .write 0 = .wrongDir ∧ State.reset.params.accessStrict = true)
    ∧ ((regionOf .iobc 0xFFFFF130#32).map Region.kind = some (.mmio .aic) ∧ wordAccess (rd 0xFFFFF130#32 4) = true
      ∧ decodeRegister .aic 0x130 .read 0 = .wrongDir
      ∧ (withParams fun p => { p with accessStrict := false }).params.accessStrict = false
      ∧ (withParams fun p => { p with accessStrict := false }).ready = true) := by decide +kernel

/-- Both arrays cut to eight bytes, as an environment may ask (R6). -/
def small : Params := { Params.iobc with sizes := ⟨8, 8⟩ }

theorem test_witness_ResetState : Params.iobc.sizes.ok = true ∧ small.sizes.ok = true
    ∧ (7 < small.sizes.nor ∧ ([0#8, 1#8, 2#8, 3#8, 4#8, 5#8, 6#8, 7#8, 8#8] : List Byte)[7]? = some 7#8) := by
  decide +kernel

theorem test_witness_ValuesAfterSocReset : State.reset.fault = none ∧ State.reset.ready = true
    ∧ field 0xA5000001#32 31 24 = 0xA5 ∧ bit 0xA5000001#32 0 = true ∧ field 0xA5000004#32 31 24 = 0xA5
    ∧ bit 0xA5000004#32 2 = true ∧ answers (exec (.rstcCrW 0xA5000001#32) State.reset) = true
    ∧ answers (exec (.rstcCrW 0xA5000004#32) State.reset) = true := by decide +kernel

theorem test_witness_SocResetPreserves : (State.reset.link (.pio 0)).client = false
    ∧ ((withClient (.pio 0) State.reset).link (.pio 0)).client = true
    ∧ ((State.reset.setInputs [.socReset]).fault = none
      ∧ (State.reset.setInputs [.socReset]).inputs = .socReset :: []) := by decide +kernel

theorem test_witness_MemoryReads : State.reset.ready = true
    ∧ (∀ i : AccessSize → Instr, i ∈ [.romR 0x00107FFC#32, .sram0R 0x00203FFC#32, .sram1R 0x00303FFC#32,
      .norR 0x100FFFFC#32, .sdramR 0x21FFFFFC#32] →
      (i .byte).wellFormed .iobc = true ∧ (i .half).wellFormed .iobc = true ∧ (i .word).wellFormed .iobc = true)
    ∧ [(0x00107FFC#32, 0x00108000), (0x00203FFC#32, 0x00204000), (0x00303FFC#32, 0x00304000),
      (0x100FFFFC#32, 0x10000000 + MemSizes.iobc.nor), (0x21FFFFFC#32, 0x20000000 + MemSizes.iobc.sdram)].all
      (fun p : Word × Nat => decide (p.1.toNat + 4 ≤ p.2) && decide (p.1.toNat + 2 ≤ p.2)) = true
    ∧ (ragged.ready = true ∧ ragged.params.sizes = ⟨0x1006, 0x2003⟩ ∧ ragged.params.sizes.ok = true
      ∧ (Instr.norR 0x10001004#32 .word).wellFormed ragged.params.sizes = true
      ∧ 0x10000000 + ragged.params.sizes.nor < (0x10001004#32).toNat + AccessSize.word.bytes
      ∧ (Instr.norR 0x10001004#32 .half).wellFormed ragged.params.sizes = true
      ∧ (0x10001004#32).toNat + 2 ≤ 0x10000000 + ragged.params.sizes.nor
      ∧ (Instr.sdramR 0x20002002#32 .half).wellFormed ragged.params.sizes = true
      ∧ 0x20000000 + ragged.params.sizes.sdram < (0x20002002#32).toNat + AccessSize.half.bytes) := by
  refine ⟨rfl, fun i hi => ?_, by decide +kernel, by decide +kernel⟩
  simp only [List.mem_cons, List.not_mem_nil, or_false] at hi
  rcases hi with rfl | rfl | rfl | rfl | rfl <;> decide +kernel

theorem test_witness_MemoryWrites : State.reset.ready = true ∧ Memory.wf State.reset.mem = true
    ∧ (Instr.sram0W 0x00203FFF#32 .byte 1#32).wellFormed .iobc = true ∧ (Instr.sram1W 0x00303FFE#32 .half 1#32).wellFormed .iobc = true
    ∧ (Instr.sdramW 0x21FFFFFC#32 .word 1#32).wellFormed .iobc = true
    ∧ ((0x00203FFF#32).toNat + AccessSize.byte.bytes ≤ 0x00204000 ∧ (0x00303FFE#32).toNat + AccessSize.half.bytes ≤ 0x00304000
      ∧ (0x21FFFFFC#32).toNat + AccessSize.word.bytes ≤ 0x20000000 + MemSizes.iobc.sdram)
    ∧ (Instr.sram0W 0x00203FFF#32 .byte 1#32, 0x00204000) ∈ [(Instr.sram0W 0x00203FFF#32 .byte 1#32, 0x00204000),
      (.sram1W 0x00203FFF#32 .byte 1#32, 0x00304000), (.sdramW 0x00203FFF#32 .byte 1#32, 0x20000000 + MemSizes.iobc.sdram)]
    ∧ (ragged.ready = true ∧ ragged.params.sizes.ok = true
      ∧ (Instr.sdramW 0x20002000#32 .word 1#32).wellFormed ragged.params.sizes = true
      ∧ 0x20000000 + ragged.params.sizes.sdram < (0x20002000#32).toNat + AccessSize.word.bytes)
    ∧ Instr.romW 0x00100000#32 .word 1#32 ∈ [Instr.romW 0x00100000#32 .word 1#32, .norW 0x00100000#32 .word 1#32] := by
  decide +kernel

/-- Both channels of a host armed over two buffers: two units to the end of SRAM0 and one to SDRAM, two units from the
end of ROM and one from SRAM1. -/
def armed (h : PdcHost) (s : State) : State := withPdc h (fun p => { p with
  rpr := 0x00203FFE#32, rcr := 2, rnpr := 0x20000000#32, rncr := 1, rxten := true
  tpr := 0x00107FFE#32, tcr := 2, tnpr := 0x00300000#32, tncr := 1, txten := true }) s

/-- The same with both first buffers one byte too high. -/
def misplaced (h : PdcHost) (s : State) : State := withPdc h (fun p => { p with
  rpr := 0x00203FFF#32, rcr := 2, rxten := true, tpr := 0x00107FFF#32, tcr := 2, txten := true }) s

/-- A receive channel is armed, has room, and its buffers take `n` units of `unit` bytes. -/
def takes (h : PdcHost) (unit n : Nat) (s : State) : Bool :=
  s.fault.isNone && (s.pdc h).rxten && decide ((s.pdc h).rxRoom ≠ 0) && s.receiveBuffersOk h unit n

/-- A receive channel is armed, has room, and its buffers do not take them. -/
def spills (h : PdcHost) (unit n : Nat) (s : State) : Bool :=
  s.fault.isNone && (s.pdc h).rxten && decide ((s.pdc h).rxRoom ≠ 0) && !s.receiveBuffersOk h unit n

/-- A transmit channel is armed, has something to send, and its buffers can be read. -/
def gives (h : PdcHost) (unit : Nat) (s : State) : Bool :=
  s.fault.isNone && (s.pdc h).txten && decide ((s.pdc h).txCount ≠ 0) && s.sendBuffersOk h unit (s.pdc h).txCount

/-- A transmit channel is armed, has something to send, and its buffers cannot be read. -/
def lacks (h : PdcHost) (unit : Nat) (s : State) : Bool :=
  s.fault.isNone && (s.pdc h).txten && decide ((s.pdc h).txCount ≠ 0) && !s.sendBuffersOk h unit (s.pdc h).txCount

theorem test_witness_DmaTransfers : (Memory.wf State.reset.mem = true ∧ [1#8, 2#8].length < 2 ^ 32
      ∧ ([1#8, 2#8] : List Byte)[1]? = some 2#8
      ∧ (∀ j, 0 < j → j < [1#8, 2#8].length → State.reset.redirect (0x00203FFE#32 + BitVec.ofNat 32 j)
        ≠ State.reset.redirect (0x00203FFE#32 + BitVec.ofNat 32 0)))
    ∧ State.reset.writableBuffer 0x00203FFE#32 2 = true
    ∧ (State.reset.writableBuffer 0x00203FFF#32 1 = true
      ∧ dmaWritable .iobc (State.reset.redirect (0x00203FFF#32 + BitVec.ofNat 32 1)) = false)
    ∧ (State.reset.writableBuffer 0x00100000#32 0 = true ∧ memoryAt .iobc 0x00100000#32 = some .rom)
    ∧ takes (.usart 0) 1 3 (armed (.usart 0) State.reset) = true
    ∧ spills .twi 1 2 (misplaced .twi State.reset) = true
    ∧ ((misplaced .twi State.reset).pdc .twi).txCount ≠ 0
    ∧ (misplaced .twi State.reset).readableBuffer 0x00107FFF#32 2 = false := by
  refine ⟨⟨rfl, by decide, rfl, fun j h1 h2 => ?_⟩, by decide +kernel⟩
  have : j = 1 := by simp at h2; omega
  subst this; decide +kernel

theorem test_witness_BootmemAlias : (State.reset.ready = true ∧ State.reset.params.sizes = .iobc)
    ∧ ([(0x00000000, .word), (0x000FFFFF, .byte), (0x00007FFC, .word), (0x00003FFE, .half), (0x00008000, .word),
        (0x00004000, .word), (0x00008000, .byte), (0x00004000, .half)] : List (Word × AccessSize)).all
      (fun p => (Instr.bootmemR p.1 p.2).wellFormed .iobc) = true
    ∧ ((State.reset.setBootTarget .rom).ready = true ∧ (0x00007FFC#32).toNat < 0x8000 ∧ 0x8000 ≤ (0x00008000#32).toNat)
    ∧ ((State.reset.setBootTarget .sram0).ready = true ∧ (0x00003FFE#32).toNat < 0x4000 ∧ 0x4000 ≤ (0x00004000#32).toNat)
    ∧ (State.reset.bootTarget = .ebiNcs0 ∧ (0x000FFFFF#32).toNat < State.reset.params.sizes.nor)
    ∧ ((withParams fun p => { p with sizes := ⟨0x1000, 0x2000⟩ }).ready = true
      ∧ (Instr.bootmemR 0x00001000#32 .half).wellFormed ⟨0x1000, 0x2000⟩ = true
      ∧ 0x1000 ≤ (0x00001000#32).toNat) := by decide +kernel

theorem test_witness_UnimplementedWindows : State.reset.ready = true ∧ State.reset.params.unimplReadAbort = false
    ∧ State.reset.params.unimplWriteAbort = false
    ∧ (withParams fun p => { p with unimplReadAbort := true, unimplWriteAbort := true }).ready = true
    ∧ (withParams fun p => { p with unimplReadAbort := true, unimplWriteAbort := true }).params.unimplReadAbort = true
    ∧ (withParams fun p => { p with unimplReadAbort := true, unimplWriteAbort := true }).params.unimplWriteAbort = true := by
  decide +kernel

theorem test_witness_MatrixAndRstcRegisters : State.reset.ready = true
    ∧ (field 0xA5000001#32 31 24 = 0xA5 ∧ bit 0xA5000001#32 0 = true)
    ∧ (field 0xA5000004#32 31 24 = 0xA5 ∧ bit 0xA5000004#32 2 = true)
    ∧ field 0xA4000005#32 31 24 ≠ 0xA5 ∧ (bit 0xA5000002#32 0 = false ∧ bit 0xA5000002#32 2 = false) := by decide +kernel

theorem test_witness_AicRegisters : State.reset.ready = true ∧ State.reset.aic.stack = []
    ∧ (withAic fun a => { a with stack := [⟨3, 1⟩, ⟨6, 5⟩] }).ready = true
    ∧ (withAic fun a => { a with stack := [⟨3, 1⟩, ⟨6, 5⟩] }).aic.stack = [⟨3, 1⟩] ++ [⟨6, 5⟩] := by decide +kernel

theorem test_witness_AicAcknowledge :
    (twoLines.ready = true ∧ twoLines.aic.select = some 6 ∧ bit twoLines.aic.dcr 0 = false ∧ twoLines.aic.stack.length ≠ 8)
    ∧ (State.reset.ready = true ∧ State.reset.aic.select = none ∧ bit State.reset.aic.dcr 0 = false
      ∧ State.reset.aic.stack.length ≠ 8)
    ∧ ((fullStack 0).ready = true ∧ bit (fullStack 0).aic.dcr 0 = false ∧ (fullStack 0).aic.stack.length = 8)
    ∧ ((twoLines.setAic { twoLines.aic with dcr := 1 }).ready = true
      ∧ (twoLines.setAic { twoLines.aic with dcr := 1 }).aic.select = some 6
      ∧ bit (twoLines.setAic { twoLines.aic with dcr := 1 }).aic.dcr 0 = true)
    ∧ ((withAic fun a => { a with dcr := 1 }).ready = true ∧ (withAic fun a => { a with dcr := 1 }).aic.select = none
      ∧ bit (withAic fun a => { a with dcr := 1 }).aic.dcr 0 = true)
    ∧ ((fullStack 1).ready = true ∧ bit (fullStack 1).aic.dcr 0 = true ∧ (fullStack 1).aic.stack.length = 8) := by
  decide +kernel

theorem test_witness_AicSelection :
    (withAic fun a => { a with smr := a.smr.set 29 0x20#32 }).aic.isEdge 29 = true
    ∧ State.reset.aic.isEdge 1 = false ∧ State.reset.aic.effType 1 = .levelHigh
    ∧ State.reset.aic.isEdge 31 = false ∧ State.reset.aic.effType 31 = .levelLow := by decide +kernel

theorem test_witness_AicOutputs : (1 ≤ (1 : Fin 32).val ∧ (1 : Fin 32).val ≤ 28) ∧ (28 : Fin 32).val ≤ 28
    ∧ (0 : Fin 32).val ∈ [0, 29, 30, 31] ∧ (29 : Fin 32).val ∈ [0, 29, 30, 31] ∧ (31 : Fin 32).val ∈ [0, 29, 30, 31] := by
  decide +kernel

theorem test_witness_AcknowledgeProtocol : twoLines.ready = true ∧ twoLines.aic.select = some 6
    ∧ bit twoLines.aic.dcr 0 = false ∧ twoLines.aic.stack.length < 8 ∧ answers (exec .aicIvrR twoLines) = true
    ∧ twoLines.aic.isEdge 6 = true
    ∧ (withAic fun a => { a with line := 2, imr := 2 }).aic.select = some 1
    ∧ (withAic fun a => { a with line := 2, imr := 2 }).aic.isEdge 1 = false
    ∧ bit (withAic fun a => { a with line := 2, imr := 2 }).aic.dcr 1 = false
    ∧ (withAic fun a => { a with line := 2, imr := 2 }).aic.stack = []
    ∧ answers (exec .aicIvrR (withAic fun a => { a with line := 2, imr := 2 })) = true := by decide +kernel

theorem test_witness_InterruptLines : bit State.reset.aic.line 0 = false ∧ bit State.reset.aic.line 31 ≠ true
    ∧ (State.reset.setInputs [.pin 29 true]).fault = none ∧ (29 : Fin 32).val ∈ [0, 29, 30, 31]
    ∧ (28 : Fin 32).val ∉ [0, 29, 30, 31] := by decide +kernel

theorem test_witness_PdcCounts : (State.reset.ready = true ∧ (State.reset.pdc .twi).rxten = false
      ∧ (State.reset.pdc .twi).txten = false)
    ∧ ((withPdc .twi (fun p => { p with rxten := true, txten := true }) State.reset).ready = true
      ∧ ((withPdc .twi (fun p => { p with rxten := true, txten := true }) State.reset).pdc .twi).rcr = 0#16
      ∧ ((withPdc .twi (fun p => { p with rxten := true, txten := true }) State.reset).pdc .twi).tcr = 0#16)
    ∧ ((armed .mci State.reset).ready = true ∧ ((armed .mci State.reset).pdc .mci).rcr ≠ 0#16
      ∧ ((armed .mci State.reset).pdc .mci).tcr ≠ 0#16)
    ∧ ((0x00010000#32).extractLsb 15 0 : BitVec 16) = 0#16 ∧ ((0xFFFFFFFF#32).extractLsb 15 0 : BitVec 16) ≠ 0#16 := by
  decide +kernel

theorem test_witness_PdcControl : State.reset.ready = true ∧ (State.reset.pdc .mci).rcr = 0#16
    ∧ (State.reset.pdc .mci).rncr = 0#16 ∧ (State.reset.pdc .mci).tcr = 0#16 ∧ (State.reset.pdc .mci).tncr = 0#16
    ∧ (((State.reset.pdc .mci).rxten || bit 0x00000202#32 0) && !bit 0x00000202#32 1) = false
    ∧ bit 0x00000202#32 9 = true := by decide +kernel

/-- A USART with both channels armed. -/
def dmaUsart : State := armed (.usart 5) (withUsart 5 fun x => { x with rxEnabled := true, txEnabled := true })

/-- The same with characters waiting. -/
def dmaWaiting : State := dmaUsart.setUsart 5 { dmaUsart.usart 5 with rxq := [0x101, 2, 3, 4] }

theorem test_witness_UsartDmaReceive :
    (takes (.usart 5) 1 3 dmaUsart = true ∧ (dmaUsart.usart 5).rxEnabled = true ∧ (dmaUsart.usart 5).rxq = []
      ∧ (dmaUsart.usart 5).rxrdy = false ∧ min [1#8, 2#8, 3#8, 4#8].length (dmaUsart.pdc (.usart 5)).rxRoom = 3
      ∧ [1#8, 2#8, 3#8, 4#8].drop 3 = 4#8 :: [])
    ∧ [1#8, 2#8, 3#8].length ≤ (dmaUsart.pdc (.usart 5)).rxRoom
    ∧ (spills (.usart 5) 1 2 (misplaced (.usart 5) dmaUsart) = true
      ∧ min [1#8, 2#8].length ((misplaced (.usart 5) dmaUsart).pdc (.usart 5)).rxRoom = 2)
    ∧ (takes (.usart 5) 1 3 dmaWaiting = true ∧ (dmaWaiting.usart 5).rxq ≠ []
      ∧ min (dmaWaiting.usart 5).rxq.length (dmaWaiting.pdc (.usart 5)).rxRoom = 3
      ∧ (dmaWaiting.usart 5).rxq.drop 3 = 4#9 :: [])
    ∧ spills (.usart 5) 1 3 (misplaced (.usart 5) dmaWaiting) = true := by decide +kernel

theorem test_witness_UsartDmaTransmit :
    gives (.usart 5) 1 dmaUsart = true ∧ lacks (.usart 5) 1 (misplaced (.usart 5) dmaUsart) = true
    ∧ ((withPdc (.usart 0) (fun p => { p with tpr := 0x00107FFE#32, txten := true }) State.reset).ready = true
      ∧ ((withPdc (.usart 0) (fun p => { p with tpr := 0x00107FFE#32, txten := true }) State.reset).pdc (.usart 0)).tncr
        = 0#16
      ∧ ((2#32).extractLsb 15 0 : BitVec 16) ≠ 0#16
      ∧ (withPdc (.usart 0) (fun p => { p with tpr := 0x00107FFE#32, txten := true }) State.reset).readableBuffer
        0x00107FFE#32 ((2#32).extractLsb 15 0 : BitVec 16).toNat = true)
    ∧ ((withPdc (.usart 0) (fun p => { p with tnpr := 0x00107FFE#32, txten := true }) State.reset).ready = true
      ∧ ((withPdc (.usart 0) (fun p => { p with tnpr := 0x00107FFE#32, txten := true }) State.reset).pdc (.usart 0)).tcr
        = 0#16
      ∧ (withPdc (.usart 0) (fun p => { p with tnpr := 0x00107FFE#32, txten := true }) State.reset).readableBuffer
        0x00107FFE#32 ((2#32).extractLsb 15 0 : BitVec 16).toNat = true)
    ∧ (let s := withPdc (.usart 5) (fun p => { p with rxten := false, txten := false }) dmaUsart
       s.ready = true ∧ (s.pdc (.usart 5)).rxten = false ∧ (s.pdc (.usart 5)).tcr ≠ 0#16
        ∧ (s.pdc (.usart 5)).tncr ≠ 0#16 ∧ s.sendBuffersOk (.usart 5) 1 (s.pdc (.usart 5)).txCount = true) := by
  decide +kernel

theorem test_witness_UsartControl : (State.reset.ready = true ∧ (State.reset.pdc (.usart 0)).rxActive = false)
    ∧ (dmaWaiting.ready = true ∧ (dmaWaiting.pdc (.usart 5)).rxActive = true ∧ bit 0x10#32 4 = true) := by decide +kernel

theorem test_witness_UsartReceive : ((State.reset.usart 0).rxEnabled = false ∧ State.reset.fault = none)
    ∧ ((withUsart 0 fun x => { x with rxEnabled := true, rxrdy := true }).usart 0).rxrdy = true
    ∧ ((withUsart 0 fun x => { x with rxEnabled := true, rxrdy := true }).usart 0).rxEnabled = true
    ∧ ((withUsart 0 fun x => { x with rxEnabled := true, rxrdy := true }).pdc (.usart 0)).rxActive = false
    ∧ ((withUsart 0 fun x => { x with rxEnabled := true }).usart 0).rxq ++ [0x61#8].map (·.setWidth 9) = 0x61#9 :: []
    ∧ ((withUsart 0 fun x => { x with rxEnabled := true }).usart 0).rxq = []
    ∧ ((withUsart 0 fun x => { x with rxEnabled := true, rxq := [0x62] }).usart 0).rxq = 0x62#9 :: []
    ∧ (withUsart 0 fun x => { x with rxEnabled := true, rxq := [0x62] }).ready = true := by decide +kernel

theorem test_witness_UsartTransmitAndFaults : (withUsart 0 fun x => { x with txEnabled := true }).ready = true
    ∧ ((withUsart 0 fun x => { x with txEnabled := true }).usart 0).txEnabled = true ∧ State.reset.ready = true
    ∧ (State.reset.usart 0).txEnabled = false := by decide +kernel

theorem test_witness_SpiRegisters : State.reset.ready = true ∧ field 0x80#32 7 4 ≤ 8 ∧ 8 < field 0x90#32 7 4 := by
  decide +kernel

theorem test_witness_SpiControlAndFaults : (State.reset.ready = true ∧ (State.reset.pdc (.spi 1)).txActive = false)
    ∧ ((armed (.spi 1) State.reset).ready = true ∧ ((armed (.spi 1) State.reset).pdc (.spi 1)).txActive = true
      ∧ ((((armed (.spi 1) State.reset).spi 1).enabled || bit 0x01#32 0) && !bit 0x01#32 1) = true) := by decide +kernel

/-- An enabled SPI in master mode. -/
def spiMaster (mr : Word) : State := withSpi 0 fun x => { x with mr := mr, enabled := true }

/-- One transmit buffer of two words at the end of ROM, and a receive buffer of three at the end of SRAM0. -/
def spiCopier (rx : Bool) : State := withPdc (.spi 0) (fun p => { p with
  tpr := 0x00107FFE#32, tcr := 2, txten := true, rpr := 0x00203FFD#32, rcr := 3, rxten := rx }) (spiMaster 1)

theorem test_witness_SpiLoopback : State.reset.ready = true ∧ (State.reset.spi 0).enabled = false
    ∧ bit (State.reset.spi 0).mr 2 = false
    ∧ ((spiMaster 5).spi 0).select 14#4 = some (14, 3)
    ∧ ((spiMaster 0).ready = true ∧ ((spiMaster 0).spi 0).enabled = true ∧ bit ((spiMaster 0).spi 0).mr 0 = false
      ∧ (spiMaster 0).params.abortSpiSlave = true)
    ∧ ({ spiMaster 0 with params := { Params.iobc with abortSpiSlave := false } } : State).ready = true
    ∧ ((spiMaster 0x000F0001).spi 0).select 15#4 = none
    ∧ (((spiMaster 1).spi 0).select 0#4 = some (0, 0) ∧ ((spiMaster 1).link (.spi 0)).client = false
      ∧ ((spiMaster 1).pdc (.spi 0)).rxActive = false ∧ ((spiMaster 1).spi 0).rdrf = false)
    ∧ ((withSpi 0 fun x => { x with mr := 1, enabled := true, rdrf := true }).spi 0).rdrf = true
    ∧ ((withSpi 0 fun x => { x with rxq := [7] }).ready = true ∧ ((withSpi 0 fun x => { x with rxq := [7] }).spi 0).rxq = 7#16 :: [])
    ∧ (let s := armed (.spi 0) (withSpi 0 fun x => { x with rxq := [1, 2, 3, 4], lastBits := 8 })
       (s.spi 0).rxq ≠ [] ∧ takes (.spi 0) 1 3 s = true ∧ min (s.spi 0).rxq.length (s.pdc (.spi 0)).rxRoom = 3)
    ∧ (let s := misplaced (.spi 0) (withSpi 0 fun x => { x with rxq := [1], lastBits := 9 })
       (s.spi 0).rxq ≠ [] ∧ spills (.spi 0) 2 1 s = true ∧ min (s.spi 0).rxq.length (s.pdc (.spi 0)).rxRoom = 1)
    ∧ (∀ rx, (let s := spiCopier rx
       s.fault = none ∧ (s.spi 0).enabled = true ∧ bit (s.spi 0).mr 0 = true ∧ bit (s.spi 0).mr 1 = false
        ∧ (s.spi 0).select ((s.spi 0).mr.extractLsb 19 16) = some (0, 0) ∧ (s.link (.spi 0)).client = false
        ∧ (s.pdc (.spi 0)).txten = true ∧ (s.pdc (.spi 0)).tcr ≠ 0#16 ∧ (s.pdc (.spi 0)).tncr = 0#16
        ∧ (s.spi 0).rxq = [] ∧ field (s.spi 0).csr[0] 7 4 = 0 ∧ s.readableBuffer (s.pdc (.spi 0)).tpr 2 = true
        ∧ (s.pdc (.spi 0)).rxten = rx ∧ 2 ≤ (s.pdc (.spi 0)).rcr.toNat ∧ (s.pdc (.spi 0)).rncr = 0#16
        ∧ s.writableBuffer (s.pdc (.spi 0)).rpr 2 = true)) := by
  decide +kernel

theorem test_witness_SpiClientTransfer :
    ((withClient (.spi 0) (spiMaster 1)).ready = true ∧ ((withClient (.spi 0) (spiMaster 1)).link (.spi 0)).client = true
      ∧ ((withClient (.spi 0) (spiMaster 1)).spi 0).select 0#4 = some (0, 0))
    ∧ ((withClient (.spi 0) State.reset).fault = none ∧ [1#8, 2#8, 3#8, 4#8].length % 4 = 0 ∧ [1#8, 2#8, 3#8, 4#8] ≠ [])
    ∧ (State.reset.link (.spi 0)).client = false ∧ (State.reset.spi 0).awaiting = none
    ∧ ((awaiting.spi 0).awaiting = some 1
      ∧ ((awaiting.spi 0).echoAcc ++ [1#8, 2#8, 3#8]).length < 1 * awaiting.params.spiInUnitBytes)
    ∧ (awaiting.fault = none ∧ awaiting.params.spiInUnitBytes = 4
      ∧ 4 * 1 ≤ ((awaiting.spi 0).echoAcc ++ [1#8, 2#8, 3#8, 4#8]).length ∧ (awaiting.pdc (.spi 0)).rxActive = false
      ∧ (awaiting.spi 0).rdrf = false ∧ (awaiting.spi 0).rxq = [])
    ∧ (State.reset.spi 0).enabled = false
    ∧ (((spiMaster 0).spi 0).enabled = true ∧ bit ((spiMaster 0).spi 0).mr 0 = false
      ∧ (spiMaster 0).params.abortSpiSlave = true)
    ∧ ((spiMaster 0x000F0001).spi 0).select (((spiMaster 0x000F0001).spi 0).mr.extractLsb 19 16) = none
    ∧ (let s := armed (.spi 0) (withClient (.spi 0) (spiMaster 1))
       gives (.spi 0) 1 s = true ∧ bit (s.spi 0).mr 1 = false
        ∧ (s.spi 0).select ((s.spi 0).mr.extractLsb 19 16) = some (0, 0) ∧ field (s.spi 0).csr[0] 7 4 = 0
        ∧ (s.link (.spi 0)).client = true)
    ∧ (let s := misplaced (.spi 0) (spiMaster 1)
       s.readableBuffer (s.pdc (.spi 0)).txCurrent.tpr ((s.pdc (.spi 0)).txCurrent.tcr.toNat * 1) = false)
    ∧ (let s := withPdc (.spi 0) (fun p => { p with tpr := 0x20000000#32, tcr := 2, txten := true })
        ((spiMaster 3).storeBytes 0x20000004#32 [0#8, 0#8, 0xF#8, 0#8])
       gives (.spi 0) 4 s = true ∧ (s.pdc (.spi 0)).txCurrent.tncr = 0#16 ∧ (s.pdc (.spi 0)).txCount = 2
        ∧ groupsOf 4 8 (s.loadBytes 0x20000000#32 8) = [[0#8, 0#8, 0#8, 0#8], [0#8, 0#8, 0xF#8, 0#8]]
        ∧ (s.spi 0).select ((leWord [0#8, 0#8, 0#8, 0#8]).extractLsb 19 16) = some (0, 0)
        ∧ (s.spi 0).select ((leWord [0#8, 0#8, 0xF#8, 0#8]).extractLsb 19 16) = none) := by decide +kernel

theorem test_witness_TwiControl : State.reset.ready = true ∧ bit 0x00000005#32 4 = false
    ∧ (State.reset.pdc .twi).txActive = false
    ∧ ((withParams fun p => { p with abortTwiSlave := false }).params.abortTwiSlave = false
      ∧ (withParams fun p => { p with abortTwiSlave := false }).ready = true)
    ∧ ((withTwi fun x => { x with mode := .master, txcomp := false }).ready = true ∧ bit 0x10#32 4 = true
      ∧ (withTwi fun x => { x with mode := .master, txcomp := false }).twi.mode = .master
      ∧ (withTwi fun x => { x with mode := .master, txcomp := false }).twi.txcomp = false)
    ∧ (State.reset.twi.mode ≠ .master ∧ State.reset.params.abortTwiSlave = true)
    ∧ ((armed .twi State.reset).ready = true ∧ bit 0x04#32 4 = false ∧ bit 0x04#32 2 = true ∧ bit 0x04#32 3 = false
      ∧ ((armed .twi State.reset).pdc .twi).txActive = true) := by decide +kernel

/-- The TWI in master mode with bytes waiting for the debounce timer. -/
def twiMaster : State := withTwi fun x => { x with mode := .master, txbuf := [1], debounceArmed := true }

theorem test_witness_TwiTransmit : (withTwi fun x => { x with mode := .master }).ready = true
    ∧ (withTwi fun x => { x with mode := .master }).twi.mode = .master ∧ State.reset.twi.mode ≠ .master
    ∧ State.reset.params.twiStartDadr = .low7
    ∧ ((twiMaster.setInputs [.twiFlush]).fault = none ∧ (twiMaster.setInputs [.twiFlush]).twi.debounceArmed = true
      ∧ (twiMaster.setInputs [.twiFlush]).twi.txbuf ≠ [])
    ∧ (State.reset.setInputs [.twiFlush]).twi.debounceArmed = false
    ∧ (twiMaster.twi.mode = .master ∧ gives .twi 1 (armed .twi twiMaster) = true
      ∧ lacks .twi 1 (misplaced .twi twiMaster) = true) := by decide +kernel

theorem test_witness_TwiReceive : State.reset.fault = none ∧ (State.reset.pdc .twi).rxActive = false
    ∧ (withTwi fun x => { x with rxrdy := true }).twi.rxrdy = true ∧ State.reset.twi.rxrdy = false
    ∧ State.reset.twi.rxq ++ [7#8] = 7#8 :: [] ∧ State.reset.twi.rxq = []
    ∧ ((withTwi fun x => { x with rxq := [9] }).ready = true ∧ (withTwi fun x => { x with rxq := [9] }).twi.rxq = 9#8 :: [])
    ∧ (let s := armed .twi (withTwi fun x => { x with rxq := [1, 2, 3, 4] })
       s.twi.rxq ≠ [] ∧ takes .twi 1 3 s = true ∧ min s.twi.rxq.length (s.pdc .twi).rxRoom = 3)
    ∧ (let s := misplaced .twi (withTwi fun x => { x with rxq := [1, 2] })
       s.twi.rxq ≠ [] ∧ spills .twi 1 2 s = true ∧ min s.twi.rxq.length (s.pdc .twi).rxRoom = 2) := by
  decide +kernel

/-- Card 0 is ready, with a read transfer of one byte active outside PDC mode. -/
def readyCard : State := withCard ⟨[], [], some true, []⟩ (withMci fun x => { x with xfer := .active .read (.bytes 1) 0 1 })

theorem test_witness_MciRegisters : State.reset.ready = true ∧ bit 0x01#32 7 = false ∧ bit 0x80#32 7 = true
    ∧ (readyCard.ready = true ∧ readyCard.mci.xfer = .active .read (.bytes 1) 0 1 ∧ MciRemaining.bytes 1 ≠ .bytes 0
      ∧ readyCard.mci.mrLow.getLsbD 15 = false ∧ readyCard.mci.selectedCard = 0
      ∧ readyCard.sd.cards[0].ready = some true) := by decide +kernel

/-- R485: RXRDY of that card; not in PDC mode, not with the card not ready, not with nothing left. -/
theorem test_mci_rxrdy : seen readyCard (.bus (rd 0xFFFA8040#32 4)) (fun t => bit t.rdata 1) = some true
    ∧ seen (readyCard.setMci { readyCard.mci with mrLow := 0x8000 }) (.bus (rd 0xFFFA8040#32 4)) (fun t => bit t.rdata 1)
      = some false
    ∧ seen (withCard ⟨[], [], some false, []⟩ readyCard) (.bus (rd 0xFFFA8040#32 4)) (fun t => bit t.rdata 1) = some false
    ∧ seen (readyCard.setMci { readyCard.mci with xfer := .active .read (.bytes 0) 0 1 }) (.bus (rd 0xFFFA8040#32 4))
      (fun t => bit t.rdata 1) = some false := by decide +kernel

/-- Card 0 answers nothing to its next command. -/
def silentCard : State := withCard ⟨[.none], [], some true, []⟩ State.reset

/-- Card 0 answers its next command; a block is `len` bytes long, and `mrLow` is the low half of `MR`. -/
def cardWith (len cnt : BitVec 16) (mrLow : BitVec 16) : State := withCard ⟨[.short 0 0 9 0], [], some true, []⟩
  (withMci fun x => { x with blklen := len, bcnt := cnt, mrLow := mrLow })

/-- The question the start of a transfer asks of the card has an answer. -/
def replies (s : State) : Bool := decide ((sdCommand s.mci.selectedCard 0x11#6 s.mci.argr
  (s.setMci { s.mci with rtoe := false, rinde := false, rdire := false, rcrce := false, rende := false })).1 ≠ .none)

theorem test_witness_MciCommand : State.reset.ready = true
    ∧ (field 0x00000051#32 7 6 ≠ 3 ∧ field 0x00000051#32 17 16 ≠ 1 ∧ field 0x00000051#32 17 16 ≠ 3)
    ∧ (silentCard.ready = true ∧ field 0x00050051#32 17 16 = 1 ∧ field 0x00050051#32 21 19 ∈ [0, 1, 4, 5]
      ∧ field 0x00050051#32 7 6 ∈ [1, 2] ∧ replies silentCard = false)
    ∧ ((cardWith 6 1 0x8000).ready = true ∧ replies (cardWith 6 1 0x8000) = true ∧ 6 % 4 ≠ 0)
    ∧ ((cardWith 0 1 0).ready = true ∧ replies (cardWith 0 1 0) = true ∧ (cardWith 0 1 0).mci.blklen.toNat = 0)
    ∧ ((cardWith 4 2 0).ready = true ∧ replies (cardWith 4 2 0) = true ∧ (cardWith 4 2 0).mci.mrLow.getLsbD 15 = false
      ∧ field 0x000D0051#32 17 16 = 1 ∧ field 0x000D0051#32 21 19 = 1)
    ∧ ((cardWith 4 0 0x8000).ready = true ∧ replies (cardWith 4 0 0x8000) = true
      ∧ (cardWith 4 0 0x8000).mci.mrLow.getLsbD 15 = true ∧ field 0x002D0051#32 21 19 = 5
      ∧ field 0x00250051#32 21 19 = 4)
    ∧ field 0x000000C0#32 7 6 = 3 ∧ field 0x00030000#32 17 16 = 3
    ∧ (field 0x00190000#32 17 16 = 1 ∧ field 0x00190000#32 21 19 ∈ [3, 6, 7])
    ∧ (field 0x00390000#32 17 16 = 1 ∧ field 0x00390000#32 21 19 ∈ [3, 6, 7])
    ∧ (field 0x00110000#32 17 16 = 1 ∧ field 0x00110000#32 21 19 = 2 ∧ State.reset.params.abortMciStream = true)
    ∧ ((withParams fun p => { p with abortMciStream := false }).ready = true
      ∧ (withParams fun p => { p with abortMciStream := false }).params.abortMciStream = false)
    ∧ ((withMci fun x => { x with rspIdx := 3, rspWords := 4 }).ready = true
      ∧ (withMci fun x => { x with rspIdx := 3, rspWords := 4 }).mci.rspIdx = (3 : Fin 4).val
      ∧ (withMci fun x => { x with rspIdx := 3, rspWords := 4 }).mci.rspIdx
        < (withMci fun x => { x with rspIdx := 3, rspWords := 4 }).mci.rspWords)
    ∧ State.reset.mci.rspWords ≤ State.reset.mci.rspIdx := by decide +kernel

/-- Card 0 answers its next command, and a block is one byte long. -/
def answeringCard : State := withCard ⟨[.short 0 0 9 0], [], some true, []⟩ (withMci fun x => { x with blklen := 1 })

theorem test_witness_MciData :
    (answeringCard.ready = true ∧ field 0x00050051#32 7 6 ≠ 3 ∧ field 0x00050051#32 17 16 = 1
      ∧ field 0x00050051#32 21 19 = 0 ∧ answeringCard.mci.mrLow.getLsbD 15 = false ∧ answeringCard.mci.blklen ≠ 0#16
      ∧ answeringCard.sd.cards[answeringCard.mci.selectedCard.val].responses = .short 0 0 9 0 :: [])
    ∧ (withMci fun x => { x with xfer := .active .read (.bytes 5) 0 8 }).ready = true
    ∧ (withMci fun x => { x with xfer := .active .read (.bytes 5) 0 8 }).mci.xfer = .active .read (.bytes 5) 0 8
    ∧ (withMci fun x => { x with xfer := .active .read (.bytes 4) 0 8 }).mci.xfer = .active .read (.bytes 4) 0 8
    ∧ (withMci fun x => { x with xfer := .active .read .infinite 0 8 }).mci.xfer = .active .read .infinite 0 8
    ∧ (withMci fun x => { x with xfer := .active .write (.bytes 5) 0 8 }).mci.xfer = .active .write (.bytes 5) 0 8
    ∧ (withMci fun x => { x with xfer := .active .write (.bytes 1) 0 0 }).mci.xfer = .active .write (.bytes 1) 0 0
    ∧ (withMci fun x => { x with xfer := .active .write .infinite 4 8 }).mci.xfer = .active .write .infinite 4 8
    ∧ State.reset.ready = true ∧ State.reset.mci.xfer = .idle := by decide +kernel

/-- A transfer of the MCI with both channels armed over two buffers. -/
def mciArmed (dir : MciDir) (rem : MciRemaining) : State :=
  armed .mci (withMci fun x => { x with mrLow := 0x2000, xfer := .active dir rem 0 4 })

/-- A read transfer of four bytes in byte mode, the receive channel enabled with no room, its pointer at the end of
SDRAM. -/
def mciReceiver : State := withPdc .mci (fun p => { p with rpr := 0x21FFFFFC#32, rxten := true })
  (withMci fun x => { x with mrLow := 0x2000, xfer := .active .read (.bytes 4) 0 4 })

/-- Scenario S4: a block of eight bytes, the receive channel armed for two words. -/
def mciBlock : State := withPdc .mci (fun p => { p with rpr := 0x21FFFFF8#32, rcr := 2, rxten := true })
  (withCard ⟨[.short 0 0 9 0], [1, 2, 3, 4, 5, 6, 7, 8], some true, []⟩
    (withMci fun x => { x with mrLow := 0x8000, blklen := 8 }))

/-- The reads of `MciPdcTransfers`: two units, which end exactly with the current buffer, then three over both buffers,
for a transfer of three bytes, of five bytes, and of no end. -/
theorem test_witness_MciPdcTransfers_read :
    (∀ r, r ∈ [MciRemaining.bytes 2, .bytes 3, .bytes 5, .infinite] →
      (mciArmed .read r).fault = none ∧ (mciArmed .read r).mci.xfer = .active .read r 0 4
      ∧ ((mciArmed .read r).pdc .mci).rxten = true ∧ (mciArmed .read r).mci.mrLow.getLsbD 13 = true
      ∧ ((mciArmed .read r).pdc .mci).rxRoom = 3)
    ∧ (2 = min ((mciArmed .read (.bytes 2)).pdc .mci).rxRoom (2 / 1) ∧ ((mciArmed .read (.bytes 2)).pdc .mci).rcr = 2#16
      ∧ (mciArmed .read (.bytes 2)).receiveBuffersOk .mci 1 2 = true)
    ∧ (3 = min ((mciArmed .read (.bytes 5)).pdc .mci).rxRoom (5 / 1)
      ∧ (mciArmed .read (.bytes 3)).receiveBuffersOk .mci 1 3 = true
      ∧ (mciArmed .read (.bytes 5)).receiveBuffersOk .mci 1 3 = true
      ∧ (mciArmed .read .infinite).receiveBuffersOk .mci 1 3 = true)
    ∧ (spills .mci 1 2 (misplaced .mci mciReceiver) = true ∧ ((misplaced .mci mciReceiver).pdc .mci).rxRoom = 2
      ∧ (misplaced .mci mciReceiver).mci.xfer = .active .read (.bytes 4) 0 4)
    ∧ (mciReceiver.fault = none ∧ (mciReceiver.pdc .mci).rxten = true ∧ (mciReceiver.pdc .mci).rxRoom = 0) := by
  decide +kernel

/-- The writes of `MciPdcTransfers`, with the same lengths. -/
theorem test_witness_MciPdcTransfers_write :
    (∀ r, r ∈ [MciRemaining.bytes 2, .bytes 3, .bytes 5, .infinite] →
      (mciArmed .write r).fault = none ∧ (mciArmed .write r).mci.xfer = .active .write r 0 4
      ∧ ((mciArmed .write r).pdc .mci).txten = true ∧ (mciArmed .write r).mci.mrLow.getLsbD 13 = true
      ∧ ((mciArmed .write r).pdc .mci).txCount = 3)
    ∧ (2 = min ((mciArmed .write (.bytes 2)).pdc .mci).txCount (2 / 1) ∧ ((mciArmed .write (.bytes 2)).pdc .mci).tcr = 2#16
      ∧ (mciArmed .write (.bytes 2)).sendBuffersOk .mci 1 2 = true)
    ∧ (3 = min ((mciArmed .write (.bytes 5)).pdc .mci).txCount (5 / 1)
      ∧ (mciArmed .write (.bytes 3)).sendBuffersOk .mci 1 3 = true
      ∧ (mciArmed .write (.bytes 5)).sendBuffersOk .mci 1 3 = true
      ∧ (mciArmed .write .infinite).sendBuffersOk .mci 1 3 = true)
    ∧ (lacks .mci 1 (misplaced .mci (mciArmed .write (.bytes 4))) = true
      ∧ (2 = min ((misplaced .mci (mciArmed .write (.bytes 2))).pdc .mci).txCount (2 / 1)
        ∧ (misplaced .mci (mciArmed .write (.bytes 2))).sendBuffersOk .mci 1 2 = false)) := by decide +kernel

/-- A write transfer of three bytes in word mode, the transmit channel armed. -/
def mciPartUnit : State := armed .mci (withMci fun x => { x with xfer := .active .write (.bytes 3) 1 4 })

/-- The starts of `MciPdcTransfers` that move nothing: no transfer of the direction, the channel not armed, buffers used
up, and less than a unit left. -/
theorem test_witness_MciPdcTransfers_nothing :
    ((armed .mci State.reset).mci.xfer = .idle ∧ ((armed .mci State.reset).pdc .mci).rxActive = true
      ∧ ((armed .mci State.reset).pdc .mci).txActive = true)
    ∧ ((mciArmed .write (.bytes 2)).mci.xfer = .active .write (.bytes 2) 0 4
      ∧ (mciArmed .read (.bytes 2)).mci.xfer = .active .read (.bytes 2) 0 4)
    ∧ (((withMci fun x => { x with xfer := .active .read (.bytes 4) 0 4 }).pdc .mci).rxten = false
      ∧ ((withMci fun x => { x with xfer := .active .write (.bytes 4) 0 4 }).pdc .mci).txten = false)
    ∧ (let s := withPdc .mci (fun p => { p with txten := true }) mciPartUnit
       (withPdc .mci (fun p => { p with tcr := 0, tncr := 0 }) s).fault = none
      ∧ ((withPdc .mci (fun p => { p with tcr := 0, tncr := 0 }) s).pdc .mci).txten = true
      ∧ ((withPdc .mci (fun p => { p with tcr := 0, tncr := 0 }) s).pdc .mci).txCount = 0)
    ∧ (mciPartUnit.fault = none ∧ mciPartUnit.mci.xfer = .active .write (.bytes 3) 1 4
      ∧ mciPartUnit.mci.mrLow.getLsbD 13 = false ∧ (mciPartUnit.pdc .mci).txten = true
      ∧ (mciPartUnit.pdc .mci).txCount = 3 ∧ 0 = min (mciPartUnit.pdc .mci).txCount (3 / 4)
      ∧ (pdcTxStart .mci mciPartUnit).mci = mciPartUnit.mci
      ∧ (pdcTxStart .mci mciPartUnit).pdc .mci = mciPartUnit.pdc .mci
      ∧ (pdcTxStart .mci mciPartUnit).sd.cards = mciPartUnit.sd.cards) := by decide +kernel

/-- The write of `RCR` in `MciPdcTransfers`. -/
theorem test_witness_MciPdcTransfers_count : mciReceiver.ready = true ∧ mciReceiver.mci.mrLow.getLsbD 13 = true
    ∧ mciReceiver.mci.xfer = .active .read (.bytes (((4#32).extractLsb 15 0 : BitVec 16).toNat * 1)) 0 4
    ∧ (mciReceiver.pdc .mci).rxten = true ∧ (mciReceiver.pdc .mci).rncr = 0#16
    ∧ ((4#32).extractLsb 15 0 : BitVec 16) ≠ 0#16
    ∧ mciReceiver.writableBuffer (mciReceiver.pdc .mci).rpr 4 = true := by decide +kernel

/-- The command in `MciPdcTransfers`, scenario S4. -/
theorem test_witness_MciPdcTransfers_command : mciBlock.ready = true ∧ field 0x00050051#32 7 6 ≠ 3
    ∧ field 0x00050051#32 17 16 = 1 ∧ field 0x00050051#32 21 19 = 0 ∧ bit 0x00050051#32 18 = true
    ∧ mciBlock.mci.mrLow.getLsbD 15 = true ∧ mciBlock.mci.mrLow.getLsbD 13 = false ∧ mciBlock.mci.blklen ≠ 0#16
    ∧ mciBlock.mci.blklen.toNat = 4 * (mciBlock.pdc .mci).rcr.toNat ∧ (mciBlock.pdc .mci).rxten = true
    ∧ (mciBlock.pdc .mci).rncr = 0#16
    ∧ mciBlock.sd.cards[mciBlock.mci.selectedCard.val].responses = .short 0 0 9 0 :: []
    ∧ mciBlock.writableBuffer (mciBlock.pdc .mci).rpr 8 = true := by decide +kernel

theorem test_witness_TcRegisters : State.reset.ready = true ∧ (field 0x4#32 5 4 = 0 ∧ field 0x4#32 2 0 < 5)
    ∧ ((withParams fun p => { p with abortTcBurst := false, abortTcClock := false }).ready = true
      ∧ (withParams fun p => { p with abortTcBurst := false, abortTcClock := false }).params.abortTcBurst = false
      ∧ (withParams fun p => { p with abortTcBurst := false, abortTcClock := false }).params.abortTcClock = false)
    ∧ (field 0x10#32 5 4 ≠ 0 ∧ State.reset.params.abortTcBurst = true)
    ∧ (field 0x5#32 5 4 = 0 ∧ 5 ≤ field 0x5#32 2 0 ∧ State.reset.params.abortTcClock = true)
    ∧ (field 0x15#32 5 4 ≠ 0 ∧ 5 ≤ field 0x15#32 2 0
      ∧ (withParams fun p => { p with abortTcBurst := false }).params.abortTcBurst = false
      ∧ (withParams fun p => { p with abortTcBurst := false }).params.abortTcClock = true)
    ∧ bit 0x1#32 0 = true ∧ bit 0x2#32 0 = false := by decide +kernel

/-- A channel at a counter value, with `RC` = 3. -/
def chan (cmr : Word) (cv : BitVec 16) (down : Bool) : TcChannel := { TcChannel.reset with cmr := cmr, cv := cv, rc := 3, down := down }

theorem test_witness_TcTick :
    ([chan 0x8000 0xFFFF false, chan 0x4000 3 false, chan 0 0xFFFF false, chan 0xC000 3 false, chan 0x8000 3 false].all
      fun x => !bit x.cmr 15 || decide (field x.cmr 14 13 = 0) || decide (field x.cmr 14 13 = 2)) = true
    ∧ ((chan 0x4000 3 false).cv = (chan 0x4000 3 false).rc ∧ bit (chan 0x4000 3 false).cmr 14 = true)
    ∧ (chan 0x8000 0xFFFF false).cv = 0xFFFF#16 ∧ (chan 0x8000 3 false).cv ≠ 0xFFFF#16
    ∧ (field (chan 0xE000 3 false).cmr 14 13 = 3 ∧ (chan 0xE000 3 false).cv = (chan 0xE000 3 false).rc
      ∧ (chan 0xE000 3 false).down = false ∧ (chan 0xE000 2 false).cv ≠ (chan 0xE000 2 false).rc)
    ∧ ((chan 0xE000 0 true).down = true ∧ (chan 0xE000 0 true).cv = 0#16 ∧ (chan 0xE000 1 true).cv ≠ 0#16)
    ∧ (field (chan 0xA000 0xFFFF false).cmr 14 13 = 1 ∧ (chan 0xA000 0xFFFF false).cv = 0xFFFF#16)
    ∧ (field (chan 0xC000 0 false).cmr 14 13 = 2 ∧ bit (chan 0xC000 0 false).cmr 6 = false
      ∧ bit (chan 0xC000 0 false).cmr 7 = false ∧ (chan 0xC000 0 false).cv = 0#16)
    ∧ (let s := (withTc 5 fun x => { x with running := true }).setInputs [.tick (.tc 5)]
       s.fault = none ∧ (s.tc 5).running = true ∧ field (s.tc 5).cmr 2 0 < 5)
    ∧ (State.reset.tc 5).running = false
    ∧ 5 ≤ field ((withTc 5 fun x => { x with cmr := 5, running := true }).tc 5).cmr 2 0 := by decide +kernel

theorem test_witness_PitAndRtt : State.reset.ready = true ∧ State.reset.pit.cpiv = 0#20
    ∧ 0xFFFFF ≤ field State.reset.pit.mr 19 0 ∧ State.reset.pit.running = false
    ∧ (State.reset.setPit { State.reset.pit with running := true }).pit.running = true
    ∧ (let x : Pit := { State.reset.pit with mr := 5, cpiv := 0xFFFFF }
       x.cpiv.toNat ≠ field x.mr 19 0 ∧ field x.mr 19 0 < x.cpiv.toNat ∧ x.tick.cpiv = 0 ∧ x.tick.pits = false)
    ∧ (let x : Pit := { State.reset.pit with mr := 5, cpiv := 5 }
       x.cpiv.toNat = field x.mr 19 0 ∧ x.tick.pits = true)
    ∧ (State.reset.setInputs [.tick .rtt]).fault = none := by decide +kernel

theorem test_witness_DbguRegisters : State.reset.ready = true ∧ (State.reset.setInputs [.console 0x41#8]).fault = none := by
  decide +kernel

theorem test_witness_PioPins : State.reset.fault = none ∧ [1#8, 2#8, 3#8].length < 4
    ∧ (pioUpdate 0 State.reset).pio 0 = State.reset.pio 0
    ∧ ((pioUpdate 0 (withPio 0 fun x => { x with extLevel := 1 })).pio 0).pdsr
      ≠ ((withPio 0 fun x => { x with extLevel := 1 }).pio 0).pdsr := by decide +kernel

theorem test_witness_PmcMasterClock : State.reset.ready = true ∧ answers (exec (.pmcMckrW 0x1F#32) State.reset) = true
    ∧ (State.reset.pmc.newHz = State.reset.pmc.mclkHz ∧ field State.reset.pmc.mckr 1 0 = 0)
    ∧ (let x := (withPmc fun x => { x with mckr := 1, moscs := true }).pmc
       field x.mckr 1 0 = 1 ∧ x.moscs = true ∧ field x.mckr 4 2 ≠ 7 ∧ 18432000 ≠ x.mclkHz)
    ∧ field ((withSpi 1 fun x => { x with csr := x.csr.set 3 0x300 }).spi 1).csr[3] 15 8 ≠ 0 := by decide +kernel

theorem test_witness_LinkServer : (State.reset.link .twi).client = false ∧ ((withClient .twi State.reset).link .twi).client = true
    ∧ (State.reset.setInputs [.linkError .twi 5]).fault = none := by decide +kernel

theorem test_witness_MultiframeTransmission : ((withClient (.usart 0) State.reset).link (.usart 0)).client = true
    ∧ (let s := withClient (.usart 0) (withParams fun p => { p with multiframeTerminator := true })
       (s.link (.usart 0)).client = true ∧ s.params.multiframeTerminator = true
        ∧ ((emitData (.usart 0) (List.replicate 255 7#8) s).link (.usart 0)).outq.map (·.payload.length) = [255, 0])
    := by decide +kernel

/-- The outcome is a next state with no abort. -/
def answersLive (o : Host.Outcome State Fault Refusal) : Bool :=
  match o with
  | .next t => t.fault.isNone
  | _ => false

/-- The outcome is a next state in which the machine has aborted. -/
def answersAborted (o : Host.Outcome State Fault Refusal) : Bool :=
  match o with
  | .next t => t.fault.isSome
  | _ => false

theorem test_witness_FrameBoundaryIndependence : State.reset.fault = none
    ∧ answersLive (feed (.usart 0) [0#8, 1#8, 1#8, 1#8, 0x61#8, 1#8] State.reset) = true
    ∧ answersAborted (feed (.usart 0) [0#8, 1#8, 1#8, 1#8, 0x61#8]
      (withPdc (.usart 0) (fun p => { p with rpr := 0xFFFFFFFF#32, rcr := 2, rxten := true })
        (withUsart 0 fun x => { x with rxEnabled := true }))) = true := by decide +kernel

theorem test_witness_StepKeepsInvariants : Memory.wf State.reset.mem = true ∧ answers (step State.reset) = true
    ∧ answers (step (State.reset.setInputs [.bus (wr 0x00200000#32 4 1#32)])) = true
    ∧ State.reset.aic.nirq = State.reset.aic.nirqLevel ∧ State.reset.aic.nfiq = State.reset.aic.nfiqLevel
    ∧ State.reset.aic.stack = [] ∧ bit State.reset.aic.ffsr 0 = false
    ∧ memoryAt .iobc 0x00107FFF#32 = some .rom ∧ memoryAt .iobc 0x100FFFFF#32 = some .nor
    ∧ answers (step (State.reset.setInputs [.bus (wr 0xFFFFF120#32 4 1#32)])) = true := by decide +kernel

/-- Every link starts with an empty buffer, so the premise of `StepKeepsBuffersPartial` is met. -/
theorem test_witness_linksOk : State.reset.linksOk := fun l => by cases l with
  | usart u => fin_cases u <;> exact trivial
  | spi u => fin_cases u <;> exact trivial
  | pio p => fin_cases p <;> exact trivial
  | twi => exact trivial
  | sdramc => exact trivial

end Sys2Proof.Tests
end

section
/-! Proofs about the unimplemented windows of the fabric (R160): which operation each row runs, what that operation does
under either value of its policy flag, and from these O15. -/

namespace Sys2Proof.Machine

/-- The read row of every window runs the one shared read (R160). -/
theorem exec_decodeUnimpl_read (w : UnimplWindow) (a v : Word) (s : State) :
    exec (decodeUnimpl w .read a v) s = runBus (unimplRead w a) s :=
  match w with
  | .uhp => exec_unimplUhpR a s
  | .udp => exec_unimplUdpR a s
  | .ssc => exec_unimplSscR a s
  | .isi => exec_unimplIsiR a s
  | .emac => exec_unimplEmacR a s
  | .adc => exec_unimplAdcR a s
  | .ecc => exec_unimplEccR a s
  | .smc => exec_unimplSmcR a s
  | .shdwc => exec_unimplShdwcR a s
  | .wdt => exec_unimplWdtR a s
  | .gpbr => exec_unimplGpbrR a s

/-- The write row of every window runs the one shared write (R160). -/
theorem exec_decodeUnimpl_write (w : UnimplWindow) (a v : Word) (s : State) :
    exec (decodeUnimpl w .write a v) s = runBus (unimplWrite w a v) s :=
  match w with
  | .uhp => exec_unimplUhpW a v s
  | .udp => exec_unimplUdpW a v s
  | .ssc => exec_unimplSscW a v s
  | .isi => exec_unimplIsiW a v s
  | .emac => exec_unimplEmacW a v s
  | .adc => exec_unimplAdcW a v s
  | .ecc => exec_unimplEccW a v s
  | .smc => exec_unimplSmcW a v s
  | .shdwc => exec_unimplShdwcW a v s
  | .wdt => exec_unimplWdtW a v s
  | .gpbr => exec_unimplGpbrW a v s

/-- The abort an operation raises is the state's abort (R770). -/
@[simp] theorem State.raise_fault (s : State) (e : Fault) : (s.raise e).fault = some e := rfl

/-- A read of an unimplemented window where the policy asks for no abort (R160). -/
theorem unimplRead_of_no_abort (w : UnimplWindow) (a : Word) {s : State} (h : s.params.unimplReadAbort = false) :
    unimplRead w a s = s.setRdata 0#32 := by simp [unimplRead, h]

/-- A read of an unimplemented window where the policy asks for an abort (R160). -/
theorem unimplRead_of_abort (w : UnimplWindow) (a : Word) {s : State} (h : s.params.unimplReadAbort = true) :
    unimplRead w a s = s.raise (.unimpl w (a - unimplBase w).toNat .read 0#32) := by simp [unimplRead, h]

/-- A write to an unimplemented window where the policy asks for no abort keeps no state (R160). -/
theorem unimplWrite_of_no_abort (w : UnimplWindow) (a v : Word) {s : State} (h : s.params.unimplWriteAbort = false) :
    unimplWrite w a v s = s := by simp [unimplWrite, h]

/-- A write to an unimplemented window where the policy asks for an abort (R160). -/
theorem unimplWrite_of_abort (w : UnimplWindow) (a v : Word) {s : State} (h : s.params.unimplWriteAbort = true) :
    unimplWrite w a v s = s.raise (.unimpl w (a - unimplBase w).toNat .write v) := by simp [unimplWrite, h]

/-- Settles O15: every row of a ready machine runs its shared operation, whose policy flag decides the case. -/
theorem unimplementedWindows : Obligations.UnimplementedWindows := by
  refine ⟨⟨rfl, rfl⟩, fun s w a v ready => ?_⟩
  have hread : exec (decodeUnimpl w .read a v) s = .next (unimplRead w a s) :=
    (exec_decodeUnimpl_read w a v s).trans (runBus_ready ready)
  have hwrite : exec (decodeUnimpl w .write a v) s = .next (unimplWrite w a v s) :=
    (exec_decodeUnimpl_write w a v s).trans (runBus_ready ready)
  refine ⟨fun off => ?_, fun off => ?_, fun on => ⟨_, hread, ?_⟩, fun on => ⟨_, hwrite, ?_⟩⟩
  · rw [hread, unimplRead_of_no_abort w a off]
  · rw [hwrite, unimplWrite_of_no_abort w a v off]
  · rw [unimplRead_of_abort w a on, State.raise_fault]
  · rw [unimplWrite_of_abort w a v on, State.raise_fault]

end Sys2Proof.Machine
end

section
/-! Proofs about the selection of the AIC (R202, R211): when a line is pending, which order the candidates stand in, and
that the fold over the lines finds the best candidate of that order; from these O20. -/

namespace Sys2Proof.Machine

/-- The edge types (R201). -/
theorem Aic.isEdge_iff (a : Aic) (n : Fin 32) :
    a.isEdge n = true ↔ a.effType n = .edgeFalling ∨ a.effType n = .edgeRising := by
  unfold Aic.isEdge
  cases a.effType n <;> simp

/-- An edge line is pending when its latch is set (R202). -/
theorem Aic.pending_of_isEdge {a : Aic} {n : Fin 32} (h : a.isEdge n = true) : a.pending n = bit a.latch n.val := by
  unfold Aic.pending
  rcases (a.isEdge_iff n).1 h with falling | rising
  · rw [falling]
  · rw [rising]

/-- A level line is pending while it stands at the level it asks for (R202). -/
theorem Aic.pending_iff_of_not_isEdge {a : Aic} {n : Fin 32} (h : a.isEdge n = false) :
    a.pending n = true ↔
      (a.effType n = .levelHigh ∧ bit a.line n.val = true) ∨ (a.effType n = .levelLow ∧ bit a.line n.val = false) := by
  have notEdge := mt (a.isEdge_iff n).2 (by simp [h])
  unfold Aic.pending
  cases type : a.effType n with
  | levelLow => simp
  | levelHigh => simp
  | edgeFalling => exact absurd (.inl type) notEdge
  | edgeRising => exact absurd (.inr type) notEdge

/-- The four conditions on a candidate (R211). -/
theorem Aic.cand_iff (a : Aic) (n : Fin 32) :
    a.cand n = true ↔ n.val ≠ 0 ∧ a.pending n = true ∧ bit a.imr n.val = true ∧ bit a.ffsr n.val = false := by
  simp [Aic.cand, and_assoc]

/-- The order of R211: a greater priority goes first, and of equal priorities the smaller number. -/
def Aic.NotAfter (a : Aic) (n m : Fin 32) : Prop := a.prio m < a.prio n ∨ a.prio m = a.prio n ∧ n.val ≤ m.val

theorem Aic.NotAfter.refl (a : Aic) (n : Fin 32) : a.NotAfter n n := .inr ⟨rfl, le_rfl⟩

theorem Aic.NotAfter.trans {a : Aic} {k n m : Fin 32} (hkn : a.NotAfter k n) (hnm : a.NotAfter n m) :
    a.NotAfter k m := by
  unfold Aic.NotAfter at *
  omega

theorem Aic.NotAfter.antisymm {a : Aic} {n m : Fin 32} (hnm : a.NotAfter n m) (hmn : a.NotAfter m n) : n = m := by
  unfold Aic.NotAfter at *
  omega

/-- `best` is what the selection has to find among `lines`: the first candidate in the order of R211, if there is one. -/
def Aic.IsBest (a : Aic) (lines : List (Fin 32)) : Option (Fin 32) → Prop
  | none => ∀ m ∈ lines, a.cand m = false
  | some n => n ∈ lines ∧ a.cand n = true ∧ ∀ m ∈ lines, a.cand m = true → a.NotAfter n m

/-- The best of some lines is unique, since no two lines stand at one place of the order. -/
theorem Aic.IsBest.unique {a : Aic} {lines : List (Fin 32)} {b c : Option (Fin 32)}
    (hb : a.IsBest lines b) (hc : a.IsBest lines c) : b = c := by
  match b, c with
  | none, none => rfl
  | none, some n => exact absurd hc.2.1 (by simp [hb n hc.1])
  | some n, none => exact absurd hb.2.1 (by simp [hc n hb.1])
  | some n, some m =>
    obtain ⟨n_mem, n_cand, n_first⟩ := hb
    obtain ⟨m_mem, m_cand, m_first⟩ := hc
    exact congrArg some ((n_first m m_mem m_cand).antisymm (m_first n n_mem n_cand))

/-- A line that is no candidate changes nothing. -/
theorem Aic.better_of_not_cand {a : Aic} {x : Fin 32} (h : a.cand x = false) (best : Option (Fin 32)) :
    a.better best x = best := by simp [Aic.better, h]

/-- The first candidate is the best so far. -/
theorem Aic.better_none {a : Aic} {x : Fin 32} (h : a.cand x = true) : a.better none x = some x := by
  simp [Aic.better, h]

/-- A later candidate wins by a greater priority only. -/
theorem Aic.better_some {a : Aic} {x : Fin 32} (h : a.cand x = true) (n : Fin 32) :
    a.better (some n) x = if a.prio n < a.prio x then some x else some n := by simp [Aic.better, h]

/-- Considering one more line keeps the best, if its number is greater than all before it: it loses every tie, as
`better` says. -/
theorem Aic.IsBest.better {a : Aic} {lines : List (Fin 32)} {best : Option (Fin 32)} (h : a.IsBest lines best)
    {x : Fin 32} (greater : ∀ m ∈ lines, m < x) : a.IsBest (lines ++ [x]) (a.better best x) := by
  cases x_cand : a.cand x with
  | false =>
    rw [Aic.better_of_not_cand x_cand]
    cases best with
    | none => exact List.forall_mem_append.2 ⟨h, by simpa using x_cand⟩
    | some n =>
      obtain ⟨n_mem, n_cand, n_first⟩ := h
      exact ⟨List.mem_append_left _ n_mem, n_cand, List.forall_mem_append.2 ⟨n_first, by simp [x_cand]⟩⟩
  | true =>
    have x_mem : x ∈ lines ++ [x] := List.mem_concat_self
    cases best with
    | none =>
      rw [Aic.better_none x_cand]
      exact ⟨x_mem, x_cand, List.forall_mem_append.2
        ⟨fun m hm m_cand => by simp [h m hm] at m_cand, by simp [Aic.NotAfter.refl]⟩⟩
    | some n =>
      obtain ⟨n_mem, n_cand, n_first⟩ := h
      rw [Aic.better_some x_cand]
      split
      next x_above =>
        have x_n : a.NotAfter x n := .inl x_above
        exact ⟨x_mem, x_cand, List.forall_mem_append.2
          ⟨fun m hm m_cand => x_n.trans (n_first m hm m_cand), by simp [Aic.NotAfter.refl]⟩⟩
      next x_not_above =>
        have n_x : a.NotAfter n x := by
          have := greater n n_mem
          unfold Aic.NotAfter
          omega
        exact ⟨List.mem_append_left _ n_mem, n_cand, List.forall_mem_append.2 ⟨n_first, by simp [n_x]⟩⟩

/-- The fold over ascending lines finds their best. -/
theorem Aic.isBest_foldl_better (a : Aic) (lines : List (Fin 32)) (ascending : lines.Pairwise (· < ·)) :
    a.IsBest lines (lines.foldl a.better none) := by
  induction lines using List.reverseRecOn with
  | nil => simp [Aic.IsBest]
  | append_singleton lines x ih =>
    obtain ⟨before, -, greater⟩ := List.pairwise_append.1 ascending
    rw [List.foldl_concat]
    exact (ih before).better fun m hm => greater m hm x (List.mem_singleton_self x)

/-- The selection is the best of all lines (R211). -/
theorem Aic.select_eq_iff (a : Aic) (best : Option (Fin 32)) :
    a.select = best ↔ a.IsBest (List.finRange 32) best := by
  have isBest : a.IsBest (List.finRange 32) a.select :=
    a.isBest_foldl_better _ (List.sortedLT_finRange 32).pairwise
  exact ⟨fun h => h ▸ isBest, isBest.unique⟩

theorem Aic.select_eq_some_iff (a : Aic) (n : Fin 32) :
    a.select = some n ↔ a.cand n = true ∧ ∀ m, a.cand m = true → a.NotAfter n m := by
  simp [Aic.select_eq_iff, Aic.IsBest]

theorem Aic.select_eq_none_iff (a : Aic) : a.select = none ↔ ∀ n, a.cand n = false := by
  simp [Aic.select_eq_iff, Aic.IsBest]

/-- Settles O20: the pending rule by the line's type, the selection by the order of R211, which does not read the
in-service stack. -/
theorem aicSelection : Obligations.AicSelection :=
  ⟨fun _ _ => ⟨Aic.pending_of_isEdge, Aic.pending_iff_of_not_isEdge⟩,
    fun a => ⟨a.cand_iff, a.select_eq_some_iff, a.select_eq_none_iff, fun _ => rfl, fun _ => rfl⟩⟩

end Sys2Proof.Machine
end

section
/-! Proofs about the registers of a PDC (R262 to R267): what a served transaction of a row leaves, the word of `PTSR`,
and from these O25. -/

namespace Sys2Proof.Machine

/-- A row of a ready machine has the effect of its operation (R150). -/
theorem exec_of_ready {i : Instr} {f : State → State} {s : State} (ready : s.ready = true)
    (row : exec i s = runBus f s) : exec i s = .next (f s) :=
  row.trans (runBus_ready ready)

/-- A plain read of a ready machine changes nothing but the datum it returns (R120). -/
theorem exec_readPlain_of_ready {i : Instr} {get : State → Word} {s : State} (ready : s.ready = true)
    (row : exec i s = runBus (readPlain get) s) : exec i s = .next (s.setRdata (get s)) := by
  rw [exec_of_ready ready row, readPlain_eq]

/-- The word of `PTSR` (R267): bit 0 is `RXTEN`, bit 8 is `TXTEN`. -/
theorem Pdc.ptsr_eq (p : Pdc) :
    p.ptsr = (if p.rxten then 1#32 else 0#32) ||| (if p.txten then 0x100#32 else 0#32) := by
  simp [Pdc.ptsr, bitAt]

/-- Settles O25: each row runs its operation at once; a read is plain, a pointer write sets the one field. -/
theorem pdcPointersAndReads : Obligations.PdcPointersAndReads := by
  intro s h v ready
  refine ⟨?rpr, ?tpr, ?rnpr, ?tnpr, ?rprW, ?tprW, ?rnprW, ?tnprW, ?rcr, ?tcr, ?rncr, ?tncr, ?ptsr⟩
  case rpr => exact exec_readPlain_of_ready ready (exec_pdcRprR h s)
  case tpr => exact exec_readPlain_of_ready ready (exec_pdcTprR h s)
  case rnpr => exact exec_readPlain_of_ready ready (exec_pdcRnprR h s)
  case tnpr => exact exec_readPlain_of_ready ready (exec_pdcTnprR h s)
  case rprW => exact exec_of_ready ready (exec_pdcRprW h v s)
  case tprW => exact exec_of_ready ready (exec_pdcTprW h v s)
  case rnprW => exact exec_of_ready ready (exec_pdcRnprW h v s)
  case tnprW => exact exec_of_ready ready (exec_pdcTnprW h v s)
  case rcr => exact exec_readPlain_of_ready ready (exec_pdcRcrR h s)
  case tcr => exact exec_readPlain_of_ready ready (exec_pdcTcrR h s)
  case rncr => exact exec_readPlain_of_ready ready (exec_pdcRncrR h s)
  case tncr => exact exec_readPlain_of_ready ready (exec_pdcTncrR h s)
  case ptsr =>
    rw [← Pdc.ptsr_eq]
    exact exec_readPlain_of_ready ready (exec_pdcPtsrR h s)

end Sys2Proof.Machine
end

section
/-! Proofs about the registers of a PIO (R651 to R661): every row of a ready machine has the effect of its
operation, and the operations are those of O50. -/

namespace Sys2Proof.Machine

/-- Settles O50: each row runs its operation at once. A write is a `pioChange` of one latch, which replaces that latch and
ends with the pin update; a read is plain, but for `ISR`'s. -/
theorem pioRegisters : Obligations.PioRegisters := by
  intro s p v ready
  refine ⟨?per, ?pdr, ?psr, ?oer, ?odr, ?osr, ?ifer, ?ifdr, ?ifsr, ?sodr, ?codr, ?odsr, ?odsrW, ?pdsr, ?ier,
    ?idr, ?imr, ?isr, ?mder, ?mddr, ?mdsr, ?pudr, ?puer, ?pusr, ?asr, ?bsr, ?absr, ?ower, ?owdr, ?owsr⟩
  case per => exact exec_of_ready ready (exec_pioPerW p v s)
  case pdr => exact exec_of_ready ready (exec_pioPdrW p v s)
  case psr => exact exec_readPlain_of_ready ready (exec_pioPsrR p s)
  case oer => exact exec_of_ready ready (exec_pioOerW p v s)
  case odr => exact exec_of_ready ready (exec_pioOdrW p v s)
  case osr => exact exec_readPlain_of_ready ready (exec_pioOsrR p s)
  case ifer => exact exec_of_ready ready (exec_pioIferW p v s)
  case ifdr => exact exec_of_ready ready (exec_pioIfdrW p v s)
  case ifsr => exact exec_readPlain_of_ready ready (exec_pioIfsrR p s)
  case sodr => exact exec_of_ready ready (exec_pioSodrW p v s)
  case codr => exact exec_of_ready ready (exec_pioCodrW p v s)
  case odsr => exact exec_readPlain_of_ready ready (exec_pioOdsrR p s)
  case odsrW => exact exec_of_ready ready (exec_pioOdsrW p v s)
  case pdsr => exact exec_readPlain_of_ready ready (exec_pioPdsrR p s)
  case ier => exact exec_of_ready ready (exec_pioIerW p v s)
  case idr => exact exec_of_ready ready (exec_pioIdrW p v s)
  case imr => exact exec_readPlain_of_ready ready (exec_pioImrR p s)
  case isr => exact exec_of_ready ready (exec_pioIsrR p s)
  case mder => exact exec_of_ready ready (exec_pioMderW p v s)
  case mddr => exact exec_of_ready ready (exec_pioMddrW p v s)
  case mdsr => exact exec_readPlain_of_ready ready (exec_pioMdsrR p s)
  case pudr => exact exec_of_ready ready (exec_pioPudrW p v s)
  case puer => exact exec_of_ready ready (exec_pioPuerW p v s)
  case pusr => exact exec_readPlain_of_ready ready (exec_pioPusrR p s)
  case asr => exact exec_of_ready ready (exec_pioAsrW p v s)
  case bsr => exact exec_of_ready ready (exec_pioBsrW p v s)
  case absr => exact exec_readPlain_of_ready ready (exec_pioAbsrR p s)
  case ower => exact exec_of_ready ready (exec_pioOwerW p v s)
  case owdr => exact exec_of_ready ready (exec_pioOwdrW p v s)
  case owsr => exact exec_readPlain_of_ready ready (exec_pioOwsrR p s)

end Sys2Proof.Machine
end

section
/-! What every operation of the block keeps: the parameters, the canonical form of memory with the bytes of ROM and NOR,
the consistency of the AIC, and the bytes that wait in the buffers of the links. One relation between a state and a later
one says all four, so that one pass over the operations proves them; O57 to O60 are read off it. -/

namespace Sys2Proof.Machine

/-! ### The bytes of an access -/

/-- The address of byte `k + 1` of an access, seen from the second byte. -/
theorem Word.add_succ (p : Word) (k : Nat) : p + BitVec.ofNat 32 (k + 1) = p + 1#32 + BitVec.ofNat 32 k := by
  apply BitVec.eq_of_toNat_eq
  simp only [BitVec.toNat_add, BitVec.toNat_ofNat]
  omega

/-- A DMA access passes a test when each of its bytes does (R95). -/
theorem State.dmaAll_iff (s : State) (test : Word → Bool) (p : Word) (n : Nat) :
    s.dmaAll test p n = true ↔ ∀ k, k < n → test (s.redirect (p + BitVec.ofNat 32 k)) = true := by
  induction n generalizing p with
  | zero => simp [State.dmaAll]
  | succ n ih =>
    rw [State.dmaAll, Bool.and_eq_true, ih, Nat.forall_lt_succ_left]
    simp only [← Word.add_succ]
    simp

/-- A byte of ROM or NOR is not writable by a DMA (R85, R95). -/
theorem dmaWritable_of_inRom {z : MemSizes} {a : Word} (h : inRom z a = true) : dmaWritable z a = false := by
  unfold inRom at h
  unfold dmaWritable
  split at h <;> simp_all

/-- The rows of the map that are `rom` regions (R85, R86). -/
theorem inRom_iff (z : MemSizes) (a : Word) :
    inRom z a = true ↔ memoryAt z a = some .rom ∨ memoryAt z a = some .nor := by
  unfold inRom
  split <;> simp_all

/-! ### The AIC -/

/-- What `State.aicOk` asks of the AIC beside its two outputs (R25, R210). -/
structure Aic.Bounded (a : Aic) : Prop where
  depth : a.stack.length ≤ Config.aicStackDepth
  prio : ∀ e, e ∈ a.stack → e.prio ≤ 8
  line0 : bit a.ffsr 0 = false

/-- `State.aicOk` as a property of the AIC alone. -/
def Aic.Consistent (a : Aic) : Prop := a.update = a ∧ a.Bounded

theorem State.aicOk_iff (s : State) : s.aicOk ↔ s.aic.Consistent := by
  constructor
  · rintro ⟨nirq, nfiq, depth, prio, line0⟩
    refine ⟨?_, depth, prio, line0⟩
    rw [Aic.update, ← nirq, ← nfiq]
  · rintro ⟨outputs, bounded⟩
    exact ⟨congrArg Aic.nirq outputs.symm, congrArg Aic.nfiq outputs.symm, bounded.depth, bounded.prio, bounded.line0⟩

/-- Recomputing the outputs makes a bounded AIC consistent (R217, R218). -/
theorem Aic.Bounded.update {a : Aic} (h : a.Bounded) : a.update.Consistent := ⟨rfl, h.depth, h.prio, h.line0⟩

/-- Dropping the top of the stack keeps the bounds (R216). -/
theorem Aic.Bounded.dropLast {a : Aic} (h : a.Bounded) : Aic.Bounded { a with stack := a.stack.dropLast } :=
  ⟨by simpa using Nat.le_succ_of_le h.depth, fun e he => h.prio e (List.mem_of_mem_dropLast he), h.line0⟩

/-- One more acknowledge keeps the bounds while the stack is not full (R212). -/
theorem Aic.Bounded.push {a : Aic} (h : a.Bounded) (room : a.stack.length ≠ Config.aicStackDepth) {e : AicEntry}
    (prio : e.prio ≤ 8) (latch : Word) : Aic.Bounded { a with stack := a.stack ++ [e], latch := latch } := by
  refine ⟨?_, fun x hx => ?_, h.line0⟩
  · have := h.depth
    simp only [List.length_append, List.length_singleton]
    omega
  · rcases List.mem_append.1 hx with old | new
    · exact h.prio x old
    · rw [List.mem_singleton.1 new]; exact prio

/-- A priority is a field of three bits (R203). -/
theorem Aic.prio_le (a : Aic) (n : Fin 32) : a.prio n ≤ 8 := by
  have : a.prio n < 2 ^ (2 - 0 + 1) := BitVec.isLt _
  omega

/-! ### The relation -/

/-- `t` is a state an operation may leave from `s`: it has the same parameters, memory in canonical form again with ROM and
NOR as before, a consistent AIC again, and the links' buffers as before. -/
structure State.Evolves (s t : State) : Prop where
  params : t.params = s.params
  mem : Memory.wf s.mem = true →
    Memory.wf t.mem = true ∧ ∀ a, inRom s.params.sizes a = true → t.byteAt a = s.byteAt a
  aic : s.aic.Consistent → t.aic.Consistent
  inbuf : ∀ l, (t.link l).inbuf = (s.link l).inbuf

namespace State.Evolves

variable {s t r : State}

@[simp] theorem refl (s : State) : s.Evolves s := ⟨rfl, fun h => ⟨h, fun _ _ => rfl⟩, id, fun _ => rfl⟩

theorem trans (st : s.Evolves t) (tr : t.Evolves r) : s.Evolves r := by
  refine ⟨tr.params.trans st.params, fun hs => ?_, tr.aic ∘ st.aic, fun l => (tr.inbuf l).trans (st.inbuf l)⟩
  obtain ⟨t_wf, t_rom⟩ := st.mem hs
  obtain ⟨r_wf, r_rom⟩ := tr.mem t_wf
  exact ⟨r_wf, fun a ha => (r_rom a (by rwa [st.params])).trans (t_rom a ha)⟩

/-- The relation looks at four components only. -/
theorem congr_right (params : r.params = t.params) (mem : r.mem = t.mem) (aic : r.aic = t.aic) (links : r.links = t.links) :
    s.Evolves r ↔ s.Evolves t := by
  constructor
  · rintro ⟨h₁, h₂, h₃, h₄⟩
    exact ⟨params ▸ h₁, by simpa only [State.byteAt, mem] using h₂, aic ▸ h₃, by simpa only [State.link, links] using h₄⟩
  · rintro ⟨h₁, h₂, h₃, h₄⟩
    exact ⟨params ▸ h₁, by simpa only [State.byteAt, mem] using h₂, aic ▸ h₃, by simpa only [State.link, links] using h₄⟩

@[simp] theorem setPdc (h : PdcHost) (y : Pdc) : s.Evolves (t.setPdc h y) ↔ s.Evolves t := congr_right rfl rfl rfl rfl
@[simp] theorem setUsart (u : Fin 6) (y : Usart) : s.Evolves (t.setUsart u y) ↔ s.Evolves t := congr_right rfl rfl rfl rfl
@[simp] theorem setSpi (u : Fin 2) (y : Spi) : s.Evolves (t.setSpi u y) ↔ s.Evolves t := congr_right rfl rfl rfl rfl
@[simp] theorem setTc (c : Fin 6) (y : TcChannel) : s.Evolves (t.setTc c y) ↔ s.Evolves t := congr_right rfl rfl rfl rfl
@[simp] theorem setBmr (b : Fin 2) (y : Word) : s.Evolves (t.setBmr b y) ↔ s.Evolves t := congr_right rfl rfl rfl rfl
@[simp] theorem setPio (p : Fin 3) (y : Pio) : s.Evolves (t.setPio p y) ↔ s.Evolves t := congr_right rfl rfl rfl rfl
@[simp] theorem setInputs (y : List Input) : s.Evolves (t.setInputs y) ↔ s.Evolves t := congr_right rfl rfl rfl rfl
@[simp] theorem setRdata (y : Word) : s.Evolves (t.setRdata y) ↔ s.Evolves t := congr_right rfl rfl rfl rfl
@[simp] theorem setFault (y : Option Fault) : s.Evolves (t.setFault y) ↔ s.Evolves t := congr_right rfl rfl rfl rfl
@[simp] theorem setBootTarget (y : BootTarget) : s.Evolves (t.setBootTarget y) ↔ s.Evolves t := congr_right rfl rfl rfl rfl
@[simp] theorem setStubIn (y : Word) : s.Evolves (t.setStubIn y) ↔ s.Evolves t := congr_right rfl rfl rfl rfl
@[simp] theorem setTwi (y : Twi) : s.Evolves (t.setTwi y) ↔ s.Evolves t := congr_right rfl rfl rfl rfl
@[simp] theorem setMci (y : Mci) : s.Evolves (t.setMci y) ↔ s.Evolves t := congr_right rfl rfl rfl rfl
@[simp] theorem setPit (y : Pit) : s.Evolves (t.setPit y) ↔ s.Evolves t := congr_right rfl rfl rfl rfl
@[simp] theorem setRtt (y : Rtt) : s.Evolves (t.setRtt y) ↔ s.Evolves t := congr_right rfl rfl rfl rfl
@[simp] theorem setDbgu (y : Dbgu) : s.Evolves (t.setDbgu y) ↔ s.Evolves t := congr_right rfl rfl rfl rfl
@[simp] theorem setConsoleOut (y : List Byte) : s.Evolves (t.setConsoleOut y) ↔ s.Evolves t := congr_right rfl rfl rfl rfl
@[simp] theorem setPmc (y : Pmc) : s.Evolves (t.setPmc y) ↔ s.Evolves t := congr_right rfl rfl rfl rfl
@[simp] theorem setMatrix (y : Matrix) : s.Evolves (t.setMatrix y) ↔ s.Evolves t := congr_right rfl rfl rfl rfl
@[simp] theorem setRstc (y : Rstc) : s.Evolves (t.setRstc y) ↔ s.Evolves t := congr_right rfl rfl rfl rfl
@[simp] theorem setSdramc (y : Sdramc) : s.Evolves (t.setSdramc y) ↔ s.Evolves t := congr_right rfl rfl rfl rfl
@[simp] theorem setSd (y : SdBus) : s.Evolves (t.setSd y) ↔ s.Evolves t := congr_right rfl rfl rfl rfl
@[simp] theorem raise (e : Fault) : s.Evolves (t.raise e) ↔ s.Evolves t := setFault _

/-- The server of a link may change, but for the bytes that wait in it. -/
theorem setLink (h : s.Evolves t) (l : LinkId) {y : Iox} (inbuf : y.inbuf = (t.link l).inbuf) :
    s.Evolves (t.setLink l y) := by
  refine ⟨h.params, h.mem, h.aic, fun j => ?_⟩
  by_cases hj : j = l
  · rw [hj, State.setLink_link_same, inbuf, h.inbuf]
  · rw [State.setLink_link_ne _ _ _ _ hj, h.inbuf]

/-- The AIC may change, if that keeps it consistent. -/
theorem setAic (h : s.Evolves t) {y : Aic} (aic : t.aic.Consistent → y.Consistent) : s.Evolves (t.setAic y) :=
  ⟨h.params, h.mem, aic ∘ h.aic, h.inbuf⟩

/-- A sub-action after another (R9): after an abort it does not happen. -/
@[simp] theorem andThen {f : State → State} (h : s.Evolves t) (hf : s.Evolves (f t)) : s.Evolves (t.andThen f) := by
  unfold State.andThen
  split
  · exact h
  · exact hf

/-- A sub-action that keeps the relation after whatever went before. -/
theorem andThen_of_forall {f : State → State} (h : s.Evolves t) (hf : ∀ r, s.Evolves r → s.Evolves (f r)) :
    s.Evolves (t.andThen f) :=
  h.andThen (hf t h)

end State.Evolves

/-! ### The shared operations -/

section

variable {s t : State}

/-- A register change that keeps the bounds leaves a consistent AIC. -/
theorem aicChange_evolves {f : Aic → Aic} (hf : ∀ a : Aic, a.Bounded → (f a).Bounded) (h : s.Evolves t) :
    s.Evolves (aicChange f t) :=
  h.setAic fun consistent => (hf _ consistent.2).update

@[simp] theorem driveLine_evolves (n : Fin 32) (b : Bool) (h : s.Evolves t) : s.Evolves (driveLine n b t) := by
  unfold driveLine
  split
  · exact h
  · refine aicChange_evolves (fun a bounded => ?_) h
    exact ⟨bounded.depth, bounded.prio, bounded.line0⟩

@[simp] theorem driveStub_evolves (k : Fin 32) (b : Bool) (h : s.Evolves t) : s.Evolves (driveStub k b t) :=
  driveLine_evolves 1 _ ((State.Evolves.setStubIn _).2 h)

@[simp] theorem usartUpdateIrq_evolves (u : Fin 6) (h : s.Evolves t) : s.Evolves (usartUpdateIrq u t) :=
  driveLine_evolves _ _ h
@[simp] theorem spiUpdateIrq_evolves (u : Fin 2) (h : s.Evolves t) : s.Evolves (spiUpdateIrq u t) :=
  driveLine_evolves _ _ h
@[simp] theorem twiUpdateIrq_evolves (h : s.Evolves t) : s.Evolves (twiUpdateIrq t) := driveLine_evolves _ _ h
@[simp] theorem mciUpdateIrq_evolves (h : s.Evolves t) : s.Evolves (mciUpdateIrq t) :=
  (State.Evolves.setSd _).2 (driveLine_evolves _ _ h)
@[simp] theorem tcUpdateIrq_evolves (c : Fin 6) (h : s.Evolves t) : s.Evolves (tcUpdateIrq c t) :=
  driveLine_evolves _ _ h
@[simp] theorem pioUpdateIrq_evolves (p : Fin 3) (h : s.Evolves t) : s.Evolves (pioUpdateIrq p t) :=
  driveLine_evolves _ _ h
@[simp] theorem pitUpdateIrq_evolves (h : s.Evolves t) : s.Evolves (pitUpdateIrq t) := driveStub_evolves _ _ h
@[simp] theorem rttUpdateIrq_evolves (h : s.Evolves t) : s.Evolves (rttUpdateIrq t) := driveStub_evolves _ _ h
@[simp] theorem dbguUpdateIrq_evolves (h : s.Evolves t) : s.Evolves (dbguUpdateIrq t) := driveStub_evolves _ _ h
@[simp] theorem pmcUpdateIrq_evolves (h : s.Evolves t) : s.Evolves (pmcUpdateIrq t) := driveStub_evolves _ _ h
@[simp] theorem sdramcUpdateIrq_evolves (h : s.Evolves t) : s.Evolves (sdramcUpdateIrq t) := driveStub_evolves _ _ h
@[simp] theorem pdcUpdateIrq_evolves (host : PdcHost) (h : s.Evolves t) : s.Evolves (pdcUpdateIrq host t) := by
  cases host with
  | usart u => exact usartUpdateIrq_evolves u h
  | spi u => exact spiUpdateIrq_evolves u h
  | twi => exact twiUpdateIrq_evolves h
  | mci => exact mciUpdateIrq_evolves h

@[simp] theorem emit_evolves (l : LinkId) (cat id : Byte) (payload : List Byte) (h : s.Evolves t) :
    s.Evolves (emit l cat id payload t) := by
  unfold emit
  dsimp only
  split
  · exact h.setLink l rfl
  · exact h

@[simp] theorem emitData_evolves (l : LinkId) (bs : List Byte) (h : s.Evolves t) : s.Evolves (emitData l bs t) := by
  unfold emitData
  dsimp only
  split
  · exact h.setLink l rfl
  · exact h

@[simp] theorem respond_evolves (l : LinkId) (seq cat id : Byte) (payload : List Byte) (h : s.Evolves t) :
    s.Evolves (respond l seq cat id payload t) :=
  h.setLink l rfl

@[simp] theorem reply_evolves (l : LinkId) (seq : Byte) (status : Word) (h : s.Evolves t) :
    s.Evolves (reply l seq status t) :=
  respond_evolves l seq _ _ _ h

/-- Bytes that are stored to no byte of ROM and NOR keep all of the relation (R85). -/
theorem storeBytes_evolves {p : Word} {bs : List Byte} (h : s.Evolves t)
    (notRom : ∀ k, k < bs.length → inRom t.params.sizes (t.redirect (p + BitVec.ofNat 32 k)) = false) :
    s.Evolves (t.storeBytes p bs) := by
  have frame := t.storeBytes_eq p bs
  refine h.trans ⟨by rw [frame]; rfl, fun wf => ⟨t.storeBytes_wf p bs wf, fun a rom => ?_⟩, by rw [frame]; exact id, ?_⟩
  · refine t.storeBytes_other p bs wf a.toNat fun k hk same => ?_
    rw [← BitVec.eq_of_toNat_eq same, notRom k hk] at rom
    exact Bool.false_ne_true rom
  · intro l; rw [frame]; rfl

/-- A DMA write stores to bytes it may write, or aborts (R85, R95). -/
@[simp] theorem dmaStore_evolves (host : PdcHost) (p : Word) (bs : List Byte) (h : s.Evolves t) :
    s.Evolves (dmaStore host p bs t) := by
  rcases dmaStore_cases host p bs t with ⟨writable, eq⟩ | ⟨-, eq⟩
  · rw [eq]
    refine storeBytes_evolves h fun k hk => ?_
    by_contra rom
    have := (t.dmaAll_iff _ p _).1 writable k hk
    rw [dmaWritable_of_inRom (by simpa using rom)] at this
    exact Bool.false_ne_true this
  · rw [eq, State.Evolves.raise]; exact h

end

/-! ### Transfers -/

section

variable {s t : State}

theorem pdcRxRounds_evolves (host : PdcHost) (unit fuel : Nat) (us : List (List Byte)) (done : Nat) (h : s.Evolves t) :
    s.Evolves (pdcRxRounds host unit fuel us done t).2 := by
  induction fuel generalizing us done t with
  | zero => exact h
  | succ fuel ih =>
    have stored (p : Pdc) (q : Word) (bs : List Byte) : s.Evolves (dmaStore host q bs (t.setPdc host p)) :=
      dmaStore_evolves host q bs ((State.Evolves.setPdc host p).2 h)
    unfold pdcRxRounds
    dsimp only
    split
    · exact h
    · split
      · exact (State.Evolves.setPdc host _).2 h
      · split
        · exact stored _ _ _
        · exact ih _ _ ((State.Evolves.setPdc host _).2 (stored _ _ _))

/-- A receive transfer is its rounds, and then the flag and the interrupt output (R270). -/
theorem pdcRx_snd (host : PdcHost) (unit : Nat) (us : List (List Byte)) (s : State) :
    (pdcRx host unit us s).2 = (pdcRxRounds host unit 3 us 0 s).2.andThen
      fun t => pdcUpdateIrq host (t.setPdc host (t.pdc host).withRxbuff) := rfl

theorem pdcRx_evolves (host : PdcHost) (unit : Nat) (us : List (List Byte)) (h : s.Evolves t) :
    s.Evolves (pdcRx host unit us t).2 := by
  have rounds := pdcRxRounds_evolves host unit 3 us 0 h
  rw [pdcRx_snd]
  refine rounds.andThen ?_
  exact pdcUpdateIrq_evolves host ((State.Evolves.setPdc host _).2 rounds)

theorem pdcTxRounds_evolves (host : PdcHost) (unit : Nat) {send : List Byte → State → State}
    (hsend : ∀ (bs : List Byte) (r : State), r.Evolves (send bs r)) (fuel : Nat) (limit : Option Nat) (done : Nat)
    (h : s.Evolves t) : s.Evolves (pdcTxRounds host unit send fuel limit done t).2 := by
  induction fuel generalizing limit done t with
  | zero => exact h
  | succ fuel ih =>
    have sent (p : Pdc) (bs : List Byte) : s.Evolves (send bs (t.setPdc host p)) :=
      ((State.Evolves.setPdc host p).2 h).trans (hsend bs _)
    unfold pdcTxRounds
    dsimp only
    split
    · exact h
    · split
      · exact h
      · split
        · split
          · exact sent _ _
          · exact ih _ _ (sent _ _)
        · exact (State.Evolves.raise _).2 ((State.Evolves.setPdc host _).2 h)

/-- A transmit transfer is its rounds, and then the flag and the interrupt output (R272). -/
theorem pdcTx_snd (host : PdcHost) (unit : Nat) (send : List Byte → State → State) (limit : Option Nat) (s : State) :
    (pdcTx host unit send limit s).2 = (pdcTxRounds host unit send 3 limit 0 s).2.andThen
      fun t => pdcUpdateIrq host (t.setPdc host (t.pdc host).withTxbufe) := rfl

theorem pdcTx_evolves (host : PdcHost) (unit : Nat) {send : List Byte → State → State}
    (hsend : ∀ (bs : List Byte) (r : State), r.Evolves (send bs r)) (limit : Option Nat) (h : s.Evolves t) :
    s.Evolves (pdcTx host unit send limit t).2 := by
  have rounds := pdcTxRounds_evolves host unit hsend 3 limit 0 h
  rw [pdcTx_snd]
  refine rounds.andThen ?_
  exact pdcUpdateIrq_evolves host ((State.Evolves.setPdc host _).2 rounds)

end

end Sys2Proof.Machine
end

section
/-! What the operations of each device keep: `State.Evolves` of every operation that is more than a few setters. -/

namespace Sys2Proof.Machine

section

variable {s t : State}

/-! ### Sub-actions that may not happen -/

/-- One of two states an operation leaves. -/
theorem State.Evolves.ite {p : Prop} [Decidable p] {a b : State} (ha : s.Evolves a) (hb : s.Evolves b) :
    s.Evolves (if p then a else b) := by
  split
  · exact ha
  · exact hb

/-! ### USART -/

theorem usartPumpDma_evolves (u : Fin 6) (h : s.Evolves t) : s.Evolves (usartPumpDma u t) := by
  have received := pdcRx_evolves (.usart u) 1 ((t.usart u).rxq.map fun c => [c.setWidth 8]) h
  exact State.Evolves.ite (received.andThen ((State.Evolves.setUsart u _).2 received)) h

theorem usartPumpHold_evolves (u : Fin 6) (h : s.Evolves t) : s.Evolves (usartPumpHold u t) := by
  unfold usartPumpHold
  dsimp only
  split
  · split
    · exact h
    · exact (State.Evolves.setUsart u _).2 h
  · exact h

@[simp] theorem usartRxPump_evolves (u : Fin 6) (h : s.Evolves t) : s.Evolves (usartRxPump u t) :=
  (usartPumpDma_evolves u h).andThen (usartUpdateIrq_evolves u (usartPumpHold_evolves u (usartPumpDma_evolves u h)))

@[simp] theorem usartTxStart_evolves (u : Fin 6) (h : s.Evolves t) : s.Evolves (usartTxStart u t) :=
  pdcTx_evolves (.usart u) 1 (fun bs r => emitData_evolves _ bs (.refl r)) none h

/-! ### SPI -/

theorem spiPumpDma_evolves (u : Fin 2) (h : s.Evolves t) : s.Evolves (spiPumpDma u t) := by
  have received := pdcRx_evolves (.spi u) (t.spi u).rxUnitBytes
    ((t.spi u).rxq.map fun d => leBytes (t.spi u).rxUnitBytes (d.setWidth 32)) h
  exact State.Evolves.ite (received.andThen ((State.Evolves.setSpi u _).2 received)) h

theorem spiPumpHold_evolves (u : Fin 2) (h : s.Evolves t) : s.Evolves (spiPumpHold u t) := by
  unfold spiPumpHold
  dsimp only
  split
  · split
    · exact h
    · exact (State.Evolves.setSpi u _).2 h
  · exact h

@[simp] theorem spiRxPump_evolves (u : Fin 2) (h : s.Evolves t) : s.Evolves (spiRxPump u t) :=
  (spiPumpDma_evolves u h).andThen (spiUpdateIrq_evolves u (spiPumpHold_evolves u (spiPumpDma_evolves u h)))

theorem spiDeliver_evolves (u : Fin 2) (ds : List (BitVec 16)) (h : s.Evolves t) : s.Evolves (spiDeliver u ds t) :=
  spiRxPump_evolves u ((State.Evolves.setSpi u _).2 h)

theorem spiSend_evolves (u : Fin 2) (bs : List Byte) (n : Nat) (h : s.Evolves t) : s.Evolves (spiSend u bs n t) :=
  (State.Evolves.setSpi u _).2 (emitData_evolves _ bs h)

theorem spiTransfer_evolves (u : Fin 2) (units : List SpiUnit) (h : s.Evolves t) : s.Evolves (spiTransfer u units t) :=
  State.Evolves.ite (spiSend_evolves u _ _ h) (spiDeliver_evolves u _ h)

theorem spiPrepare_evolves (u : Fin 2) (pcs : BitVec 4) (td : BitVec 16) (h : s.Evolves t) :
    s.Evolves (spiPrepare u pcs td t).2 := by
  unfold spiPrepare
  dsimp only
  split
  · exact (State.Evolves.raise _).2 h
  · exact (State.Evolves.setSpi u _).2 h

theorem spiPrepareAll_evolves (u : Fin 2) (gs : List (List Byte)) (qs : List SpiUnit) (h : s.Evolves t) :
    s.Evolves (spiPrepareAll u gs qs t).2 := by
  induction gs generalizing qs t with
  | nil => exact h
  | cons g gs ih =>
    have prepared := spiPrepare_evolves u ((t.spi u).groupOperands g).1 ((t.spi u).groupOperands g).2 h
    unfold spiPrepareAll
    dsimp only
    split
    next eq => rw [eq] at prepared; exact prepared
    next eq => rw [eq] at prepared; exact ih _ prepared

theorem spiSendBuffer_evolves (u : Fin 2) (unit : Nat) (bs : List Byte) (h : s.Evolves t) :
    s.Evolves (spiSendBuffer u unit bs t) := by
  have prepared := spiPrepareAll_evolves u (groupsOf unit bs.length bs) [] h
  exact prepared.andThen (spiTransfer_evolves u _ prepared)

@[simp] theorem spiTxStart_evolves (u : Fin 2) (h : s.Evolves t) : s.Evolves (spiTxStart u t) := by
  refine State.Evolves.ite h (State.Evolves.ite (State.Evolves.ite ((State.Evolves.raise _).2 h) h) ?_)
  split
  · exact (State.Evolves.raise _).2 h
  · exact pdcTx_evolves (.spi u) _ (fun bs r => spiSendBuffer_evolves u _ bs (.refl r)) none h

@[simp] theorem spiWriteTdr_evolves (u : Fin 2) (v : Word) (h : s.Evolves t) : s.Evolves (spiWriteTdr u v t) := by
  have prepared (pcs : BitVec 4) := spiPrepare_evolves u pcs (v.extractLsb 15 0) h
  refine State.Evolves.ite h (State.Evolves.ite (State.Evolves.ite ((State.Evolves.raise _).2 h) h) ?_)
  generalize (if (t.spi u).variablePs = true then v.extractLsb 19 16 else (t.spi u).mrPcs) = pcs
  have selected := prepared pcs
  dsimp only
  split
  next eq => rw [eq] at selected; exact selected
  next eq => rw [eq] at selected; exact spiTransfer_evolves u _ selected

theorem spiEcho_evolves (u : Fin 2) (payload : List Byte) (h : s.Evolves t) : s.Evolves (spiEcho u payload t) := by
  unfold spiEcho
  dsimp only
  split
  · exact h
  · exact State.Evolves.ite (spiDeliver_evolves u _ ((State.Evolves.setSpi u _).2 h)) ((State.Evolves.setSpi u _).2 h)

@[simp] theorem spiDataInFrame_evolves (u : Fin 2) (seq : Byte) (payload : List Byte) (h : s.Evolves t) :
    s.Evolves (spiDataInFrame u seq payload t) :=
  (spiEcho_evolves u payload h).andThen (reply_evolves _ _ _ (spiEcho_evolves u payload h))

@[simp] theorem spiDataOutFrame_evolves (u : Fin 2) (payload : List Byte) (h : s.Evolves t) :
    s.Evolves (spiDataOutFrame u payload t) :=
  State.Evolves.ite (State.Evolves.ite (emitData_evolves _ _ h) (spiSend_evolves u _ _ h)) h

theorem spiStartArmed_evolves (u : Fin 2) (h : s.Evolves t) : s.Evolves (spiStartArmed u t) :=
  State.Evolves.ite (spiTxStart_evolves u h) h

@[simp] theorem spiWriteCr_evolves (u : Fin 2) (v : Word) (h : s.Evolves t) : s.Evolves (spiWriteCr u v t) := by
  have started := spiStartArmed_evolves u ((State.Evolves.setSpi u ((t.spi u).control v)).2 h)
  exact started.andThen (spiUpdateIrq_evolves u started)

/-! ### TWI -/

theorem twiPumpDma_evolves (h : s.Evolves t) : s.Evolves (twiPumpDma t) := by
  have received := pdcRx_evolves .twi 1 (t.twi.rxq.map fun b => [b]) h
  exact State.Evolves.ite (received.andThen ((State.Evolves.setTwi _).2 received)) h

theorem twiPumpHold_evolves (h : s.Evolves t) : s.Evolves (twiPumpHold t) := by
  unfold twiPumpHold
  split
  · split
    · exact h
    · exact (State.Evolves.setTwi _).2 h
  · exact h

@[simp] theorem twiRxPump_evolves (h : s.Evolves t) : s.Evolves (twiRxPump t) :=
  (twiPumpDma_evolves h).andThen (twiUpdateIrq_evolves (twiPumpHold_evolves (twiPumpDma_evolves h)))

@[simp] theorem twiEmitStart_evolves (h : s.Evolves t) : s.Evolves (twiEmitStart t) := emit_evolves _ _ _ _ h

@[simp] theorem twiEmitStop_evolves (h : s.Evolves t) : s.Evolves (twiEmitStop t) := emit_evolves _ _ _ _ h

@[simp] theorem twiFlush_evolves (h : s.Evolves t) : s.Evolves (twiFlush t) :=
  twiUpdateIrq_evolves ((State.Evolves.setTwi _).2
    (State.Evolves.ite h (twiEmitStop_evolves (emitData_evolves _ _ (twiEmitStart_evolves h)))))

@[simp] theorem twiTxStart_evolves (h : s.Evolves t) : s.Evolves (twiTxStart t) := by
  have sent := pdcTx_evolves .twi 1 (fun bs r => emitData_evolves .twi bs (.refl r)) none
    (twiEmitStart_evolves (State.Evolves.ite (p := t.twi.txbuf.isEmpty = true) h (twiFlush_evolves h)))
  exact State.Evolves.ite h
    (sent.andThen (twiUpdateIrq_evolves ((State.Evolves.setTwi _).2 (twiEmitStop_evolves sent))))

theorem twiSlaveRequest_evolves (v : Word) (h : s.Evolves t) : s.Evolves (twiSlaveRequest v t) :=
  State.Evolves.ite h (State.Evolves.ite ((State.Evolves.raise _).2 h) (State.Evolves.ite ((State.Evolves.raise _).2 h) h))

theorem twiOpenRead_evolves (v : Word) (h : s.Evolves t) : s.Evolves (twiOpenRead v t) :=
  State.Evolves.ite ((State.Evolves.setTwi _).2 (twiEmitStart_evolves h)) h

theorem twiCloseRead_evolves (v : Word) (h : s.Evolves t) : s.Evolves (twiCloseRead v t) :=
  State.Evolves.ite ((State.Evolves.setTwi _).2 (twiEmitStop_evolves h)) h

theorem twiStartArmed_evolves (h : s.Evolves t) : s.Evolves (twiStartArmed t) :=
  State.Evolves.ite (twiTxStart_evolves h) h

@[simp] theorem twiWriteCr_evolves (v : Word) (h : s.Evolves t) : s.Evolves (twiWriteCr v t) := by
  have reset : s.Evolves (twiReset t) := (State.Evolves.setTwi _).2 ((State.Evolves.setTwi _).2 h)
  have request := twiSlaveRequest_evolves v (State.Evolves.ite (p := bit v 7 = true) reset h)
  refine request.andThen_of_forall fun r hr => ?_
  have started := twiStartArmed_evolves (twiCloseRead_evolves v (twiOpenRead_evolves v
    ((State.Evolves.setTwi (r.twi.modeControl v)).2 hr)))
  exact started.andThen (twiUpdateIrq_evolves started)

@[simp] theorem twiWriteThr_evolves (v : Word) (h : s.Evolves t) : s.Evolves (twiWriteThr v t) :=
  State.Evolves.ite h (twiUpdateIrq_evolves ((State.Evolves.setTwi _).2 h))

/-! ### MCI -/

theorem sdCommand_evolves (c : Fin 2) (cmd : BitVec 6) (arg : Word) (h : s.Evolves t) :
    s.Evolves (sdCommand c cmd arg t).2 := by
  unfold sdCommand
  dsimp only
  split <;> exact (State.Evolves.setSd _).2 h

theorem sdReadByte_evolves (c : Fin 2) (h : s.Evolves t) : s.Evolves (sdReadByte c t).2 := by
  unfold sdReadByte
  dsimp only
  split <;> exact (State.Evolves.setSd _).2 h

theorem sdRead_evolves (c : Fin 2) (n : Nat) (h : s.Evolves t) : s.Evolves (sdRead c n t).2 := by
  induction n generalizing t with
  | zero => exact h
  | succ n ih => exact ih (sdReadByte_evolves c h)

theorem sdWrite_evolves (c : Fin 2) (bs : List Byte) (h : s.Evolves t) : s.Evolves (sdWrite c bs t) := by
  induction bs generalizing t with
  | nil => exact h
  | cons b bs ih => exact ih ((State.Evolves.setSd _).2 h)

@[simp] theorem mciPdcRead_evolves (h : s.Evolves t) : s.Evolves (mciPdcRead t) := by
  unfold mciPdcRead
  dsimp only
  split
  · refine State.Evolves.ite (State.Evolves.ite (mciUpdateIrq_evolves h) ?_) (mciUpdateIrq_evolves h)
    have received (n : Nat) (us : List (List Byte)) := pdcRx_evolves .mci t.mci.pdcUnit us
      (sdRead_evolves t.mci.selectedCard n h)
    exact (received _ _).andThen (mciUpdateIrq_evolves ((State.Evolves.setMci _).2 (received _ _)))
  · exact mciUpdateIrq_evolves h

@[simp] theorem mciPdcWrite_evolves (h : s.Evolves t) : s.Evolves (mciPdcWrite t) := by
  unfold mciPdcWrite
  dsimp only
  split
  · refine State.Evolves.ite ?_ (mciUpdateIrq_evolves h)
    have sent (limit : Option Nat) :=
      pdcTx_evolves .mci t.mci.pdcUnit (fun bs r => sdWrite_evolves t.mci.selectedCard bs (.refl r)) limit h
    exact (sent _).andThen (mciUpdateIrq_evolves ((State.Evolves.setMci _).2 (sent _)))
  · exact mciUpdateIrq_evolves h

theorem mciStartTransfer_evolves (w : Word) (h : s.Evolves t) : s.Evolves (mciStartTransfer w t) := by
  refine State.Evolves.ite ((State.Evolves.raise _).2 h) (State.Evolves.ite
    ((State.Evolves.setMci _).2 ((State.Evolves.setMci _).2 h)) (State.Evolves.ite ?_ ((State.Evolves.setMci _).2 h)))
  split
  · exact mciPdcRead_evolves ((State.Evolves.setMci _).2 h)
  · exact mciPdcWrite_evolves ((State.Evolves.setMci _).2 h)

theorem mciCommand_evolves (w : Word) (h : s.Evolves t) : s.Evolves (mciCommand w t) :=
  (State.Evolves.setMci _).2 (sdCommand_evolves _ _ _ ((State.Evolves.setMci _).2 h))

theorem mciTransferCommand_evolves (w : Word) (h : s.Evolves t) : s.Evolves (mciTransferCommand w t) :=
  State.Evolves.ite (mciStartTransfer_evolves w h) (State.Evolves.ite ((State.Evolves.setMci _).2 h) h)

@[simp] theorem mciWriteCmdr_evolves (w : Word) (h : s.Evolves t) : s.Evolves (mciWriteCmdr w t) := by
  unfold mciWriteCmdr
  split
  · exact (State.Evolves.raise _).2 h
  · have transferred := mciTransferCommand_evolves w (mciCommand_evolves w h)
    exact transferred.andThen (mciUpdateIrq_evolves transferred)

@[simp] theorem mciReadRspr_evolves (k : Fin 4) (h : s.Evolves t) : s.Evolves (mciReadRspr k t) :=
  State.Evolves.ite ((State.Evolves.raise _).2 h) ((State.Evolves.setRdata _).2 ((State.Evolves.setMci _).2 h))

@[simp] theorem mciReadRdr_evolves (h : s.Evolves t) : s.Evolves (mciReadRdr t) := by
  have last : s.Evolves (t.returns t.mci.rdr) := (State.Evolves.setRdata _).2 h
  unfold mciReadRdr
  dsimp only
  split
  · exact State.Evolves.ite ((State.Evolves.setRdata _).2 (mciUpdateIrq_evolves
      ((State.Evolves.setMci _).2 (sdRead_evolves _ _ h)))) last
  · exact last

@[simp] theorem mciWriteTdr_evolves (v : Word) (h : s.Evolves t) : s.Evolves (mciWriteTdr v t) := by
  unfold mciWriteTdr
  dsimp only
  split
  · exact mciUpdateIrq_evolves ((State.Evolves.setMci _).2 (sdWrite_evolves _ _ h))
  · exact (State.Evolves.raise _).2 h

@[simp] theorem mciWriteCr_evolves (v : Word) (h : s.Evolves t) : s.Evolves (mciWriteCr v t) :=
  mciUpdateIrq_evolves ((State.Evolves.setMci _).2 (State.Evolves.ite ((State.Evolves.setMci _).2 h) h))

/-! ### PDC registers -/

@[simp] theorem pdcRxStart_evolves (host : PdcHost) (h : s.Evolves t) : s.Evolves (pdcRxStart host t) := by
  cases host with
  | usart u => exact usartRxPump_evolves u h
  | spi u => exact spiRxPump_evolves u h
  | twi => exact twiRxPump_evolves h
  | mci => exact mciPdcRead_evolves h

@[simp] theorem pdcTxStart_evolves (host : PdcHost) (h : s.Evolves t) : s.Evolves (pdcTxStart host t) := by
  cases host with
  | usart u => exact usartTxStart_evolves u h
  | spi u => exact spiTxStart_evolves u h
  | twi => exact twiTxStart_evolves h
  | mci => exact mciPdcWrite_evolves h

/-- A count is written, the channel may start, and the interrupt output follows (R263 to R265). -/
theorem State.Evolves.pdcCount {host : PdcHost} {start : State → State} {p : Prop} [Decidable p]
    (hs : s.Evolves t) (hstart : s.Evolves (start t)) :
    s.Evolves ((if p then start t else t).andThen (pdcUpdateIrq host)) :=
  (State.Evolves.ite hstart hs).andThen (pdcUpdateIrq_evolves host (State.Evolves.ite hstart hs))

@[simp] theorem pdcWriteRcr_evolves (host : PdcHost) (v : Word) (h : s.Evolves t) : s.Evolves (pdcWriteRcr host v t) :=
  have stored := (State.Evolves.setPdc host _).2 h
  stored.pdcCount (pdcRxStart_evolves host stored)

@[simp] theorem pdcWriteTcr_evolves (host : PdcHost) (v : Word) (h : s.Evolves t) : s.Evolves (pdcWriteTcr host v t) :=
  have stored := (State.Evolves.setPdc host _).2 h
  stored.pdcCount (pdcTxStart_evolves host stored)

@[simp] theorem pdcWriteRncr_evolves (host : PdcHost) (v : Word) (h : s.Evolves t) : s.Evolves (pdcWriteRncr host v t) :=
  have stored := (State.Evolves.setPdc host _).2 h
  stored.pdcCount (pdcRxStart_evolves host stored)

@[simp] theorem pdcWriteTncr_evolves (host : PdcHost) (v : Word) (h : s.Evolves t) : s.Evolves (pdcWriteTncr host v t) :=
  have stored := (State.Evolves.setPdc host _).2 h
  stored.pdcCount (pdcTxStart_evolves host stored)

@[simp] theorem pdcWritePtcr_evolves (host : PdcHost) (v : Word) (h : s.Evolves t) : s.Evolves (pdcWritePtcr host v t) := by
  have stored := (State.Evolves.setPdc host (Pdc.txFlagsAfterWrite none
    (Pdc.rxFlagsAfterWrite none ((t.pdc host).enables (halfDuplex host) v)))).2 h
  refine State.Evolves.andThen_of_forall (State.Evolves.andThen_of_forall ?_ fun r hr => ?_)
    fun r hr => pdcUpdateIrq_evolves host hr
  · exact State.Evolves.ite (pdcRxStart_evolves host stored) stored
  · exact State.Evolves.ite (pdcTxStart_evolves host hr) hr

/-! ### PIO, PMC, timers -/

@[simp] theorem pioEmitOut_evolves (p : Fin 3) (h : s.Evolves t) : s.Evolves (pioEmitOut p t) := emit_evolves _ _ _ _ h

theorem pioSelectCard_evolves (p : Fin 3) (h : s.Evolves t) : s.Evolves (pioSelectCard p t) :=
  State.Evolves.ite ((State.Evolves.setMci _).2 h) h

theorem pioUpdate_evolves (p : Fin 3) (h : s.Evolves t) : s.Evolves (pioUpdate p t) :=
  have latched := (State.Evolves.setPio p _).2 h
  pioUpdateIrq_evolves p (pioSelectCard_evolves p (State.Evolves.ite (pioEmitOut_evolves p latched) latched))

@[simp] theorem pioChange_evolves (p : Fin 3) (f : Pio → Pio) (h : s.Evolves t) : s.Evolves (pioChange p f t) :=
  pioUpdate_evolves p ((State.Evolves.setPio p _).2 h)

@[simp] theorem pioEnableFrame_evolves (p : Fin 3) (payload : List Byte) (h : s.Evolves t) :
    s.Evolves (pioEnableFrame p payload t) := by
  unfold pioEnableFrame
  split
  · exact pioChange_evolves p _ h
  · exact h

@[simp] theorem pioDisableFrame_evolves (p : Fin 3) (payload : List Byte) (h : s.Evolves t) :
    s.Evolves (pioDisableFrame p payload t) := by
  unfold pioDisableFrame
  split
  · exact pioChange_evolves p _ h
  · exact h

/-- A sub-action for every index, one after another (R9). -/
theorem State.Evolves.foldl {α : Type} {f : State → α → State} (hf : ∀ (r : State) (x : α), s.Evolves r → s.Evolves (f r x))
    (xs : List α) (h : s.Evolves t) : s.Evolves (xs.foldl f t) := by
  induction xs generalizing t with
  | nil => exact h
  | cons x xs ih => exact ih (hf t x h)

theorem mclkChanged_evolves (h : s.Evolves t) : s.Evolves (mclkChanged t) :=
  State.Evolves.foldl (fun _ c hr => (State.Evolves.setTc c _).2 hr) _
    (State.Evolves.foldl (fun _ u hr => (State.Evolves.setUsart u _).2 hr) _
      ((State.Evolves.setTwi _).2 ((State.Evolves.setPit _).2 h)))

theorem pmcUpdate_evolves (h : s.Evolves t) : s.Evolves (pmcUpdate t) :=
  have stored := (State.Evolves.setPmc _).2 h
  pmcUpdateIrq_evolves (State.Evolves.ite (mclkChanged_evolves ((State.Evolves.setPmc _).2 stored)) stored)

@[simp] theorem pmcChange_evolves (f : Pmc → Pmc) (h : s.Evolves t) : s.Evolves (pmcChange f t) :=
  pmcUpdate_evolves ((State.Evolves.setPmc _).2 h)

theorem tcSyncChannel_evolves (c : Fin 6) (h : s.Evolves t) : s.Evolves (tcSyncChannel c t) :=
  State.Evolves.ite ((State.Evolves.setTc c _).2 h) h

@[simp] theorem tcbWriteBcr_evolves (b : Fin 2) (v : Word) (h : s.Evolves t) : s.Evolves (tcbWriteBcr b v t) :=
  State.Evolves.ite (tcSyncChannel_evolves _ (tcSyncChannel_evolves _ (tcSyncChannel_evolves _ h))) h

@[simp] theorem tcWriteCmr_evolves (c : Fin 6) (v : Word) (h : s.Evolves t) : s.Evolves (tcWriteCmr c v t) :=
  State.Evolves.ite ((State.Evolves.raise _).2 h)
    (State.Evolves.ite ((State.Evolves.raise _).2 h) ((State.Evolves.setTc c _).2 h))

theorem runTick_evolves (c : ClockId) (h : s.Evolves t) : s.Evolves (runTick c t) := by
  cases c with
  | tc k => exact State.Evolves.ite (tcUpdateIrq_evolves k ((State.Evolves.setTc k _).2 h)) h
  | pit => exact State.Evolves.ite (pitUpdateIrq_evolves ((State.Evolves.setPit _).2 h)) h
  | rtt => exact rttUpdateIrq_evolves ((State.Evolves.setRtt _).2 h)

/-! ### AIC -/

@[simp] theorem aicAcknowledge_evolves (h : s.Evolves t) : s.Evolves (aicAcknowledge t) := by
  unfold aicAcknowledge
  split
  next => exact (State.Evolves.raise _).2 h
  next room =>
    split
    next n _ => exact h.setAic fun consistent => (consistent.2.push room (t.aic.prio_le n) _).update
    next => exact h.setAic fun consistent => (consistent.2.push room le_rfl t.aic.latch).update

@[simp] theorem aicReadIvr_evolves (h : s.Evolves t) : s.Evolves (aicReadIvr t) :=
  State.Evolves.ite ((State.Evolves.setRdata _).2 h)
    ((aicAcknowledge_evolves h).andThen ((State.Evolves.setRdata _).2 (aicAcknowledge_evolves h)))

@[simp] theorem aicWriteIvr_evolves (h : s.Evolves t) : s.Evolves (aicWriteIvr t) :=
  State.Evolves.ite (aicAcknowledge_evolves h) h

@[simp] theorem aicEndOfInterrupt_evolves (h : s.Evolves t) : s.Evolves (aicEndOfInterrupt t) :=
  aicChange_evolves (fun _ bounded => bounded.dropLast) h

/-- A register of the AIC that neither output nor bound reads (R204, R205). -/
theorem State.Evolves.setVector (h : s.Evolves t) (svr : Vector Word 32) (spu : Word) :
    s.Evolves (t.setAic { t.aic with svr := svr, spu := spu }) :=
  h.setAic fun ⟨outputs, bounded⟩ =>
    ⟨congrArg (fun a : Aic => { a with svr := svr, spu := spu }) outputs, bounded.depth, bounded.prio, bounded.line0⟩

/-- Line 0 stays out of the fast-forced lines, whatever else is set (R210). -/
@[simp] theorem aicWriteFfer_evolves (v : Word) (h : s.Evolves t) : s.Evolves (aicWriteFfer v t) := by
  refine aicChange_evolves (fun a bounded => ⟨bounded.depth, bounded.prio, ?_⟩) h
  have line0 := bounded.line0
  simp_all [bit, setBits, ffsrMask]

@[simp] theorem aicWriteFfdr_evolves (v : Word) (h : s.Evolves t) : s.Evolves (aicWriteFfdr v t) := by
  refine aicChange_evolves (fun a bounded => ⟨bounded.depth, bounded.prio, ?_⟩) h
  have line0 := bounded.line0
  simp_all [bit, clearBits]

/-! ### Reset -/

/-- The AIC a reset leaves has both outputs low, since no line is enabled (R820). -/
theorem Aic.socReset_consistent (a : Aic) : a.socReset.Consistent := by
  have disabled (n : Fin 32) : bit a.socReset.imr n.val = false := by simp [Aic.socReset, Aic.reset, bit]
  have nirq : a.socReset.nirqLevel = false := by simp [Aic.nirqLevel, Aic.cand, disabled]
  have nfiq : a.socReset.nfiqLevel = false := by simp [Aic.nfiqLevel, disabled]
  refine ⟨?_, Nat.zero_le _, by simp [Aic.socReset, Aic.reset], by simp [Aic.socReset, Aic.reset, bit]⟩
  rw [Aic.update, nirq, nfiq]
  rfl

theorem resetRegisters_evolves (h : s.Evolves t) : s.Evolves (resetRegisters t) :=
  ⟨h.params, h.mem, fun _ => t.aic.socReset_consistent, h.inbuf⟩

@[simp] theorem socReset_evolves (h : s.Evolves t) : s.Evolves (socReset t) :=
  aicChange_evolves (fun _ bounded => bounded) (pioSelectCard_evolves 1
    (pioEmitOut_evolves 2 (pioEmitOut_evolves 1 (pioEmitOut_evolves 0 (resetRegisters_evolves h)))))

@[simp] theorem rstcWriteCr_evolves (v : Word) (h : s.Evolves t) : s.Evolves (rstcWriteCr v t) :=
  State.Evolves.ite ((State.Evolves.setRstc _).2 (socReset_evolves h)) h

end

end Sys2Proof.Machine
end

section
/-! What a row of the opcode table can do: the gate of its agent over an operation that keeps `State.Evolves`. The rows
that write memory keep ROM and NOR where the decoder sends them, at an aligned address of RAM. From this O3 and O4. -/

namespace Sys2Proof.Machine

section

variable {s t : State}

/-! ### Operations that run a pump and then one more sub-action -/

@[simp] theorem usartWriteCr_evolves (u : Fin 6) (v : Word) (h : s.Evolves t) : s.Evolves (usartWriteCr u v t) :=
  have pumped := usartRxPump_evolves u ((State.Evolves.setUsart u _).2 h)
  State.Evolves.andThen pumped (usartUpdateIrq_evolves u pumped)

@[simp] theorem usartReadRhr_evolves (u : Fin 6) (h : s.Evolves t) : s.Evolves (usartReadRhr u t) :=
  have pumped := usartRxPump_evolves u ((State.Evolves.setUsart u _).2 h)
  pumped.andThen_of_forall fun _ hr => (State.Evolves.setRdata _).2 hr

@[simp] theorem usartDataInFrame_evolves (u : Fin 6) (seq : Byte) (payload : List Byte) (h : s.Evolves t) :
    s.Evolves (usartDataInFrame u seq payload t) :=
  have pumped := usartRxPump_evolves u ((State.Evolves.setUsart u _).2 h)
  State.Evolves.ite (State.Evolves.andThen pumped (reply_evolves _ _ _ pumped)) (reply_evolves _ _ _ h)

@[simp] theorem usartWriteThr_evolves (u : Fin 6) (v : Word) (h : s.Evolves t) : s.Evolves (usartWriteThr u v t) :=
  State.Evolves.ite (emitData_evolves _ _ h) h

@[simp] theorem spiReadRdr_evolves (u : Fin 2) (h : s.Evolves t) : s.Evolves (spiReadRdr u t) :=
  have pumped := spiRxPump_evolves u ((State.Evolves.setSpi u _).2 h)
  pumped.andThen_of_forall fun _ hr => (State.Evolves.setRdata _).2 hr

@[simp] theorem spiWriteCsr_evolves (u : Fin 2) (k : Fin 4) (v : Word) (h : s.Evolves t) : s.Evolves (spiWriteCsr u k v t) :=
  State.Evolves.ite ((State.Evolves.raise _).2 h) ((State.Evolves.setSpi u _).2 h)

@[simp] theorem twiReadRhr_evolves (h : s.Evolves t) : s.Evolves (twiReadRhr t) :=
  have pumped := twiRxPump_evolves ((State.Evolves.setTwi _).2 h)
  pumped.andThen_of_forall fun _ hr => (State.Evolves.setRdata _).2 hr

@[simp] theorem twiDataInFrame_evolves (seq : Byte) (payload : List Byte) (h : s.Evolves t) :
    s.Evolves (twiDataInFrame seq payload t) :=
  have pumped := twiRxPump_evolves ((State.Evolves.setTwi _).2 h)
  State.Evolves.andThen pumped (reply_evolves _ _ _ pumped)

/-! ### Registers that a condition guards -/

@[simp] theorem tcWriteRa_evolves (c : Fin 6) (v : Word) (h : s.Evolves t) : s.Evolves (tcWriteRa c v t) :=
  State.Evolves.ite ((State.Evolves.setTc c _).2 h) h

@[simp] theorem tcWriteRb_evolves (c : Fin 6) (v : Word) (h : s.Evolves t) : s.Evolves (tcWriteRb c v t) :=
  State.Evolves.ite ((State.Evolves.setTc c _).2 h) h

@[simp] theorem rstcWriteMr_evolves (v : Word) (h : s.Evolves t) : s.Evolves (rstcWriteMr v t) :=
  State.Evolves.ite ((State.Evolves.setRstc _).2 h) h

@[simp] theorem dbguWriteCr_evolves (v : Word) (h : s.Evolves t) : s.Evolves (dbguWriteCr v t) :=
  dbguUpdateIrq_evolves (State.Evolves.ite ((State.Evolves.setDbgu _).2 h) h)

@[simp] theorem unimplRead_evolves (w : UnimplWindow) (a : Word) (h : s.Evolves t) : s.Evolves (unimplRead w a t) :=
  State.Evolves.ite ((State.Evolves.raise _).2 h) ((State.Evolves.setRdata _).2 h)

@[simp] theorem unimplWrite_evolves (w : UnimplWindow) (a v : Word) (h : s.Evolves t) : s.Evolves (unimplWrite w a v t) :=
  State.Evolves.ite ((State.Evolves.raise _).2 h) h

/-! ### Registers of the AIC that neither the stack nor the fast-forced lines depend on -/

@[simp] theorem aicWriteSmr_evolves (n : Fin 32) (v : Word) (h : s.Evolves t) : s.Evolves (aicWriteSmr n v t) :=
  aicChange_evolves (fun _ bounded => ⟨bounded.depth, bounded.prio, bounded.line0⟩) h

@[simp] theorem aicWriteSvr_evolves (n : Fin 32) (v : Word) (h : s.Evolves t) : s.Evolves (aicWriteSvr n v t) :=
  h.setVector _ _

@[simp] theorem aicWriteSpu_evolves (v : Word) (h : s.Evolves t) : s.Evolves (aicWriteSpu v t) := h.setVector _ _

@[simp] theorem aicWriteDcr_evolves (v : Word) (h : s.Evolves t) : s.Evolves (aicWriteDcr v t) :=
  aicChange_evolves (fun _ bounded => ⟨bounded.depth, bounded.prio, bounded.line0⟩) h

@[simp] theorem aicWriteIecr_evolves (v : Word) (h : s.Evolves t) : s.Evolves (aicWriteIecr v t) :=
  aicChange_evolves (fun _ bounded => ⟨bounded.depth, bounded.prio, bounded.line0⟩) h

@[simp] theorem aicWriteIdcr_evolves (v : Word) (h : s.Evolves t) : s.Evolves (aicWriteIdcr v t) :=
  aicChange_evolves (fun _ bounded => ⟨bounded.depth, bounded.prio, bounded.line0⟩) h

@[simp] theorem aicWriteIscr_evolves (v : Word) (h : s.Evolves t) : s.Evolves (aicWriteIscr v t) :=
  aicChange_evolves (fun _ bounded => ⟨bounded.depth, bounded.prio, bounded.line0⟩) h

@[simp] theorem aicWriteIccr_evolves (v : Word) (h : s.Evolves t) : s.Evolves (aicWriteIccr v t) :=
  aicChange_evolves (fun _ bounded => ⟨bounded.depth, bounded.prio, bounded.line0⟩) h

@[simp] theorem aicReadFvr_evolves (h : s.Evolves t) : s.Evolves (aicReadFvr t) :=
  (State.Evolves.setRdata _).2
    (aicChange_evolves (fun _ bounded => ⟨bounded.depth, bounded.prio, bounded.line0⟩) h)

/-! ### CPU accesses to memory -/

/-- The region an address lies in is a row of the map that holds it (R86). -/
theorem regionIn_some {a : Nat} {rs : List Region} {r : Region} (h : regionIn a rs = some r) : r ∈ rs ∧ r.holds a = true := by
  induction rs with
  | nil => simp [regionIn] at h
  | cons x xs ih =>
    unfold regionIn at h
    split at h
    next holds => cases h; exact ⟨List.mem_cons_self, holds⟩
    next => exact ⟨List.mem_cons_of_mem _ (ih h).1, (ih h).2⟩

/-- The bounds of each memory-backed region (R86). -/
theorem memoryAt_bounds {z : MemSizes} {a : Word} {m : MemRegion} (h : memoryAt z a = some m) :
    match m with
    | .rom => 0x00100000 ≤ a.toNat ∧ a.toNat < 0x00108000
    | .sram0 => 0x00200000 ≤ a.toNat ∧ a.toNat < 0x00204000
    | .sram1 => 0x00300000 ≤ a.toNat ∧ a.toNat < 0x00304000
    | .nor => 0x10000000 ≤ a.toNat ∧ a.toNat < 0x10000000 + z.nor
    | .sdram => 0x20000000 ≤ a.toNat ∧ a.toNat < 0x20000000 + z.sdram := by
  unfold memoryAt at h
  split at h
  next r region =>
    obtain ⟨row, holds⟩ := regionIn_some region
    simp only [Region.holds, Bool.and_eq_true, decide_eq_true_eq] at holds
    split at h
    next m' kind =>
      cases h
      simp only [regionMap, List.mem_cons, List.not_mem_nil, or_false] at row
      rcases row with rfl | rfl | rfl | rfl | rfl | rfl | rfl | row
      · cases kind
      · cases kind; exact holds
      · cases kind; exact holds
      · cases kind; exact holds
      · cases kind
      · cases kind; exact holds
      · cases kind; exact holds
      · repeat' (first | (rcases row with rfl | row) | subst row)
        all_goals cases kind
    next => cases h
  next => cases h

/-- No byte of an aligned access lies past the end of the address space (R94). -/
theorem aligned_no_wrap {size : AccessSize} {a : Word} (h : aligned size a = true) {k : Nat} (hk : k < size.bytes) :
    (a + BitVec.ofNat 32 k).toNat = a.toNat + k := by
  have hlt := a.isLt
  simp only [aligned, beq_iff_eq] at h
  rw [BitVec.toNat_add, BitVec.toNat_ofNat]
  cases size <;> simp only [AccessSize.bytes] at h hk <;> omega

/-- The bytes of an aligned access to RAM lie outside the bootmem window and in no `rom` region (R85, R86). -/
theorem aligned_ram {z : MemSizes} {size : AccessSize} {a : Word} (ram : dmaWritable z a = true)
    (ha : aligned size a = true) {k : Nat} (hk : k < size.bytes) :
    inBootWindow (a + BitVec.ofNat 32 k) = false ∧ inRom z (a + BitVec.ofNat 32 k) = false := by
  have toNat := aligned_no_wrap ha hk
  have hk4 : k < 4 := by cases size <;> simp only [AccessSize.bytes] at hk <;> omega
  have above : 0x00200000 ≤ a.toNat ∧ (a.toNat < 0x00304000 ∨ 0x20000000 ≤ a.toNat ∧ memoryAt z a = some .sdram) := by
    unfold dmaWritable at ram
    split at ram
    · cases ram
    · cases ram
    next m _ _ eq =>
      have bounds := memoryAt_bounds eq
      cases m <;> simp_all <;> omega
    · cases ram
  refine ⟨by simp [inBootWindow, toNat]; omega, ?_⟩
  rw [← Bool.not_eq_true, inRom_iff]
  rintro (rom | nor)
  · have := memoryAt_bounds rom
    simp only [toNat] at this
    omega
  · have bounds := memoryAt_bounds nor
    simp only [toNat] at bounds
    obtain ⟨-, low | ⟨high, sdram⟩⟩ := above
    · omega
    · rw [memoryAt_nor (by omega) (by omega)] at sdram
      cases sdram

/-- A CPU write to RAM (R90). -/
theorem memWrite_evolves {addr : Word} {size : AccessSize} (v : Word) (h : s.Evolves t)
    (ram : dmaWritable t.params.sizes addr = true) (ha : aligned size addr = true) : s.Evolves (memWrite addr size v t) := by
  rcases memAccess_cases .write addr size v (fun t => t.storeBytes addr (leBytes size.bytes v)) t with
    ⟨-, eq⟩ | ⟨a, -, eq⟩
  · rw [memWrite, eq]
    refine storeBytes_evolves h fun k hk => ?_
    obtain ⟨noAlias, notRom⟩ := aligned_ram ram ha (k := k) (by simpa [leBytes] using hk)
    simpa [State.redirect, noAlias] using notRom
  · rw [memWrite, eq]; exact (State.Evolves.raise _).2 h

@[simp] theorem memRead_evolves (addr : Word) (size : AccessSize) (h : s.Evolves t) : s.Evolves (memRead addr size t) := by
  rcases memAccess_cases .read addr size 0 (fun t => t.returns (leWord (t.loadBytes addr size.bytes))) t with
    ⟨-, eq⟩ | ⟨a, -, eq⟩
  · rw [memRead, eq]; exact (State.Evolves.setRdata _).2 h
  · rw [memRead, eq]; exact (State.Evolves.raise _).2 h

theorem bootReserved_evolves (dir : Dir) (addr : Word) (size : AccessSize) (v : Word) (h : s.Evolves t) :
    s.Evolves (bootReserved dir addr size v t) :=
  State.Evolves.ite ((State.Evolves.raise _).2 h) ((State.Evolves.raise _).2 h)

@[simp] theorem bootRead_evolves (addr : Word) (size : AccessSize) (h : s.Evolves t) : s.Evolves (bootRead addr size t) := by
  unfold bootRead
  split
  · exact memRead_evolves _ _ h
  · exact bootReserved_evolves _ _ _ _ h

/-- The redirection moves an address by a whole number of words (R153). -/
theorem aligned_redirect (s : State) {addr : Word} {size : AccessSize} (ha : aligned size addr = true) :
    aligned size (s.redirect addr) = true := by
  unfold State.redirect
  split
  · simp only [aligned, beq_iff_eq] at ha ⊢
    rw [BitVec.toNat_add]
    cases s.bootTarget <;> cases size <;> simp only [AccessSize.bytes, bootBase, BitVec.toNat_ofNat] at ha ⊢ <;> omega
  · exact ha

/-- A write through the bootmem window stores to RAM or aborts (R85, R154). -/
theorem bootWrite_evolves {addr : Word} {size : AccessSize} (v : Word) (h : s.Evolves t) (ha : aligned size addr = true) :
    s.Evolves (bootWrite addr size v t) := by
  unfold bootWrite
  split
  · exact (State.Evolves.raise _).2 h
  · exact (State.Evolves.raise _).2 h
  next m notRom notNor target =>
    refine memWrite_evolves v h ?_ (aligned_redirect t ha)
    unfold dmaWritable
    rw [target]
    cases m <;> simp_all
  · exact bootReserved_evolves _ _ _ _ h

end

/-! ### The rows -/

/-- Where a row that writes memory may stand: at an aligned address, and one of RAM unless it goes through the bootmem
window. -/
def storeOk (z : MemSizes) : Instr → Prop
  | .bootmemW addr size _ => aligned size addr = true
  | .sram0W addr size _ => dmaWritable z addr = true ∧ aligned size addr = true
  | .sram1W addr size _ => dmaWritable z addr = true ∧ aligned size addr = true
  | .sdramW addr size _ => dmaWritable z addr = true ∧ aligned size addr = true
  | _ => True

/-- The gate of the agent whose operation this is (R150, R390). -/
def gateOf (op : Op) (f : State → State) : State → Host.Outcome State Fault Refusal :=
  match op with
  | .bus _ => runBus f
  | .frameIn _ _ => runAgent f
  | .frameOut _ _ _ _ => runAgent f

theorem exec_eq_gateOf (i : Instr) :
    ∃ f, exec i = gateOf (encode i) f ∧ ∀ s : State, storeOk s.params.sizes i → s.Evolves (f s) := by
  cases i
  case bootmemW addr size v => exact ⟨_, rfl, fun s ok => bootWrite_evolves v (.refl s) ok⟩
  case sram0W addr size v => exact ⟨_, rfl, fun s ok => memWrite_evolves v (.refl s) ok.1 ok.2⟩
  case sram1W addr size v => exact ⟨_, rfl, fun s ok => memWrite_evolves v (.refl s) ok.1 ok.2⟩
  case sdramW addr size v => exact ⟨_, rfl, fun s ok => memWrite_evolves v (.refl s) ok.1 ok.2⟩
  all_goals refine ⟨_, rfl, fun s _ => ?_⟩
  all_goals simp [
    pdcWriteTpr, pdcWriteTnpr, pdcWriteRpr, pdcWriteRnpr, usartWriteTtgr, usartWriteRtor,
    usartWriteMr, usartWriteMan, usartWriteIf, usartWriteIer, usartWriteIdr, usartWriteFidi,
    usartWriteBrgr, tcWriteRc, tcWriteIer, tcWriteIdr, tcWriteCcr, tcReadSr, matrixWriteMcfg,
    matrixWriteScfg, matrixWritePras, pioWriteSodr, pioWritePuer, pioWritePudr, pioWritePer,
    pioWritePdr, pioWriteOwer, pioWriteOwdr, pioWriteOer, pioWriteOdsr, pioWriteOdr, pioWriteMder,
    pioWriteMddr, pioWriteIfer, pioWriteIfdr, pioWriteIer, pioWriteIdr, pioWriteCodr, pioWriteBsr,
    pioWriteAsr, pioReadIsr, tcbWriteBmr, spiWriteMr, spiWriteIer, spiWriteIdr, spiReadSr, romWrite,
    pmcWritePck0, pmcWritePck1, usartFaultTimeoutFrame, usartFaultPareFrame, usartFaultOvreFrame,
    usartFaultFrameFrame, twiWriteSmr, twiWriteMmr, twiWriteIer, twiWriteIdr, twiWriteIadr,
    twiWriteCwgr, twiReadSr, twiFaultOvreFrame, twiFaultNackFrame, twiFaultArblstFrame,
    spiFaultOvresFrame, spiFaultModfFrame, sdramcWriteTr, sdramcWriteMr, sdramcWriteMdr,
    sdramcWriteLpr, sdramcWriteIer, sdramcWriteIdr, sdramcWriteCr, sdramcReadIsr,
    sdramcFaultResFrame, rttWriteMr, rttWriteAr, rttReadSr, pmcWriteScer, pmcWriteScdr,
    pmcWritePllicpr, pmcWritePllbr, pmcWritePllar, pmcWritePcer, pmcWritePcdr, pmcWriteMor,
    pmcWriteMckr, pmcWriteIer, pmcWriteIdr, pitWriteMr, pitReadPivr, pioGetFrame, mciWriteSdcr,
    mciWriteMr, mciWriteIer, mciWriteIdr, mciWriteDtor, mciWriteBlkr, mciWriteArgr, mciReadSr,
    matrixWriteMrcr, matrixWriteEbiCsa, dbguWriteThr, dbguWriteMr, dbguWriteIer, dbguWriteIdr,
    dbguWriteBrgr, dbguReadRhr, usartUpdateBaud, twiUpdateClock]

end Sys2Proof.Machine
end

section
/-! What the decoder sends to the rows that write memory: aligned addresses, and addresses of RAM for the rows of the RAM
regions (R85, R94, R123). No register row and no frame is one of them. -/

namespace Sys2Proof.Machine

/-- A row a register map selects is none that writes memory where it must not. -/
def registerOk (z : MemSizes) : RegSelect → Prop
  | .register i => storeOk z i
  | .wrongDir => True
  | .undefined => True

theorem registerOk_pdc (z : MemSizes) (h : PdcHost) (off : Nat) (dir : Dir) (v : Word) :
    registerOk z (decodePdc h off dir v) := by
  cases h with
  | usart u => fin_cases u <;> cases dir <;> unfold decodePdc <;> split <;> exact trivial
  | spi u => fin_cases u <;> cases dir <;> unfold decodePdc <;> split <;> exact trivial
  | twi => cases dir <;> unfold decodePdc <;> split <;> exact trivial
  | mci => cases dir <;> unfold decodePdc <;> split <;> exact trivial

theorem registerOk_usart (z : MemSizes) (u : Fin 6) (off : Nat) (dir : Dir) (v : Word) :
    registerOk z (decodeUsart u off dir v) := by
  unfold decodeUsart
  split
  case h_16 => exact registerOk_pdc z _ _ _ _
  all_goals fin_cases u <;> cases dir <;> exact trivial

theorem registerOk_spi (z : MemSizes) (u : Fin 2) (off : Nat) (dir : Dir) (v : Word) :
    registerOk z (decodeSpi u off dir v) := by
  unfold decodeSpi
  split
  case h_9 =>
    split
    · generalize Fin.ofNat 4 _ = k
      fin_cases u <;> fin_cases k <;> cases dir <;> exact trivial
    · exact registerOk_pdc z _ _ _ _
  all_goals fin_cases u <;> cases dir <;> exact trivial

theorem registerOk_twi (z : MemSizes) (off : Nat) (dir : Dir) (v : Word) : registerOk z (decodeTwi off dir v) := by
  unfold decodeTwi
  split
  case h_12 => exact registerOk_pdc z _ _ _ _
  all_goals cases dir <;> exact trivial

theorem registerOk_mci (z : MemSizes) (off : Nat) (dir : Dir) (v : Word) : registerOk z (decodeMci off dir v) := by
  unfold decodeMci
  split
  case h_14 =>
    split
    · generalize Fin.ofNat 4 _ = k
      fin_cases k <;> cases dir <;> exact trivial
    · exact registerOk_pdc z _ _ _ _
  all_goals cases dir <;> exact trivial

theorem registerOk_tcChannel (z : MemSizes) (c : Fin 6) (off : Nat) (dir : Dir) (v : Word) :
    registerOk z (decodeTcChannel c off dir v) := by
  unfold decodeTcChannel
  split <;> fin_cases c <;> cases dir <;> exact trivial

theorem registerOk_tcBlock (z : MemSizes) (b : Fin 2) (off : Nat) (dir : Dir) (v : Word) :
    registerOk z (decodeTcBlock b off dir v) := by
  unfold decodeTcBlock
  split
  case h_3 =>
    split_ifs
    all_goals generalize Fin.ofNat 6 _ = c
    · exact registerOk_tcChannel z c _ _ _
    · exact registerOk_tcChannel z c _ _ _
    · generalize off - 0x80 = inBlock
      exact registerOk_tcChannel z c inBlock dir v
    · exact trivial
  all_goals fin_cases b <;> cases dir <;> exact trivial

theorem registerOk_pio (z : MemSizes) (p : Fin 3) (off : Nat) (dir : Dir) (v : Word) :
    registerOk z (decodePio p off dir v) := by
  fin_cases p <;> cases dir <;> unfold decodePio <;> split <;> exact trivial

theorem registerOk_aic (z : MemSizes) (off : Nat) (dir : Dir) (v : Word) : registerOk z (decodeAic off dir v) := by
  unfold decodeAic
  split
  case h_17 => split_ifs <;> cases dir <;> exact trivial
  all_goals cases dir <;> exact trivial

theorem registerOk_register (z : MemSizes) (p : Peripheral) (off : Nat) (dir : Dir) (v : Word) :
    registerOk z (decodeRegister p off dir v) := by
  cases p with
  | tcb b => exact registerOk_tcBlock z b off dir v
  | mci => exact registerOk_mci z off dir v
  | twi => exact registerOk_twi z off dir v
  | usart u => exact registerOk_usart z u off dir v
  | spi u => exact registerOk_spi z u off dir v
  | sdramc => change registerOk z (decodeSdramc off dir v); unfold decodeSdramc; split <;> cases dir <;> exact trivial
  | matrix => change registerOk z (decodeMatrix off dir v); unfold decodeMatrix; split <;> cases dir <;> exact trivial
  | aic => exact registerOk_aic z off dir v
  | dbgu => change registerOk z (decodeDbgu off dir v); unfold decodeDbgu; split <;> cases dir <;> exact trivial
  | pio p => exact registerOk_pio z p off dir v
  | pmc => change registerOk z (decodePmc off dir v); unfold decodePmc; split <;> cases dir <;> exact trivial
  | rstc => change registerOk z (decodeRstc off dir v); unfold decodeRstc; split <;> cases dir <;> exact trivial
  | rtt => change registerOk z (decodeRtt off dir v); unfold decodeRtt; split <;> cases dir <;> exact trivial
  | pit => change registerOk z (decodePit off dir v); unfold decodePit; split <;> cases dir <;> exact trivial

/-- A legal access is aligned (R94). -/
theorem memoryAccess_aligned {t : BusTxn} {size : AccessSize} (h : memoryAccess t = some size) :
    aligned size t.addr = true := by
  unfold memoryAccess at h
  split at h
  · split at h
    next ha => cases h; exact ha
    · cases h
  · cases h

theorem decodeBus_storeOk {z : MemSizes} {t : BusTxn} {i : Instr} (h : decodeBus z t = .ok i) : storeOk z i := by
  unfold decodeBus at h
  split at h
  · split at h <;> cases h
  next r region =>
    split at h
    case h_1 =>
      split at h
      · cases h
      next access => split at h <;> cases h; exacts [trivial, memoryAccess_aligned access]
    case h_2 m kind =>
      split at h
      · cases h
      next size access =>
        have ram (hm : m ≠ .rom ∧ m ≠ .nor) : dmaWritable z t.addr = true := by
          have at_m : memoryAt z t.addr = some m := by simp [memoryAt, region, kind]
          unfold dmaWritable
          rw [at_m]
          cases m <;> simp_all
        have ha := memoryAccess_aligned access
        cases h
        cases m <;> cases t.dir <;>
          first | exact trivial | exact ⟨ram ⟨by decide, by decide⟩, ha⟩
    case h_3 w kind =>
      split at h
      · cases h
        cases w <;> cases t.dir <;> exact trivial
      · cases h
    case h_4 p kind =>
      split at h
      · have ok := registerOk_register z p (t.addr.toNat - r.base) t.dir t.wdata
        split at h
        next i' found => cases h; rw [found] at ok; exact ok
        · cases h
        · cases h
      · cases h

theorem decodeFrameIn_storeOk {z : MemSizes} {l : LinkId} {f : Frame} {i : Instr} (h : decodeFrameIn l f = .ok i) :
    storeOk z i := by
  unfold decodeFrameIn at h
  split at h <;> split_ifs at h <;> cases h <;> exact trivial

theorem decodeFrameOut_storeOk {z : MemSizes} {l : LinkId} {cat id : Byte} {data : List Byte} {i : Instr}
    (h : decodeFrameOut l cat id data = .ok i) : storeOk z i := by
  unfold decodeFrameOut at h
  split at h
  case h_5 => cases h
  all_goals split_ifs at h <;> cases h <;> exact trivial

theorem decode_storeOk {z : MemSizes} {op : Op} {i : Instr} (h : decode z op = .ok i) : storeOk z i := by
  cases op with
  | bus t => exact decodeBus_storeOk h
  | frameIn l f => exact decodeFrameIn_storeOk h
  | frameOut l cat id data => exact decodeFrameOut_storeOk h

end Sys2Proof.Machine
end

section
/-! The step of the machine: what a step of any agent keeps (O57 to O60), that a run goes on until an abort (O3), and what
a held SPI stops (O4). -/

namespace Sys2Proof.Machine

/-! ### The gates -/

/-- What the gate of any agent answers: the state as it was, for a transaction that waits, or the operation's effect. -/
theorem gateOf_cases {op : Op} {f : State → State} {s t : State} (h : gateOf op f s = .next t) : t = s ∨ t = f s := by
  cases op with
  | bus _ =>
    obtain ⟨-, ⟨-, held⟩ | ⟨-, served⟩⟩ := runBus_cases h
    · exact .inl held
    · exact .inr served
  | frameIn _ _ => exact .inr (runAgent_cases h).2
  | frameOut _ _ _ _ => exact .inr (runAgent_cases h).2

theorem gateOf_live (op : Op) (f : State → State) {s : State} (live : s.fault = none) : ∃ t, gateOf op f s = .next t := by
  cases op with
  | bus _ => cases held : s.held with
    | true => exact ⟨_, runBus_held live held⟩
    | false => exact ⟨_, runBus_served live held⟩
  | frameIn _ _ => exact ⟨_, runAgent_live live⟩
  | frameOut _ _ _ _ => exact ⟨_, runAgent_live live⟩

theorem gateOf_aborted (op : Op) (f : State → State) {s : State} {e : Fault} (aborted : s.fault = some e) :
    gateOf op f s = .fault e := by
  cases op with
  | bus _ => exact runBus_aborted aborted
  | frameIn _ _ => exact runAgent_aborted aborted
  | frameOut _ _ _ _ => exact runAgent_aborted aborted

/-- The operation of any instruction the decoder answers keeps the relation. -/
theorem exec_evolves {s t : State} {op : Op} {i : Instr} (decoded : decode s.params.sizes op = .ok i)
    (h : exec i s = .next t) : s.Evolves t := by
  obtain ⟨f, row, evolves⟩ := exec_eq_gateOf i
  rw [row] at h
  rcases gateOf_cases h with rfl | rfl
  · exact .refl _
  · exact evolves s (decode_storeOk decoded)

/-- From a live machine every operation answers a next state (R770). -/
theorem exec_live {s : State} (i : Instr) (live : s.fault = none) : ∃ t, exec i s = .next t := by
  obtain ⟨f, row, -⟩ := exec_eq_gateOf i
  rw [row]
  exact gateOf_live _ f live

/-- An aborted machine runs no operation (R770). -/
theorem exec_aborted {s : State} {e : Fault} (i : Instr) (aborted : s.fault = some e) : exec i s = .fault e := by
  obtain ⟨f, row, -⟩ := exec_eq_gateOf i
  rw [row]
  exact gateOf_aborted _ f aborted

/-- A transaction waits while an SPI awaits its echo (R390). -/
theorem exec_held {s : State} {i : Instr} {t : BusTxn} (live : s.fault = none) (held : s.held = true)
    (bus : encode i = .bus t) : exec i s = .next s := by
  obtain ⟨f, row, -⟩ := exec_eq_gateOf i
  rw [row, bus]
  exact runBus_held live held

/-! ### A frame and its buffer -/

/-- A byte that completes no frame leaves the buffer short of one (R723, R725). -/
theorem inbufOk_append {buf : List Byte} {b : Byte} (ok : inbufOk buf) (incomplete : frameOf (buf ++ [b]) = none) :
    inbufOk (buf ++ [b]) := by
  match buf with
  | [] | [_] | [_, _] => exact trivial
  | [_, _, _] =>
    simp only [frameOf, List.cons_append, List.nil_append, List.length_nil] at incomplete
    simp only [inbufOk, List.cons_append, List.nil_append, List.length_nil]
    split at incomplete
    · cases incomplete
    · omega
  | _ :: _ :: _ :: len :: payload =>
    simp only [frameOf, List.cons_append, List.length_append, List.length_singleton] at incomplete
    simp only [inbufOk, List.cons_append, List.length_append, List.length_singleton] at ok ⊢
    split at incomplete
    · cases incomplete
    · omega

/-- A partial frame is at most a header and 254 bytes (R723). -/
theorem length_le_of_inbufOk {buf : List Byte} (ok : inbufOk buf) : buf.length ≤ 258 := by
  match buf with
  | [] | [_] | [_, _] | [_, _, _] => simp
  | _ :: _ :: _ :: len :: payload =>
    have := len.isLt
    simp only [inbufOk] at ok
    simp only [List.length_cons]
    omega

/-! ### What a step keeps -/

/-- `State.Evolves` for whole steps: the buffers of the links change, but stay short of a frame. -/
structure State.StepKeeps (s t : State) : Prop where
  params : t.params = s.params
  mem : Memory.wf s.mem = true →
    Memory.wf t.mem = true ∧ ∀ a, inRom s.params.sizes a = true → t.byteAt a = s.byteAt a
  aic : s.aic.Consistent → t.aic.Consistent
  links : s.linksOk → t.linksOk

namespace State

variable {s t r : State}

theorem Evolves.stepKeeps (h : s.Evolves t) : s.StepKeeps t :=
  ⟨h.params, h.mem, h.aic, fun ok l => by rw [h.inbuf l]; exact ok l⟩

theorem StepKeeps.refl (s : State) : s.StepKeeps s := (Evolves.refl s).stepKeeps

theorem StepKeeps.trans (st : s.StepKeeps t) (tr : t.StepKeeps r) : s.StepKeeps r := by
  refine ⟨tr.params.trans st.params, fun hs => ?_, tr.aic ∘ st.aic, tr.links ∘ st.links⟩
  obtain ⟨t_wf, t_rom⟩ := st.mem hs
  obtain ⟨r_wf, r_rom⟩ := tr.mem t_wf
  exact ⟨r_wf, fun a ha => (r_rom a (by rwa [st.params])).trans (t_rom a ha)⟩

/-- The server of a link may change, if its buffer stays short of a frame. -/
theorem StepKeeps.setLink (l : LinkId) {y : Iox} (inbuf : inbufOk (s.link l).inbuf → inbufOk y.inbuf) :
    s.StepKeeps (s.setLink l y) := by
  refine ⟨rfl, fun h => ⟨h, fun _ _ => rfl⟩, id, fun ok j => ?_⟩
  by_cases hj : j = l
  · rw [hj, State.setLink_link_same]; exact inbuf (ok l)
  · rw [State.setLink_link_ne _ _ _ _ hj]; exact ok j

end State

theorem rejectTxn_keeps {s t : State} {x : BusTxn} {r : Reject} (h : rejectTxn x r s = .next t) : s.StepKeeps t := by
  unfold rejectTxn at h
  have raised (e : State → Fault) (ran : runBus (fun s => s.raise (e s)) s = .next t) : s.StepKeeps t := by
    obtain ⟨-, ⟨-, rfl⟩ | ⟨-, rfl⟩⟩ := runBus_cases ran
    · exact .refl _
    · exact ((State.Evolves.raise _).2 (.refl s)).stepKeeps
  split at h
  · exact raised (fun s => .reserved x.addr (s.redirect x.addr) x.dir x.size x.wdata) h
  · exact raised (fun s => .accessSize (s.redirect x.addr) x.size) h
  next p off => exact raised (fun _ => .undefOffset p off x.dir x.wdata) h
  next p off =>
    split at h
    · exact raised (fun _ => .accessDir p off x.dir x.wdata) h
    · split at h
      · cases h
      · obtain ⟨-, ⟨-, rfl⟩ | ⟨-, rfl⟩⟩ := runBus_cases h <;> exact .refl _
  · cases h; exact .refl s
  · cases h; exact .refl s

theorem runTxn_keeps {s t : State} {x : BusTxn} (h : runTxn x s = .next t) : s.StepKeeps t := by
  unfold runTxn at h
  split at h
  next decoded => exact (exec_evolves decoded h).stepKeeps
  · exact rejectTxn_keeps h

theorem handleFrame_keeps {s t : State} {l : LinkId} {f : Frame} (h : handleFrame l f s = .next t) : s.StepKeeps t := by
  unfold handleFrame at h
  split at h
  next decoded => exact (exec_evolves decoded h).stepKeeps
  · cases h; exact .refl s

theorem runTransmit_keeps {s t : State} {l : LinkId} {cat id : Byte} {data : List Byte}
    (h : runTransmit l cat id data s = .next t) : s.StepKeeps t := by
  unfold runTransmit at h
  split at h
  next decoded => exact (exec_evolves decoded h).stepKeeps
  · cases h; exact .refl s

theorem feedByte_keeps {s t : State} {l : LinkId} {b : Byte} (h : feedByte l b s = .next t) : s.StepKeeps t := by
  simp only [feedByte] at h
  split at h
  · have emptied : s.StepKeeps (s.setLink l { s.link l with inbuf := [] }) := .setLink l fun _ => trivial
    exact emptied.trans (handleFrame_keeps h)
  next incomplete => cases h; exact .setLink l fun ok => inbufOk_append ok incomplete

theorem feed_keeps {l : LinkId} {bs : List Byte} {s t : State} (h : feed l bs s = .next t) : s.StepKeeps t := by
  induction bs generalizing s with
  | nil => cases h; exact .refl _
  | cons b bs ih =>
    unfold feed at h
    split at h
    next first =>
      split at h
      · cases h; exact feedByte_keeps first
      · exact (feedByte_keeps first).trans (ih h)
    · cases h
    · cases h

theorem dbguInput_evolves {s t : State} (b : Byte) (h : s.Evolves t) : s.Evolves (dbguInput b t) := by
  simp [dbguInput, h]

theorem runInput_keeps {s t : State} {i : Input} (h : runInput i s = .next t) : s.StepKeeps t := by
  cases i with
  | bus x => exact runTxn_keeps h
  | bytes l bs =>
    simp only [runInput] at h
    split at h
    · exact feed_keeps h
    · cases h; exact .refl s
  | transmit l cat id data => exact runTransmit_keeps h
  | connect l => cases h; exact .setLink l id
  | disconnect l => cases h; exact .setLink l fun _ => trivial
  | take l => cases h; exact .setLink l id
  | linkError l e => cases h; exact ((State.Evolves.raise _).2 (.refl s)).stepKeeps
  | tick c => cases h; exact (runTick_evolves c (.refl s)).stepKeeps
  | twiFlush => cases h; exact (State.Evolves.ite (twiFlush_evolves (.refl s)) (.refl s)).stepKeeps
  | console b => cases h; exact (dbguInput_evolves b (.refl s)).stepKeeps
  | pin n level => cases h; exact (State.Evolves.ite (driveLine_evolves n level (.refl s)) (.refl s)).stepKeeps
  | sdResponse c r => cases h; exact ((State.Evolves.setSd _).2 (.refl s)).stepKeeps
  | sdData c bs => cases h; exact ((State.Evolves.setSd _).2 (.refl s)).stepKeeps
  | sdReady c b => cases h; exact ((State.Evolves.setSd _).2 (.refl s)).stepKeeps
  | socReset => cases h; exact (socReset_evolves (.refl s)).stepKeeps

theorem step_keeps {s t : State} (h : step s = .next t) : s.StepKeeps t := by
  unfold step agentStep at h
  split at h
  · cases h
  · split at h
    · cases h; exact .refl s
    next i rest _ => exact ((State.Evolves.setInputs rest).2 (.refl s)).stepKeeps.trans (runInput_keeps h)

/-! ### The agents' order -/

/-- Nothing but waiting transactions: no agent moves (R390). -/
theorem nextInput_all_bus {l : List Input} (bus : ∀ i, i ∈ l → isBusInput i = true) : nextInput true l = none := by
  induction l with
  | nil => rfl
  | cons i l ih =>
    have head := bus i (by simp)
    simp [nextInput, head, ih fun j hj => bus j (by simp [hj])]

/-- The first step of another agent goes ahead of the waiting transactions (R390). -/
theorem nextInput_past_bus {waiting : List Input} (rest : List Input) {i : Input}
    (bus : ∀ j, j ∈ waiting → isBusInput j = true) (other : isBusInput i = false) :
    nextInput true (waiting ++ i :: rest) = some (i, waiting ++ rest) := by
  induction waiting with
  | nil => simp [nextInput, other]
  | cons j waiting ih =>
    have head := bus j (by simp)
    simp [nextInput, head, ih fun k hk => bus k (by simp [hk])]

/-- The step of a live machine is that of the first agent in the order. -/
theorem step_of_nextInput {s : State} {i : Input} {rest : List Input} (live : s.fault = none)
    (next : nextInput s.held s.inputs = some (i, rest)) : step s = runInput i (s.setInputs rest) := by
  simp only [step, agentStep, live, next]

end Sys2Proof.Machine

namespace Sys2Proof

open Machine

/-- Settles O57: the canonical form is one of the components every step keeps. -/
theorem stepKeepsMemoryForm : Obligations.StepKeepsMemoryForm :=
  fun _ _ ok stepped => ((step_keeps stepped).mem ok).1

/-- Settles O58: no step stores to a byte of a `rom` region. -/
theorem stepKeepsRomAndParameters : Obligations.StepKeepsRomAndParameters := by
  intro s t ok stepped
  have kept := step_keeps stepped
  exact ⟨kept.params, fun a rom => (kept.mem ok).2 a ((inRom_iff _ a).2 rom)⟩

/-- Settles O59: every change of the AIC ends with its outputs recomputed, within its bounds. -/
theorem stepKeepsAicConsistent : Obligations.StepKeepsAicConsistent := by
  intro s t ok stepped
  exact t.aicOk_iff.2 ((step_keeps stepped).aic (s.aicOk_iff.1 ok))

/-- Settles O60: a frame leaves the buffer with the byte that completes it. -/
theorem stepKeepsBuffersPartial : Obligations.StepKeepsBuffersPartial :=
  ⟨fun _ _ ok stepped => (step_keeps stepped).links ok, fun _ l ok => length_le_of_inbufOk (ok l)⟩

/-- Settles O3: every row is a gate over an operation, and only an abort shuts a gate. -/
theorem operationsAnswerUntilAbort : Obligations.OperationsAnswerUntilAbort := by
  refine ⟨fun s i live => exec_live i live, fun s e aborted => ⟨?_, fun i => exec_aborted i aborted⟩⟩
  simp [step, agentStep, aborted]

/-- Settles O4: the gate of a transaction waits, and the order passes over what waits. -/
theorem holdStopsOnlyTheCpu : Obligations.HoldStopsOnlyTheCpu := by
  refine ⟨?waits, ?idle, ?passes⟩
  case waits => exact fun s i t live held bus => exec_held live held bus
  case idle =>
    intro s live held bus
    simp [step, agentStep, live, held, nextInput_all_bus bus]
  case passes =>
    intro s waiting rest i live held bus other inputs
    exact step_of_nextInput live (by rw [held, inputs]; exact nextInput_past_bus rest bus other)

end Sys2Proof
end

section
/-! Decode of encode (O5). The regions of the map stand in order and do not meet (R83), so a row's address selects its own
region; behind that the rows differ only in what their register map answers. -/

namespace Sys2Proof

/-- The regions stand in the order of their addresses, none meeting the next (R83, R86). -/
theorem regionMap_ordered {z : MemSizes} (hz : z.ok = true) :
    (regionMap z).Pairwise fun r r' => r.base + r.size ≤ r'.base := by
  simp only [MemSizes.ok, Bool.and_eq_true, decide_eq_true_eq] at hz
  obtain ⟨nor, sdram⟩ := hz
  simp only [regionMap, List.pairwise_cons, List.mem_cons, List.not_mem_nil, or_false, forall_eq_or_imp, forall_eq,
    List.Pairwise.nil, and_true, false_implies, implies_true]
  omega

/-- In an ordered list the region that holds an address is the first that does. -/
theorem regionIn_of_mem {rs : List Region} {r : Region} {a : Nat} (ordered : rs.Pairwise fun r r' => r.base + r.size ≤ r'.base)
    (row : r ∈ rs) (holds : r.holds a = true) : regionIn a rs = some r := by
  induction rs with
  | nil => cases row
  | cons first rs ih =>
    obtain ⟨before, ordered⟩ := List.pairwise_cons.1 ordered
    rcases List.mem_cons.1 row with rfl | later
    · exact regionIn_of_holds holds
    · have apart := before r later
      simp only [Region.holds, Bool.and_eq_true, decide_eq_true_eq] at holds
      rw [Machine.regionIn_skip rs (by omega)]
      exact ih ordered later

theorem regionOf_of_mem {z : MemSizes} {r : Region} {a : Word} (hz : z.ok = true) (row : r ∈ regionMap z)
    (low : r.base ≤ a.toNat) (high : a.toNat < r.base + r.size) : regionOf z a = some r :=
  regionIn_of_mem (regionMap_ordered hz) row (by simp [Region.holds, low, high])

/-- An address that a mask selects lies in the region the mask describes (R123). -/
theorem regionOf_of_selects {z : MemSizes} {mask pattern a : Word} {kind : RegionKind} (hz : z.ok = true)
    (row : ⟨pattern.toNat, (~~~mask).toNat + 1, kind⟩ ∈ regionMap z) (sel : selects mask pattern a = true) :
    regionOf z a = some ⟨pattern.toNat, (~~~mask).toNat + 1, kind⟩ := by
  obtain ⟨low, high⟩ := selects_bounds sel
  exact regionOf_of_mem hz row low (by simp only; omega)

/-- The windows of the peripherals, the rows of the map that no parameter moves. -/
def peripheralWindows : List Region := (regionMap ⟨0, 0⟩).drop 7

theorem regionOf_of_window {z : MemSizes} {r : Region} {a : Word} (hz : z.ok = true)
    (window : regionIn a.toNat peripheralWindows = some r) : regionOf z a = some r := by
  obtain ⟨row, holds⟩ := Machine.regionIn_some window
  exact regionIn_of_mem (regionMap_ordered hz) (List.mem_of_mem_drop (i := 7) row) holds

/-- A register row at an address written out: the window and the register it selects (R126). -/
theorem decode_register_row {z : MemSizes} {a v : Word} {dir : Dir} {i : Instr} {base size : Nat} {p : Peripheral}
    (hz : z.ok = true) (window : regionIn a.toNat peripheralWindows = some ⟨base, size, .mmio p⟩)
    (align : aligned .word a = true) (register : decodeRegister p (a.toNat - base) dir v = .register i) :
    decode z (.bus ⟨dir, a, 4, v⟩) = .ok i :=
  decodeBus_register (regionOf_of_window hz window) rfl (wordAccess_of rfl align) register

/-- A row of an unimplemented window (R160). -/
theorem decode_unimpl_row {z : MemSizes} {mask pattern a v : Word} {dir : Dir} {w : UnimplWindow} (hz : z.ok = true)
    (row : ⟨pattern.toNat, (~~~mask).toNat + 1, .unimpl w⟩ ∈ regionMap z)
    (wf : (selects mask pattern a && aligned .word a) = true) :
    decode z (.bus ⟨dir, a, 4, v⟩) = .ok (decodeUnimpl w dir a v) := by
  obtain ⟨sel, align⟩ := Bool.and_eq_true_iff.1 wf
  exact decodeBus_unimpl (regionOf_of_selects hz row sel) rfl (wordAccess_of rfl align)

/-- A row of a memory region that a mask describes (R86, R90). -/
theorem decode_memory_row {z : MemSizes} {mask pattern a v : Word} {dir : Dir} {m : MemRegion} {size : AccessSize}
    (hz : z.ok = true) (row : ⟨pattern.toNat, (~~~mask).toNat + 1, .memory m⟩ ∈ regionMap z)
    (wf : (selects mask pattern a && aligned size a) = true) :
    decode z (.bus ⟨dir, a, size.bytes, v⟩) = .ok (decodeMemory m dir a size v) := by
  obtain ⟨sel, align⟩ := Bool.and_eq_true_iff.1 wf
  exact decodeBus_memory (regionOf_of_selects hz row sel) rfl (memoryAccess_of rfl align)

/-- A row of a memory region whose size is a parameter (R86, R90). -/
theorem decode_sized_row {z : MemSizes} {base len : Nat} {a v : Word} {dir : Dir} {m : MemRegion} {size : AccessSize}
    (hz : z.ok = true) (row : ⟨base, len, .memory m⟩ ∈ regionMap z)
    (wf : (within base len a && aligned size a) = true) :
    decode z (.bus ⟨dir, a, size.bytes, v⟩) = .ok (decodeMemory m dir a size v) := by
  simp only [within, Bool.and_eq_true, decide_eq_true_eq] at wf
  obtain ⟨⟨low, high⟩, align⟩ := wf
  exact decodeBus_memory (regionOf_of_mem hz row low high) rfl (memoryAccess_of rfl align)

/-- A row of the bootmem window (R154). -/
theorem decode_bootmem_row {z : MemSizes} {a v : Word} {dir : Dir} {size : AccessSize} (hz : z.ok = true)
    (wf : (selects 0xFFF00000#32 0x00000000#32 a && aligned size a) = true) :
    decode z (.bus ⟨dir, a, size.bytes, v⟩) = match dir with
      | .read => .ok (.bootmemR a size)
      | .write => .ok (.bootmemW a size v) := by
  obtain ⟨sel, align⟩ := Bool.and_eq_true_iff.1 wf
  have row : (⟨(0x00000000#32).toNat, (~~~0xFFF00000#32).toNat + 1, .bootmem⟩ : Region) ∈ regionMap z := by
    simp [regionMap]
  exact decodeBus_bootmem (regionOf_of_selects hz row sel) rfl (memoryAccess_of rfl align)

/-- `SMR[n]` (R24). -/
theorem decode_aicSmr {z : MemSizes} (hz : z.ok = true) (n : Fin 32) (dir : Dir) (v : Word) :
    decode z (.bus ⟨dir, 0xFFFFF000#32 + BitVec.ofNat 32 (4 * n.val), 4, v⟩) = .ok (match dir with | .read => .aicSmrR n | .write => .aicSmrW n v) := by
  fin_cases n <;> cases dir <;> refine decode_register_row hz rfl rfl ?_ <;>
    simp only [Fin.reduceFinMk, Fin.isValue, Nat.reduceMul, BitVec.reduceAdd, BitVec.reduceToNat, Nat.reduceSub] <;> rfl

/-- `SVR[n]` (R24). -/
theorem decode_aicSvr {z : MemSizes} (hz : z.ok = true) (n : Fin 32) (dir : Dir) (v : Word) :
    decode z (.bus ⟨dir, 0xFFFFF080#32 + BitVec.ofNat 32 (4 * n.val), 4, v⟩) = .ok (match dir with | .read => .aicSvrR n | .write => .aicSvrW n v) := by
  fin_cases n <;> cases dir <;> refine decode_register_row hz rfl rfl ?_ <;>
    simp only [Fin.reduceFinMk, Fin.isValue, Nat.reduceMul, BitVec.reduceAdd, BitVec.reduceToNat, Nat.reduceSub] <;> rfl

/-- `CSR[k]` of the first SPI (R31). -/
theorem decode_spi0Csr {z : MemSizes} (hz : z.ok = true) (n : Fin 4) (dir : Dir) (v : Word) :
    decode z (.bus ⟨dir, 0xFFFC8030#32 + BitVec.ofNat 32 (4 * n.val), 4, v⟩) = .ok (match dir with | .read => .spi0CsrR n | .write => .spi0CsrW n v) := by
  fin_cases n <;> cases dir <;> refine decode_register_row hz rfl rfl ?_ <;>
    simp only [Fin.reduceFinMk, Fin.isValue, Nat.reduceMul, BitVec.reduceAdd, BitVec.reduceToNat, Nat.reduceSub] <;> rfl

/-- `CSR[k]` of the second SPI (R31). -/
theorem decode_spi1Csr {z : MemSizes} (hz : z.ok = true) (n : Fin 4) (dir : Dir) (v : Word) :
    decode z (.bus ⟨dir, 0xFFFCC030#32 + BitVec.ofNat 32 (4 * n.val), 4, v⟩) = .ok (match dir with | .read => .spi1CsrR n | .write => .spi1CsrW n v) := by
  fin_cases n <;> cases dir <;> refine decode_register_row hz rfl rfl ?_ <;>
    simp only [Fin.reduceFinMk, Fin.isValue, Nat.reduceMul, BitVec.reduceAdd, BitVec.reduceToNat, Nat.reduceSub] <;> rfl

/-- `RSPR[k]` (R35). -/
theorem decode_mciRspr {z : MemSizes} (hz : z.ok = true) (n : Fin 4) (v : Word) :
    decode z (.bus ⟨.read, 0xFFFA8020#32 + BitVec.ofNat 32 (4 * n.val), 4, v⟩) = .ok (.mciRsprR n) := by
  fin_cases n <;> refine decode_register_row hz rfl rfl ?_ <;>
    simp only [Fin.reduceFinMk, Fin.isValue, Nat.reduceMul, BitVec.reduceAdd, BitVec.reduceToNat, Nat.reduceSub] <;> rfl

/-- Settles O5: the rows at symbolic addresses by the mask or the bounds of their region, an array of registers entry by
entry, and every other register row, and every frame, by its written address or its codes. -/
theorem decodeOfEncode : Obligations.DecodeOfEncode := by
  intro z i hz wf
  cases i
  case bootmemR | bootmemW => exact decode_bootmem_row hz wf
  case romR | romW => exact decode_memory_row (m := .rom) hz (by simp [regionMap]) wf
  case sram0R | sram0W => exact decode_memory_row (m := .sram0) hz (by simp [regionMap]) wf
  case sram1R | sram1W => exact decode_memory_row (m := .sram1) hz (by simp [regionMap]) wf
  case norR | norW => exact decode_sized_row (m := .nor) hz (by simp [regionMap]) wf
  case sdramR | sdramW => exact decode_sized_row (m := .sdram) hz (by simp [regionMap]) wf
  case unimplUhpR | unimplUhpW => exact decode_unimpl_row (w := .uhp) hz (by simp [regionMap]) wf
  case unimplUdpR | unimplUdpW => exact decode_unimpl_row (w := .udp) hz (by simp [regionMap]) wf
  case unimplSscR | unimplSscW => exact decode_unimpl_row (w := .ssc) hz (by simp [regionMap]) wf
  case unimplIsiR | unimplIsiW => exact decode_unimpl_row (w := .isi) hz (by simp [regionMap]) wf
  case unimplEmacR | unimplEmacW => exact decode_unimpl_row (w := .emac) hz (by simp [regionMap]) wf
  case unimplAdcR | unimplAdcW => exact decode_unimpl_row (w := .adc) hz (by simp [regionMap]) wf
  case unimplEccR | unimplEccW => exact decode_unimpl_row (w := .ecc) hz (by simp [regionMap]) wf
  case unimplSmcR | unimplSmcW => exact decode_unimpl_row (w := .smc) hz (by simp [regionMap]) wf
  case unimplShdwcR | unimplShdwcW => exact decode_unimpl_row (w := .shdwc) hz (by simp [regionMap]) wf
  case unimplWdtR | unimplWdtW => exact decode_unimpl_row (w := .wdt) hz (by simp [regionMap]) wf
  case unimplGpbrR | unimplGpbrW => exact decode_unimpl_row (w := .gpbr) hz (by simp [regionMap]) wf
  case aicSmrR n | aicSmrW n v => exact decode_aicSmr hz n _ _
  case aicSvrR n | aicSvrW n v => exact decode_aicSvr hz n _ _
  case spi0CsrR k | spi0CsrW k v => exact decode_spi0Csr hz k _ _
  case spi1CsrR k | spi1CsrW k v => exact decode_spi1Csr hz k _ _
  case mciRsprR k => exact decode_mciRspr hz k _
  case usartDataIn | usartDataOut | usartFaultOvre | usartFaultFrame | usartFaultPare | usartFaultTimeout | spiDataIn
      | spiDataOut | spiFaultModf | spiFaultOvres | twiDataIn | twiDataOut | twiCtrlStart | twiCtrlStop | twiFaultOvre
      | twiFaultNack | twiFaultArblst | pioPinstateEnable | pioPinstateDisable | pioPinstateOut | pioPinstateGet
      | sdramcFaultRes => rfl
  all_goals
    refine decode_register_row hz rfl rfl ?_
    simp only [BitVec.reduceToNat, Nat.reduceSub]
    rfl

end Sys2Proof
end

section
/-! The links: what a byte stream does, frame by frame (R723, R725), how a transmission is cut (R732), and the servers'
own steps. From this O2, O54, O55 and O56. -/

namespace Sys2Proof.Machine

/-! ### Bytes of the client -/

/-- A byte of a live link is taken (R723): a frame it completes answers, listed or not. -/
theorem feedByte_live {s : State} (l : LinkId) (b : Byte) (live : s.fault = none) : ∃ t, feedByte l b s = .next t := by
  simp only [feedByte]
  split
  · unfold handleFrame
    split
    · exact exec_live _ live
    · exact ⟨_, rfl⟩
  · exact ⟨_, rfl⟩

/-- A stream that continues one is fed to the state the first part left, unless that aborted (R723, R770). -/
theorem feed_append {s : State} (l : LinkId) (bs cs : List Byte) (live : s.fault = none) :
    ∃ t, feed l bs s = .next t ∧ feed l (bs ++ cs) s = if t.fault.isSome then .next t else feed l cs t := by
  induction bs generalizing s with
  | nil => exact ⟨s, rfl, by simp [live]⟩
  | cons b bs ih =>
    obtain ⟨t, taken⟩ := feedByte_live l b live
    cases aborted : t.fault with
    | some e => exact ⟨t, by simp [feed, taken, aborted], by simp [feed, taken, aborted]⟩
    | none =>
      obtain ⟨u, fed, appended⟩ := ih aborted
      exact ⟨u, by simp [feed, taken, aborted, fed], by simp [feed, taken, aborted, appended]⟩

/-! ### A whole frame -/

/-- The last bytes of a payload complete the frame (R725). -/
theorem feed_payload {s : State} {l : LinkId} {seq cat id len : Byte} {got rest : List Byte} (live : s.fault = none)
    (buffer : (s.link l).inbuf = seq :: cat :: id :: len :: got) (some_left : rest ≠ [])
    (total : got.length + rest.length = len.toNat) :
    feed l rest s = handleFrame l ⟨seq, cat, id, got ++ rest⟩ (s.setLink l { s.link l with inbuf := [] }) := by
  induction rest generalizing s got with
  | nil => exact absurd rfl some_left
  | cons b rest ih =>
    cases rest with
    | nil =>
      have complete : feedByte l b s
          = handleFrame l ⟨seq, cat, id, got ++ [b]⟩ (s.setLink l { s.link l with inbuf := [] }) := by
        simp [feedByte, frameOf, buffer, ← total]
      have whole : feed l [b] s = feedByte l b s := by
        obtain ⟨t, taken⟩ := feedByte_live l b live
        simp [feed, taken]
      rw [whole, complete]
    | cons c rest =>
      have partly : feedByte l b s = .next (s.setLink l { s.link l with inbuf := (s.link l).inbuf ++ [b] }) := by
        have short : got.length + 1 ≠ len.toNat := by simp only [List.length_cons] at total; omega
        simp [feedByte, frameOf, buffer, short]
      have next := ih (s := s.setLink l { s.link l with inbuf := (s.link l).inbuf ++ [b] }) (got := got ++ [b]) live
        (by simp [buffer]) (by simp) (by simp only [List.length_append, List.length_cons, List.length_nil] at total ⊢; omega)
      unfold feed
      simp only [partly, State.setLink_fault, live, Option.isSome_none, Bool.false_eq_true, if_false]
      simpa using next

/-- The header of a frame completes nothing but a frame of no payload (R725). -/
theorem feedByte_header {s : State} {l : LinkId} (b : Byte) (short : (s.link l).inbuf.length < 3) :
    feedByte l b s = .next (s.setLink l { s.link l with inbuf := (s.link l).inbuf ++ [b] }) := by
  have incomplete : frameOf ((s.link l).inbuf ++ [b]) = none := by
    generalize (s.link l).inbuf = buffer at short
    match buffer with
    | [] | [_] | [_, _] => rfl
    | _ :: _ :: _ :: _ => simp only [List.length_cons] at short; omega
  simp only [feedByte, incomplete]

theorem feed_header {s : State} {l : LinkId} (b : Byte) (bs : List Byte) (live : s.fault = none)
    (short : (s.link l).inbuf.length < 3) :
    feed l (b :: bs) s = feed l bs (s.setLink l { s.link l with inbuf := (s.link l).inbuf ++ [b] }) := by
  simp [feed, feedByte_header b short, live]

/-- The bytes of one frame, to an empty buffer, are that frame (R723, R725). -/
theorem feed_frameBytes {s : State} {l : LinkId} {f : Frame} (live : s.fault = none) (empty : (s.link l).inbuf = [])
    (fits : f.payload.length ≤ 255) : feed l (frameBytes f) s = handleFrame l f s := by
  obtain ⟨seq, cat, id, payload⟩ := f
  have same : s.setLink l { s.link l with inbuf := [] } = s := by
    conv_rhs => rw [← State.setLink_self s l]
    rw [← empty]
  have len : (BitVec.ofNat 8 payload.length).toNat = payload.length := by
    rw [BitVec.toNat_ofNat, Nat.mod_eq_of_lt (Nat.lt_succ_of_le fits)]
  unfold frameBytes
  rw [feed_header _ _ live (by simp [empty]), feed_header _ _ (by simpa using live) (by simp [empty]),
    feed_header _ _ (by simpa using live) (by simp [empty])]
  simp only [State.setLink_link_same, State.setLink_setLink, empty, List.nil_append, List.cons_append]
  cases payload with
  | nil =>
    have last : feedByte l 0#8 (s.setLink l { s.link l with inbuf := [seq, cat, id] })
        = handleFrame l ⟨seq, cat, id, []⟩ (s.setLink l { s.link l with inbuf := [] }) := by
      simp [feedByte, frameOf]
    obtain ⟨t, taken⟩ := feedByte_live (s := s.setLink l { s.link l with inbuf := [seq, cat, id] }) l 0#8 live
    have fed : handleFrame l ⟨seq, cat, id, []⟩ s = .next t := by rw [← taken, last, same]
    simp [feed, taken, fed]
  | cons b rest =>
    have partly (len : Byte) (some_left : 0 ≠ len.toNat) :
        feedByte l len (s.setLink l { s.link l with inbuf := [seq, cat, id] })
        = .next (s.setLink l { s.link l with inbuf := [seq, cat, id, len] }) := by
      simp [feedByte, frameOf, some_left]
    rw [feed]
    simp only [partly _ (by rw [len]; simp), State.setLink_fault, live, Option.isSome_none, Bool.false_eq_true, if_false]
    rw [feed_payload (seq := seq) (cat := cat) (id := id) (len := BitVec.ofNat 8 (b :: rest).length) (got := [])
      (by simpa using live) (by simp) (by simp) (by rw [len]; simp)]
    simp [same]

/-! ### The cut of a transmission -/

theorem chunks_flatten (fuel : Nat) (bs : List Byte) : (chunks fuel bs).flatten = bs := by
  induction fuel generalizing bs with
  | zero => simp [chunks]
  | succ fuel ih => unfold chunks; split <;> simp [ih]

theorem chunks_ne_nil (fuel : Nat) (bs : List Byte) : chunks fuel bs ≠ [] := by
  cases fuel with
  | zero => simp [chunks]
  | succ fuel => unfold chunks; split <;> simp

/-- Every piece but the last is full. -/
theorem chunks_full {fuel : Nat} {bs : List Byte} {i : Nat} {c : List Byte} (piece : (chunks fuel bs)[i]? = some c)
    (more : i + 1 < (chunks fuel bs).length) : c.length = 255 := by
  induction fuel generalizing bs i with
  | zero => simp [chunks] at more
  | succ fuel ih =>
    unfold chunks at piece more
    split at piece
    next short => simp [short] at more
    next long =>
      rw [if_neg long] at more
      cases i with
      | zero =>
        simp only [List.getElem?_cons_zero, Option.some.injEq] at piece
        rw [← piece, List.length_take]
        simp only [Config.ioxMaxPayload] at long ⊢
        omega
      | succ i =>
        simp only [List.getElem?_cons_succ, List.length_cons] at piece more
        exact ih piece (by omega)

/-- The last piece holds what is left, so it is empty only where there is nothing. -/
theorem chunks_getLast {fuel : Nat} {bs : List Byte} {c : List Byte} (enough : bs.length ≤ fuel)
    (last : (chunks fuel bs).getLast? = some c) : c.length ≤ 255 ∧ (bs ≠ [] → c ≠ []) := by
  induction fuel generalizing bs with
  | zero =>
    cases bs with
    | nil => simp [chunks] at last; simp [last]
    | cons b bs => simp at enough
  | succ fuel ih =>
    unfold chunks at last
    split at last
    next short =>
      simp only [List.getLast?_singleton, Option.some.injEq] at last
      rw [← last]
      exact ⟨short, id⟩
    next long =>
      simp only [Config.ioxMaxPayload] at long last
      rw [List.getLast?_cons_of_ne_nil (chunks_ne_nil _ _)] at last
      obtain ⟨bound, nonempty⟩ := ih (by simp only [List.length_drop]; omega) last
      refine ⟨bound, fun _ => nonempty ?_⟩
      rw [← List.length_pos_iff_ne_nil, List.length_drop]
      omega

/-! ### The first step of the order -/

/-- A step that is no transaction goes first in its place (R390). -/
theorem step_of_other {s : State} {i : Input} {rest : List Input} (live : s.fault = none) (inputs : s.inputs = i :: rest)
    (other : isBusInput i = false) : step s = runInput i (s.setInputs rest) :=
  step_of_nextInput live (by simp [inputs, nextInput, other])

/-- A transaction at the head of the order is served by a ready machine (R150). -/
theorem step_of_bus {s : State} {t : BusTxn} {rest : List Input} (ready : s.ready = true)
    (inputs : s.inputs = .bus t :: rest) : step s = runTxn t (s.setInputs rest) := by
  obtain ⟨live, idle⟩ := s.ready_iff.1 ready
  exact step_of_nextInput (i := .bus t) live (by simp [inputs, nextInput, idle])

end Sys2Proof.Machine

namespace Sys2Proof

open Machine

/-- Settles O56: bytes are taken one at a time, so a stream may be cut anywhere. -/
theorem frameBoundaryIndependence : Obligations.FrameBoundaryIndependence := by
  intro s l bs cs live
  obtain ⟨u, fed, appended⟩ := feed_append l bs cs live
  refine ⟨fun t first goes_on => ?_, fun t first aborted => ?_, u, fed⟩
  · cases fed.symm.trans first
    simpa [goes_on] using appended
  · cases fed.symm.trans first
    simpa [Option.isSome_iff_ne_none, aborted] using appended

/-- Settles O55: the pieces are those of `chunks`. -/
theorem multiframeTransmission : Obligations.MultiframeTransmission := by
  intro s l bs client
  refine ⟨chunks bs.length bs, ?_, chunks_flatten _ _, ?_, fun i c => chunks_full, fun c => chunks_getLast le_rfl⟩
  · simp [emitData, client, framePayloads, Config.ioxMaxPayload, and_assoc]
  · rintro rfl; rfl

/-- Settles O54: the cases of a connected and an unconnected link, then one step of the client for each input. -/
theorem linkServer : Obligations.LinkServer := by
  refine ⟨fun s l cat id payload => ⟨?noClient, ?client, ?mark⟩, ?replies, fun s l rest live => ⟨?connect, ?disconnect, ?take, ?error⟩⟩
  case noClient => intro client; simp [emit, emitData, client]
  case client => intro client; simp [emit, client]
  case mark => simp
  case replies => intro s l seq v; rfl
  case connect => intro inputs; exact step_of_other live inputs rfl
  case disconnect => intro inputs; exact step_of_other live inputs rfl
  case take => intro inputs; exact step_of_other live inputs rfl
  case error => intro e inputs; exact ⟨_, step_of_other live inputs rfl, State.raise_fault _ _⟩

end Sys2Proof
end

section
/-! From a raw operation to its effect: a step runs what its transaction or its frame decodes to (O1, O2, O6), and what
is no row of the table is refused by name (O7). -/

namespace Sys2Proof.Machine

/-! ### Frames -/

/-- A whole frame delivered to an empty buffer is handled within the step (R723). -/
theorem step_of_frame {s : State} {l : LinkId} {f : Frame} {rest : List Input} (live : s.fault = none)
    (inputs : s.inputs = .bytes l (frameBytes f) :: rest) (client : (s.link l).client = true)
    (empty : (s.link l).inbuf = []) (fits : f.payload.length ≤ 255) : step s = handleFrame l f (s.setInputs rest) := by
  have connected : (s.setInputs rest).clientConnected l = true := client
  rw [step_of_other live inputs rfl]
  simp only [runInput, connected, if_true]
  exact feed_frameBytes live empty fits

theorem handleFrame_ok {s : State} {l : LinkId} {f : Frame} {i : Instr}
    (decoded : decode s.params.sizes (.frameIn l f) = .ok i) : handleFrame l f s = exec i s := by
  simp only [handleFrame, decoded]

theorem handleFrame_reject {s : State} {l : LinkId} {f : Frame} {r : Reject}
    (decoded : decode s.params.sizes (.frameIn l f) = .reject r) : handleFrame l f s = .next s := by
  simp only [handleFrame, decoded]

/-- The frames a client may send to the owner of a link (R133, R737). -/
def frameCodes : LinkId → List (Byte × Byte)
  | .usart _ => [(1, 1), (2, 1), (2, 2), (2, 3), (2, 4)]
  | .spi _ => [(1, 1), (2, 1), (2, 2)]
  | .twi => [(1, 1), (2, 1), (2, 2), (2, 3)]
  | .pio _ => [(1, 1), (1, 2), (1, 4)]
  | .sdramc => [(2, 1)]

theorem decodeFrameIn_of_mem {l : LinkId} {f : Frame} (listed : (f.cat, f.id) ∈ frameCodes l) :
    ∃ i, decodeFrameIn l f = .ok i := by
  cases l <;> simp only [frameCodes, List.mem_cons, List.not_mem_nil, or_false, Prod.mk.injEq] at listed
  case usart => rcases listed with ⟨c, i⟩ | ⟨c, i⟩ | ⟨c, i⟩ | ⟨c, i⟩ | ⟨c, i⟩ <;> simp [decodeFrameIn, c, i]
  case spi => rcases listed with ⟨c, i⟩ | ⟨c, i⟩ | ⟨c, i⟩ <;> simp [decodeFrameIn, c, i]
  case twi => rcases listed with ⟨c, i⟩ | ⟨c, i⟩ | ⟨c, i⟩ | ⟨c, i⟩ <;> simp [decodeFrameIn, c, i]
  case pio => rcases listed with ⟨c, i⟩ | ⟨c, i⟩ | ⟨c, i⟩ <;> simp [decodeFrameIn, c, i]
  case sdramc => obtain ⟨c, i⟩ := listed; simp [decodeFrameIn, c, i]

theorem decodeFrameIn_of_not_mem {l : LinkId} {f : Frame} (unlisted : (f.cat, f.id) ∉ frameCodes l) :
    decodeFrameIn l f = .reject .unknownFrame := by
  cases l <;> simp only [frameCodes, List.mem_cons, List.not_mem_nil, or_false, Prod.mk.injEq, not_or] at unlisted <;>
    simp only [decodeFrameIn, BitVec.ofNat_eq_ofNat] at unlisted ⊢ <;> simp only [unlisted, if_false]

/-! ### Transactions -/

/-- The bootmem window is the region of the map's first row (R86, R153). -/
theorem regionOf_bootmem_iff {z : MemSizes} {a : Word} :
    (∃ r, regionOf z a = some r ∧ r.kind = .bootmem) ↔ inBootWindow a = true := by
  simp only [inBootWindow, decide_eq_true_eq]
  constructor
  · rintro ⟨r, region, kind⟩
    obtain ⟨row, holds⟩ := regionIn_some region
    simp only [Region.holds, Bool.and_eq_true, decide_eq_true_eq] at holds
    have first : r = ⟨0, 0x00100000, .bootmem⟩ := by
      simp only [regionMap, List.mem_cons, List.not_mem_nil, or_false] at row
      rcases row with rfl | row
      · rfl
      · repeat' (first | (rcases row with rfl | row) | subst row)
        all_goals cases kind
    subst first
    simpa using holds.2
  · intro low
    exact ⟨_, regionIn_found _ (Nat.zero_le _) (by simpa using low), rfl⟩

/-- An address outside the bootmem window is not redirected (R154). -/
theorem redirect_of_region {s : State} {a : Word}
    (region : ∀ r, regionOf s.params.sizes a = some r → r.kind ≠ .bootmem) : s.redirect a = a := by
  have outside : ¬ inBootWindow a = true := by
    rw [← regionOf_bootmem_iff (z := s.params.sizes)]
    rintro ⟨r, found, kind⟩
    exact region r found kind
  simp [State.redirect, outside]

theorem redirect_of_bootmem {s : State} {a : Word} {r : Region} (region : regionOf s.params.sizes a = some r)
    (kind : r.kind = .bootmem) : s.redirect a = bootBase s.bootTarget + a := by
  simp [State.redirect, regionOf_bootmem_iff.1 ⟨r, region, kind⟩]

theorem runTxn_ok {s : State} {t : BusTxn} {i : Instr} (decoded : decode s.params.sizes (.bus t) = .ok i) :
    runTxn t s = exec i s := by
  simp only [runTxn, decoded]

theorem runTxn_reject {s : State} {t : BusTxn} {r : Reject} (decoded : decodeBus s.params.sizes t = .reject r) :
    runTxn t s = rejectTxn t r s := by
  simp only [runTxn, decode, decoded]

/-- A gate of a ready machine over an abort (R770). -/
theorem runBus_raise {s : State} {e : State → Fault} (ready : s.ready = true) :
    ∃ u, runBus (fun s => s.raise (e s)) s = .next u ∧ u.fault = some (e s) :=
  ⟨_, runBus_ready ready, State.raise_fault _ _⟩

/-- A wrong size or alignment aborts with the address where it falls (R93, R94, R774). -/
theorem rejectTxn_accessSize {s : State} {t : BusTxn} {a : Word} (ready : s.ready = true) (address : s.redirect t.addr = a) :
    ∃ u, rejectTxn t .accessSize s = .next u ∧ u.fault = some (.accessSize a t.size) := by
  rw [← address]
  exact runBus_raise (e := fun s => .accessSize (s.redirect t.addr) t.size) ready

end Sys2Proof.Machine

namespace Sys2Proof

open Machine

/-- Settles O1: a ready machine serves the first transaction, and a frame of the owner needs no client. -/
theorem stepRunsDecodedOperation : Obligations.StepRunsDecodedOperation := by
  refine ⟨fun s t rest i ready inputs decoded => ?_, fun s l cat id data rest i live inputs decoded => ?_⟩
  · exact (step_of_bus ready inputs).trans (runTxn_ok decoded)
  · rw [step_of_other live inputs rfl]
    simp only [runInput, runTransmit, State.setInputs_params, decoded]

/-- Settles O2: the whole frame is handled as its owner's table says. -/
theorem stepRunsDecodedFrame : Obligations.StepRunsDecodedFrame := by
  refine ⟨?decoded, ?listed, ?noClient⟩
  case decoded =>
    intro s l f rest i live inputs client empty fits decoded
    exact (step_of_frame live inputs client empty fits).trans (handleFrame_ok decoded)
  case listed =>
    intro s l f rest live inputs client empty fits codes
    have handled := step_of_frame live inputs client empty fits
    have same : codes = frameCodes l := by cases l <;> rfl
    rw [same]
    refine ⟨fun listed => ?_, fun unlisted => ?_⟩
    · obtain ⟨i, decoded⟩ := decodeFrameIn_of_mem listed
      exact ⟨i, decoded, handled.trans (handleFrame_ok decoded)⟩
    · exact handled.trans (handleFrame_reject (decodeFrameIn_of_not_mem unlisted))
  case noClient =>
    intro s l bs rest live inputs client
    rw [step_of_other live inputs rfl]
    simp [runInput, State.clientConnected, client]

/-- Settles O6: each word is the raw form of its instruction, so O5 decodes it. -/
theorem decodeOfWrittenWords : Obligations.DecodeOfWrittenWords :=
  have decoded (i : Instr) (wf : i.wellFormed .iobc = true) : decode .iobc (encode i) = .ok i :=
    decodeOfEncode .iobc i rfl wf
  ⟨decoded .aicIsrR rfl, decoded (.aicSmrW 6 0x25#32) rfl, decoded (.usart0ThrW 0x141#32) rfl,
    decoded (.spi0TdrW 0xA5#32) rfl, decoded (.twiThrW 0xAA#32) rfl, decoded (.mciCmdrW 0x00050051#32) rfl,
    decoded .pitPivrR rfl, decoded (.pmcMckrW 1#32) rfl, decoded (.sdramR 0x20000003#32 .byte) rfl,
    decoded (.bootmemR 0x00000040#32 .word) rfl, decoded (.usartDataIn 3 0x05#8 [0x61#8]) rfl,
    decoded (.pioPinstateGet 1 0x05#8 []) rfl⟩

/-- Settles O7: what the decoder rejects, and the address the diagnostic names behind the bootmem redirection. -/
theorem invalidTransactionsAbort : Obligations.InvalidTransactionsAbort := by
  intro s t rest ready inputs
  have ready' : (s.setInputs rest).ready = true := ready
  have rejected {r : Reject} (decoded : decodeBus s.params.sizes t = .reject r) :
      step s = rejectTxn t r (s.setInputs rest) :=
    (step_of_bus ready inputs).trans (runTxn_reject decoded)
  have outside (region : ∀ r, regionOf s.params.sizes t.addr = some r → r.kind ≠ .bootmem) :
      (s.setInputs rest).redirect t.addr = t.addr := redirect_of_region region
  refine ⟨?reserved, ?reservedSize, ?registerSize, ?unimplSize, ?memorySize, ?bootmemSize, ?undefined, ?strict, ?lax⟩
  case reserved =>
    intro region word
    rw [rejected (decodeBus_reserved region word)]
    have raised := runBus_raise (e := fun u => .reserved t.addr (u.redirect t.addr) t.dir t.size t.wdata) ready'
    rwa [outside (by simp [region])] at raised
  case reservedSize =>
    intro region word
    rw [rejected (decodeBus_accessSize (by simp [region]) (by simp [region]) word)]
    exact rejectTxn_accessSize ready' (outside (by simp [region]))
  case registerSize =>
    intro r p region kind word
    rw [rejected (decodeBus_accessSize (by simp [region, kind])
      (fun _ _ found => by cases region.symm.trans found; simp [kind]) word)]
    exact rejectTxn_accessSize ready' (outside (by simp [region, kind]))
  case unimplSize =>
    intro r w region kind word
    rw [rejected (decodeBus_accessSize (by simp [region, kind])
      (fun _ _ found => by cases region.symm.trans found; simp [kind]) word)]
    exact rejectTxn_accessSize ready' (outside (by simp [region, kind]))
  case memorySize =>
    intro r m region kind access
    rw [rejected (r := .accessSize) (by simp [decodeBus, region, kind, access])]
    exact rejectTxn_accessSize ready' (outside (by simp [region, kind]))
  case bootmemSize =>
    intro r region kind access
    rw [rejected (r := .accessSize) (by simp [decodeBus, region, kind, access])]
    exact rejectTxn_accessSize ready' (redirect_of_bootmem region kind)
  case undefined =>
    intro r p region kind word register
    rw [rejected (r := .undefOffset p (t.addr.toNat - r.base)) (by simp [decodeBus, region, kind, word, register])]
    exact runBus_raise (e := fun _ => .undefOffset p (t.addr.toNat - r.base) t.dir t.wdata) ready'
  case strict =>
    intro r p region kind word register strict
    rw [rejected (r := .accessDir p (t.addr.toNat - r.base)) (by simp [decodeBus, region, kind, word, register])]
    simp only [rejectTxn, State.setInputs_params, strict, if_true]
    exact runBus_raise (e := fun _ => .accessDir p (t.addr.toNat - r.base) t.dir t.wdata) ready'
  case lax =>
    intro r p region kind word register lax
    rw [rejected (r := .accessDir p (t.addr.toNat - r.base)) (by simp [decodeBus, region, kind, word, register])]
    simp only [rejectTxn, State.setInputs_params, lax, Bool.false_eq_true, if_false]
    refine ⟨fun write => ?_, fun read => ?_⟩
    · rw [write]; exact runBus_ready ready'
    · rw [read]

end Sys2Proof
end

section
/-! CPU accesses to memory (R8, R90): which bytes an access touches, what it leaves where it runs past the end of its
region, and the redirection of the bootmem window. From this O11, O12 and O14. -/

namespace Sys2Proof.Machine

/-! ### Byte sequences -/

theorem State.loadBytes_eq_map (s : State) (p : Word) (n : Nat) :
    s.loadBytes p n = (List.range n).map fun k => s.byteAt (s.redirect (p + BitVec.ofNat 32 k)) := by
  induction n generalizing p with
  | zero => rfl
  | succ n ih =>
    rw [State.loadBytes, ih, List.range_succ_eq_map, List.map_cons, List.map_map]
    simp [Function.comp_def, ← Word.add_succ]

/-- The redirection is the boot target's, whatever memory holds (R154). -/
@[simp] theorem State.redirect_setMem (s : State) (m : List Host.Cell) (a : Word) : (s.setMem m).redirect a = s.redirect a :=
  rfl

/-- A stored byte stands where it was sent, unless a later one was sent there too (R8). -/
theorem State.storeBytes_at {s : State} {p : Word} {bs : List Byte} {k : Nat} {b : Byte} (h : Memory.wf s.mem = true)
    (hb : bs[k]? = some b)
    (last : ∀ j, k < j → j < bs.length → s.redirect (p + BitVec.ofNat 32 j) ≠ s.redirect (p + BitVec.ofNat 32 k)) :
    (s.storeBytes p bs).byteAt (s.redirect (p + BitVec.ofNat 32 k)) = b := by
  induction bs generalizing s p k with
  | nil => simp at hb
  | cons c bs ih =>
    have written : Memory.wf (Memory.write s.mem (s.redirect p).toNat c) = true := Memory.wf_write _ _ h
    rw [State.storeBytes]
    cases k with
    | zero =>
      simp only [List.getElem?_cons_zero, Option.some.injEq] at hb
      have kept := State.storeBytes_other (s := s.setMem (Memory.write s.mem (s.redirect p).toNat c)) (p + 1#32) bs written
        (s.redirect p).toNat fun j hj eq => by
          refine last (j + 1) (Nat.succ_pos j) (by simpa using hj) ?_
          rw [Word.add_succ]
          have same := BitVec.eq_of_toNat_eq eq
          simpa only [State.redirect_setMem, BitVec.add_zero] using same
      simp only [State.byteAt, BitVec.add_zero]
      rw [kept, ← hb]
      exact Memory.read_write_same (lo := 0) _ _ h
    | succ k =>
      rw [Word.add_succ p k]
      have stored := ih (s := s.setMem (Memory.write s.mem (s.redirect p).toNat c)) (p := p + 1#32) written
        (by simpa using hb) fun j hkj hj eq => by
          refine last (j + 1) (Nat.succ_lt_succ hkj) (by simpa using hj) ?_
          rw [Word.add_succ p j, Word.add_succ p k]
          exact eq
      rwa [State.redirect_setMem] at stored

/-- Where none of the bytes is sent, memory stays (R8). -/
theorem State.byteAt_storeBytes_other {s : State} {p : Word} {bs : List Byte} {x : Word} (h : Memory.wf s.mem = true)
    (other : ∀ k, k < bs.length → x ≠ s.redirect (p + BitVec.ofNat 32 k)) :
    (s.storeBytes p bs).byteAt x = s.byteAt x :=
  State.storeBytes_other p bs h x.toNat fun k hk eq => other k hk (BitVec.eq_of_toNat_eq eq.symm)

theorem leBytes_length (n : Nat) (v : Word) : (leBytes n v).length = n := by simp [leBytes]

theorem leBytes_getElem? {n k : Nat} (v : Word) (hk : k < n) : (leBytes n v)[k]? = some ((v >>> (8 * k)).setWidth 8) := by
  simp [leBytes, hk]

/-- The number of a byte sequence is the bytes side by side (R90). -/
theorem leNat_append_toNat (b : Byte) {w : Nat} (x : BitVec w) : b.toNat + 256 * x.toNat = (x ++ b).toNat := by
  rw [BitVec.toNat_append, Nat.shiftLeft_eq, Nat.mul_comm x.toNat, ← Nat.two_pow_add_eq_or_of_lt b.isLt]
  omega

theorem leWord_one (b0 : Byte) : leWord [b0] = b0.setWidth 32 := by
  apply BitVec.eq_of_toNat_eq
  simp [leWord, leNat]

theorem leWord_two (b0 b1 : Byte) : leWord [b0, b1] = (b1 ++ b0).setWidth 32 := by
  apply BitVec.eq_of_toNat_eq
  simp only [leWord, leNat, Nat.mul_zero, Nat.add_zero, leNat_append_toNat, BitVec.toNat_ofNat, BitVec.toNat_setWidth]

theorem leWord_four (b0 b1 b2 b3 : Byte) : leWord [b0, b1, b2, b3] = b3 ++ b2 ++ b1 ++ b0 := by
  apply BitVec.eq_of_toNat_eq
  simp only [leWord, leNat, Nat.mul_zero, Nat.add_zero, leNat_append_toNat, BitVec.toNat_ofNat]
  exact Nat.mod_eq_of_lt (BitVec.isLt _)

/-! ### The regions an access may run out of -/

/-- The addresses from `base` to `top` are memory, above the bootmem window, and memory ends at `top`, or `top` is a
whole number of words, so that no aligned access passes it (R86, R94). -/
structure Backed (z : MemSizes) (base top : Nat) : Prop where
  above : 0x00100000 ≤ base
  inside : ∀ x : Word, base ≤ x.toNat → x.toNat < top → (memoryAt z x).isSome = true
  ends : z.ok = true → top % 4 = 0 ∨
    top + (4 - top % 4) ≤ 2 ^ 32 ∧ ∀ x : Word, top ≤ x.toNat → x.toNat < top + (4 - top % 4) → memoryAt z x = none

theorem backed_rom (z : MemSizes) : Backed z 0x00100000 0x00108000 :=
  ⟨by decide, fun _ low high => by simp [memoryAt_rom z low high], fun _ => .inl (by decide)⟩

theorem backed_sram0 (z : MemSizes) : Backed z 0x00200000 0x00204000 :=
  ⟨by decide, fun _ low high => by simp [memoryAt_sram0 z low high], fun _ => .inl (by decide)⟩

theorem backed_sram1 (z : MemSizes) : Backed z 0x00300000 0x00304000 :=
  ⟨by decide, fun _ low high => by simp [memoryAt_sram1 z low high], fun _ => .inl (by decide)⟩

theorem backed_nor (z : MemSizes) : Backed z 0x10000000 (0x10000000 + z.nor) := by
  refine ⟨by decide, fun _ low high => by simp [memoryAt_nor low high], fun ok => ?_⟩
  simp only [MemSizes.ok, Bool.and_eq_true, decide_eq_true_eq] at ok
  by_cases whole : (0x10000000 + z.nor) % 4 = 0
  · exact .inl whole
  · exact .inr ⟨by omega, fun x low high => memoryAt_past_nor low (by omega)⟩

theorem backed_sdram (z : MemSizes) : Backed z 0x20000000 (0x20000000 + z.sdram) := by
  refine ⟨by decide, fun x low high => ?_, fun ok => ?_⟩
  · by_cases nor : x.toNat < 0x10000000 + z.nor
    · simp [memoryAt_nor (by omega) nor]
    · have region : regionOf z x = some ⟨0x20000000, z.sdram, .memory .sdram⟩ := by
        unfold regionOf regionMap
        iterate 6 rw [regionIn_skip _ (by simp; omega)]
        rw [regionIn_found _ (by simp; omega) (by simp; omega)]
      simp [memoryAt, region]
  · simp only [MemSizes.ok, Bool.and_eq_true, decide_eq_true_eq] at ok
    by_cases whole : (0x20000000 + z.sdram) % 4 = 0
    · exact .inl whole
    · exact .inr ⟨by omega, fun x low high => memoryAt_past_sdram ok.1 low (by omega)⟩

section

variable {s : State} {base top : Nat} {a : Word} {size : AccessSize}

/-- An access above the bootmem window is not redirected (R154). -/
theorem redirect_above {x : Word} (above : 0x00100000 ≤ x.toNat) : s.redirect x = x := by
  simp only [State.redirect, inBootWindow, decide_eq_true_eq]
  rw [if_neg (by omega)]

/-- The bytes of an aligned access above the bootmem window lie side by side (R94, R154). -/
theorem redirect_aligned (above : 0x00100000 ≤ a.toNat) (ha : aligned size a = true) {k : Nat} (hk : k < size.bytes) :
    s.redirect (a + BitVec.ofNat 32 k) = a + BitVec.ofNat 32 k :=
  redirect_above (by rw [aligned_no_wrap ha hk]; omega)

theorem Backed.readable (backed : Backed s.params.sizes base top) (low : base ≤ a.toNat) (ha : aligned size a = true)
    (fits : a.toNat + size.bytes ≤ top) : s.dmaAll (dmaReadable s.params.sizes) a size.bytes = true := by
  rw [State.dmaAll_iff]
  intro k hk
  have toNat := aligned_no_wrap ha hk
  rw [redirect_aligned (backed.above.trans low) ha hk]
  exact backed.inside _ (by omega) (by omega)

/-- An aligned access that starts inside passes the end only in the last, partial word (R94). -/
theorem Backed.firstOutside (backed : Backed s.params.sizes base top) (ok : s.params.sizes.ok = true)
    (low : base ≤ a.toNat) (high : a.toNat < top) (ha : aligned size a = true) (past : top < a.toNat + size.bytes) :
    s.firstOutside a size.bytes = some (BitVec.ofNat 32 top) := by
  have above := backed.above.trans low
  have hk : top - a.toNat < size.bytes := by omega
  have toNat := aligned_no_wrap ha hk
  have ends : memoryAt s.params.sizes (a + BitVec.ofNat 32 (top - a.toNat)) = none := by
    have fields := ha
    simp only [aligned, beq_iff_eq] at fields
    obtain whole | ⟨-, none⟩ := backed.ends ok
    · cases size <;> simp only [AccessSize.bytes] at fields past <;> omega
    · exact none _ (by omega) (by omega)
  have outside := State.firstOutside_at (s := s) (p := a) hk ?inside (by rwa [redirect_aligned above ha hk])
  case inside =>
    rw [State.dmaAll_iff]
    intro j hj
    have toNat := aligned_no_wrap ha (hj.trans hk)
    rw [redirect_aligned above ha (hj.trans hk)]
    exact backed.inside _ (by omega) (by omega)
  rw [outside, redirect_aligned above ha hk]
  congr 1
  apply BitVec.eq_of_toNat_eq
  have bound := (a + BitVec.ofNat 32 (top - a.toNat)).isLt
  rw [toNat] at bound ⊢
  rw [BitVec.toNat_ofNat]
  omega

/-- The bytes a read inside a region returns (R90). -/
theorem memRead_bytes (backed : Backed s.params.sizes base top) (low : base ≤ a.toNat) (ha : aligned size a = true)
    (fits : a.toNat + size.bytes ≤ top) :
    memRead a size s
      = s.setRdata (leWord ((List.range size.bytes).map fun k => s.byteAt (a + BitVec.ofNat 32 k))) := by
  rw [memRead_inside (backed.readable low ha fits), State.loadBytes_eq_map]
  congr 2
  refine List.map_congr_left fun k hk => ?_
  rw [redirect_aligned (backed.above.trans low) ha (by simpa using hk)]

theorem memAccess_past (backed : Backed s.params.sizes base top) (ok : s.params.sizes.ok = true) (low : base ≤ a.toNat)
    (high : a.toNat < top) (ha : aligned size a = true) (past : top < a.toNat + size.bytes) (dir : Dir) (v : Word)
    (f : State → State) :
    memAccess dir a size v f s = s.setFault (some (.reserved a (BitVec.ofNat 32 top) dir size.bytes v)) := by
  simp only [memAccess, backed.firstOutside ok low high ha past]
  rfl

/-! ### The rows -/

/-- The bounds a well-formed row's address keeps (R86, R94). -/
def inBounds (base top : Nat) (a : Word) (size : AccessSize) : Prop :=
  base ≤ a.toNat ∧ a.toNat < top ∧ aligned size a = true

theorem inBounds_of_selects {mask pattern : Word} (wf : (selects mask pattern a && aligned size a) = true) :
    inBounds pattern.toNat (pattern.toNat + (~~~mask).toNat + 1) a size := by
  obtain ⟨sel, ha⟩ := Bool.and_eq_true_iff.1 wf
  obtain ⟨low, high⟩ := selects_bounds sel
  exact ⟨low, Nat.lt_succ_of_le high, ha⟩

theorem inBounds_of_within {len : Nat} (wf : (within base len a && aligned size a) = true) :
    inBounds base (base + len) a size := by
  simp only [within, Bool.and_eq_true, decide_eq_true_eq] at wf
  obtain ⟨⟨low, high⟩, ha⟩ := wf
  exact ⟨low, high, ha⟩

/-- What the read rows of a region do (R90). -/
theorem reads_of_row {i : AccessSize → Instr} (ready : s.ready = true) (backed : Backed s.params.sizes base top)
    (row : ∀ size, exec (i size) s = runBus (memRead a size) s)
    (bounds : ∀ size, (i size).wellFormed s.params.sizes = true → inBounds base top a size) :
    ((i .byte).wellFormed s.params.sizes = true → exec (i .byte) s = .next (s.setRdata ((s.byteAt a).setWidth 32)))
    ∧ ((i .half).wellFormed s.params.sizes = true → a.toNat + 2 ≤ top →
      exec (i .half) s = .next (s.setRdata ((s.byteAt (a + 1#32) ++ s.byteAt a).setWidth 32)))
    ∧ ((i .word).wellFormed s.params.sizes = true → a.toNat + 4 ≤ top →
      exec (i .word) s = .next (s.setRdata
        (s.byteAt (a + 3#32) ++ s.byteAt (a + 2#32) ++ s.byteAt (a + 1#32) ++ s.byteAt a)))
    ∧ (∀ size : AccessSize, (i size).wellFormed s.params.sizes = true → s.params.sizes.ok = true →
      top < a.toNat + size.bytes →
      exec (i size) s = .next (s.setFault (some (.reserved a (BitVec.ofNat 32 top) .read size.bytes 0#32)))) := by
  refine ⟨fun wf => ?byte, fun wf fits => ?half, fun wf fits => ?word, fun size wf ok past => ?past⟩
  case byte =>
    obtain ⟨low, high, ha⟩ := bounds _ wf
    rw [exec_of_ready ready (row _), memRead_bytes backed low ha (by simp only [AccessSize.bytes]; omega), ← leWord_one]
    simp [AccessSize.bytes, List.range_succ]
  case half =>
    obtain ⟨low, high, ha⟩ := bounds _ wf
    rw [exec_of_ready ready (row _), memRead_bytes backed low ha fits, ← leWord_two]
    simp [AccessSize.bytes, List.range_succ]
  case word =>
    obtain ⟨low, high, ha⟩ := bounds _ wf
    rw [exec_of_ready ready (row _), memRead_bytes backed low ha fits, ← leWord_four]
    simp [AccessSize.bytes, List.range_succ]
  case past =>
    obtain ⟨low, high, ha⟩ := bounds _ wf
    rw [exec_of_ready ready (row _), memRead, memAccess_past backed ok low high ha past]
    rfl

/-- What the write rows of RAM do (R90). -/
theorem writes_of_row {i : Instr} {v : Word} (ready : s.ready = true) (backed : Backed s.params.sizes base top)
    (row : exec i s = runBus (memWrite a size v) s) (bounds : inBounds base top a size) :
    (s.memoryOk → a.toNat + size.bytes ≤ top →
      ∃ t, exec i s = .next t ∧ t = s.setMem t.mem
        ∧ (∀ k, k < size.bytes → t.byteAt (a + BitVec.ofNat 32 k) = (v >>> (8 * k)).setWidth 8)
        ∧ (∀ x, (∀ k, k < size.bytes → x ≠ a + BitVec.ofNat 32 k) → t.byteAt x = s.byteAt x))
    ∧ (s.params.sizes.ok = true → top < a.toNat + size.bytes →
      exec i s = .next (s.setFault (some (.reserved a (BitVec.ofNat 32 top) .write size.bytes v)))) := by
  obtain ⟨low, high, ha⟩ := bounds
  rw [exec_of_ready ready row]
  refine ⟨fun memOk fits => ?stores, fun ok past => by rw [memWrite, memAccess_past backed ok low high ha past]⟩
  case stores =>
    have same {k : Nat} (hk : k < size.bytes) : s.redirect (a + BitVec.ofNat 32 k) = a + BitVec.ofNat 32 k :=
      redirect_aligned (backed.above.trans low) ha hk
    have apart {j k : Nat} (hj : j < size.bytes) (hk : k < size.bytes) (hjk : k < j) :
        a + BitVec.ofNat 32 j ≠ a + BitVec.ofNat 32 k := by
      intro eq
      have toNat := congrArg BitVec.toNat eq
      rw [aligned_no_wrap ha hj, aligned_no_wrap ha hk] at toNat
      omega
    rw [memWrite_inside (backed.readable low ha fits)]
    refine ⟨_, rfl, State.storeBytes_eq _ _ _, fun k hk => ?_, fun x other => ?_⟩
    · rw [← same hk]
      refine State.storeBytes_at memOk (leBytes_getElem? v hk) fun j hkj hj => ?_
      rw [leBytes_length] at hj
      rw [same hj, same hk]
      exact apart hj hk hkj
    · refine State.byteAt_storeBytes_other memOk fun k hk => ?_
      rw [leBytes_length] at hk
      rw [same hk]
      exact other k hk

/-! ### The bootmem window -/

/-- The redirection of an address of the window (R153). -/
theorem bootBase_add_toNat (t : BootTarget) {a : Word} (window : a.toNat < 0x00100000) :
    (bootBase t + a).toNat = (bootBase t).toNat + a.toNat := by
  rw [BitVec.toNat_add]
  cases t <;> simp only [bootBase, BitVec.toNat_ofNat] <;> omega

theorem redirect_window (window : a.toNat < 0x00100000) : s.redirect a = bootBase s.bootTarget + a := by
  simp [State.redirect, inBootWindow, window]

/-- The size of the live target (R86, R153). -/
def bootSize (z : MemSizes) : BootTarget → Nat
  | .rom => 0x8000
  | .sram0 => 0x4000
  | .ebiNcs0 => z.nor

/-- Beyond the target's own size the window aliases no memory (R86, R154). -/
theorem memoryAt_past_target (t : BootTarget) (z : MemSizes) (window : a.toNat < 0x00100000)
    (past : bootSize z t ≤ a.toNat) : memoryAt z (bootBase t + a) = none := by
  have toNat := bootBase_add_toNat t window
  cases t with
  | ebiNcs0 =>
    simp only [bootBase, bootSize, BitVec.toNat_ofNat] at toNat past ⊢
    exact memoryAt_past_nor (by omega) (by omega)
  | rom =>
    simp only [bootBase, bootSize, BitVec.toNat_ofNat] at toNat past ⊢
    unfold memoryAt regionOf regionMap
    repeat rw [regionIn_skip _ (by simp; omega)]
    rfl
  | sram0 =>
    simp only [bootBase, bootSize, BitVec.toNat_ofNat] at toNat past ⊢
    unfold memoryAt regionOf regionMap
    repeat rw [regionIn_skip _ (by simp; omega)]
    rfl

/-- An access the target does not cover aborts, a word by its address and any other by its size (R152, R154, R774). -/
theorem bootReserved_fault (ready : s.ready = true) (window : a.toNat < 0x00100000) (dir : Dir) (v : Word)
    {i : Instr} (row : exec i s = runBus (bootReserved dir a size v) s) :
    (size = .word → ∃ t, exec i s = .next t ∧ t.fault = some (.reserved a (bootBase s.bootTarget + a) dir 4 v))
    ∧ (size ≠ .word → ∃ t, exec i s = .next t ∧ t.fault = some (.accessSize (bootBase s.bootTarget + a) size.bytes)) := by
  rw [exec_of_ready ready row, bootReserved, redirect_window window]
  refine ⟨fun word => ?_, fun other => ?_⟩
  · rw [if_pos word, word]
    exact ⟨_, rfl, State.raise_fault _ _⟩
  · rw [if_neg other]
    exact ⟨_, rfl, State.raise_fault _ _⟩

end

end Sys2Proof.Machine

namespace Sys2Proof

open Machine

/-- Settles O11: the five regions differ in their bounds only. -/
theorem memoryReads : Obligations.MemoryReads := by
  intro s a ready z i top row
  simp only [List.mem_cons, List.not_mem_nil, or_false, Prod.mk.injEq] at row
  rcases row with ⟨rfl, rfl⟩ | ⟨rfl, rfl⟩ | ⟨rfl, rfl⟩ | ⟨rfl, rfl⟩ | ⟨rfl, rfl⟩
  · exact reads_of_row ready (backed_rom _) (fun size => exec_romR a size s) fun _ => inBounds_of_selects
  · exact reads_of_row ready (backed_sram0 _) (fun size => exec_sram0R a size s) fun _ => inBounds_of_selects
  · exact reads_of_row ready (backed_sram1 _) (fun size => exec_sram1R a size s) fun _ => inBounds_of_selects
  · exact reads_of_row ready (backed_nor _) (fun size => exec_norR a size s) fun _ => inBounds_of_within
  · exact reads_of_row ready (backed_sdram _) (fun size => exec_sdramR a size s) fun _ => inBounds_of_within

/-- Settles O12: by whether the bytes lie below the end, with the stored bytes from `State.storeBytes`. -/
theorem memoryWrites : Obligations.MemoryWrites := by
  intro s a v size i ready z
  refine ⟨fun top wf row => ?ram, fun row => ?rom⟩
  case ram =>
    simp only [List.mem_cons, List.not_mem_nil, or_false, Prod.mk.injEq] at row
    rcases row with ⟨rfl, rfl⟩ | ⟨rfl, rfl⟩ | ⟨rfl, rfl⟩
    · exact writes_of_row ready (backed_sram0 _) (exec_sram0W a size v s) (inBounds_of_selects wf)
    · exact writes_of_row ready (backed_sram1 _) (exec_sram1W a size v s) (inBounds_of_selects wf)
    · exact writes_of_row ready (backed_sdram _) (exec_sdramW a size v s) (inBounds_of_within wf)
  case rom =>
    have ends {t : State} (aborted : t.fault = some (.romWrite a v)) : step t = .fault (.romWrite a v) := by
      simp [step, agentStep, aborted]
    have raised : exec i s = .next (s.raise (.romWrite a v)) := by
      simp only [List.mem_cons, List.not_mem_nil, or_false] at row
      rcases row with rfl | rfl
      · exact exec_of_ready ready (exec_romW a size v s)
      · exact exec_of_ready ready (exec_norW a size v s)
    exact ⟨_, raised, State.raise_fault _ _, ends (State.raise_fault _ _)⟩

/-- Settles O14: behind the window stands the row of the target, at the redirected address, and past the target's own
size nothing. -/
theorem bootmemAlias : Obligations.BootmemAlias := by
  intro s a v size ready wf
  obtain ⟨-, high, ha⟩ := inBounds_of_selects wf
  have window : a.toNat < 0x00100000 := high
  have redirected := redirect_window (s := s) window
  have toNat := bootBase_add_toNat s.bootTarget window
  have read : exec (.bootmemR a size) s = .next (bootRead a size s) := exec_of_ready ready (exec_bootmemR a size s)
  have write : exec (.bootmemW a size v) s = .next (bootWrite a size v s) := exec_of_ready ready (exec_bootmemW a size v s)
  refine ⟨fun target small => ?rom, fun target small => ?sram0, fun target small => ?nor, fun past => ?past⟩
  case rom =>
    simp only [target, bootBase] at redirected toNat
    have covered : memoryAt s.params.sizes (0x00100000#32 + a) = some .rom :=
      memoryAt_rom _ (by rw [toNat]; simp) (by rw [toNat]; simp; omega)
    refine ⟨?_, _, write, ?_⟩
    · rw [read, exec_of_ready ready (exec_romR _ _ s), bootRead, redirected, covered]
    · simp [bootWrite, redirected, covered, romWrite]
  case sram0 =>
    simp only [target, bootBase] at redirected toNat
    have covered : memoryAt s.params.sizes (0x00200000#32 + a) = some .sram0 :=
      memoryAt_sram0 _ (by rw [toNat]; simp) (by rw [toNat]; simp; omega)
    have fits : (0x00200000#32 + a).toNat + size.bytes ≤ 0x00204000 := by
      simp only [aligned, beq_iff_eq] at ha
      rw [toNat]
      cases size <;> simp only [AccessSize.bytes, BitVec.toNat_ofNat] at ha ⊢ <;> omega
    have readable := (backed_sram0 s.params.sizes).readable (by rw [toNat]; simp)
      (redirected ▸ aligned_redirect s ha) fits
    have readThrough : bootRead a size s = memRead (0x00200000#32 + a) size s := by
      rw [bootRead, redirected, covered]
    have writeThrough : bootWrite a size v s = memWrite (0x00200000#32 + a) size v s := by
      rw [bootWrite, redirected, covered]
    refine ⟨?_, ?_, ?_, ?_⟩
    · rw [read, exec_of_ready ready (exec_sram0R _ _ s), readThrough]
    · rw [write, exec_of_ready ready (exec_sram0W _ _ v s), writeThrough]
    · rw [read, readThrough, memRead_inside readable]
    · rw [write, writeThrough, memWrite_inside readable]
  case nor =>
    simp only [target, bootBase] at redirected toNat
    have covered : memoryAt s.params.sizes (0x10000000#32 + a) = some .nor :=
      memoryAt_nor (by rw [toNat]; simp) (by rw [toNat]; simp; omega)
    refine ⟨?_, _, write, ?_⟩
    · rw [read, exec_of_ready ready (exec_norR _ _ s), bootRead, redirected, covered]
    · simp [bootWrite, redirected, covered, romWrite]
  case past =>
    have uncovered : memoryAt s.params.sizes (s.redirect a) = none := by
      rw [redirected]
      refine memoryAt_past_target s.bootTarget _ window ?_
      rcases past with ⟨target, past⟩ | ⟨target, past⟩ | ⟨target, past⟩ <;> rw [target] <;> exact past
    have readRow : exec (.bootmemR a size) s = runBus (bootReserved .read a size 0#32) s := by
      rw [read, runBus_ready ready, bootRead, uncovered]
      rfl
    have writeRow : exec (.bootmemW a size v) s = runBus (bootReserved .write a size v) s := by
      rw [write, runBus_ready ready, bootWrite, uncovered]
    obtain ⟨readWord, readOther⟩ := bootReserved_fault ready window .read 0#32 readRow
    obtain ⟨writeWord, writeOther⟩ := bootReserved_fault ready window .write v writeRow
    exact ⟨fun word => ⟨readWord word, writeWord word⟩, fun other => ⟨readOther other, writeOther other⟩⟩

end Sys2Proof
end

section
/-! The transfers of the PDC (R270, R272, R273): what one round of a transfer does, and from that what a transfer leaves
over both buffers. From this O13; the hosts' transfers use the same lemmas. -/

namespace Sys2Proof.Machine

/-! ### Stores and the other components -/

theorem State.storeBytes_setPdc (s : State) (h : PdcHost) (y : Pdc) (p : Word) (bs : List Byte) :
    (s.setPdc h y).storeBytes p bs = (s.storeBytes p bs).setPdc h y := by
  induction bs generalizing s p with
  | nil => rfl
  | cons b bs ih => exact ih (s.setMem (Memory.write s.mem (s.redirect p).toNat b)) (p + 1#32)

@[simp] theorem State.storeBytes_pdc (s : State) (p : Word) (bs : List Byte) (h : PdcHost) :
    (s.storeBytes p bs).pdc h = s.pdc h := by rw [State.storeBytes_eq]; rfl

/-- What a DMA may touch depends on the map and the redirection only (R95). -/
theorem State.dmaAll_congr {s t : State} (bootTarget : t.bootTarget = s.bootTarget) (test : Word → Bool) (p : Word)
    (n : Nat) : t.dmaAll test p n = s.dmaAll test p n := by
  have redirect (a : Word) : t.redirect a = s.redirect a := by simp only [State.redirect, bootTarget]
  rw [Bool.eq_iff_iff, State.dmaAll_iff, State.dmaAll_iff]
  simp only [redirect]

@[simp] theorem State.writableBuffer_setPdc (s : State) (h : PdcHost) (y : Pdc) (p : Word) (n : Nat) :
    (s.setPdc h y).writableBuffer p n = s.writableBuffer p n :=
  State.dmaAll_congr (s := s) (t := s.setPdc h y) rfl (dmaWritable s.params.sizes) p n

@[simp] theorem State.writableBuffer_storeBytes (s : State) (a : Word) (bs : List Byte) (p : Word) (n : Nat) :
    (s.storeBytes a bs).writableBuffer p n = s.writableBuffer p n := by
  have params : (s.storeBytes a bs).params = s.params := by rw [State.storeBytes_eq]; rfl
  rw [State.writableBuffer_eq, State.writableBuffer_eq, params]
  exact State.dmaAll_congr (State.storeBytes_bootTarget s a bs) _ p n

/-- A store of no bytes is none. -/
@[simp] theorem State.writableBuffer_zero (s : State) (p : Word) : s.writableBuffer p 0 = true := rfl

theorem dmaStore_of_writable {h : PdcHost} {p : Word} {bs : List Byte} {s : State}
    (ok : s.writableBuffer p bs.length = true) : dmaStore h p bs s = s.storeBytes p bs := if_pos ok

theorem dmaStore_of_not_writable {h : PdcHost} {p : Word} {bs : List Byte} {s : State}
    (bad : s.writableBuffer p bs.length = false) : dmaStore h p bs s = s.raise (.dma h p (s.dmaWriteError p bs)) :=
  if_neg (by simpa [State.writableBuffer] using bad)

/-- The bytes of the first units (R261). -/
theorem length_flatten_take {us : List (List Byte)} {unit : Nat} (units : ∀ u, u ∈ us → u.length = unit) (k : Nat) :
    (us.take k).flatten.length = min k us.length * unit := by
  have lengths : (us.take k).map List.length = List.replicate (min k us.length) unit := by
    refine List.eq_replicate_iff.2 ⟨by simp, fun n hn => ?_⟩
    obtain ⟨u, hu, rfl⟩ := List.mem_map.1 hn
    exact units u (List.mem_of_mem_take hu)
  rw [List.length_flatten, lengths, List.sum_replicate, smul_eq_mul]

/-! ### The counts -/

/-- A count runs out with its last unit (R270, R272). -/
theorem count_sub_eq_zero_iff {c : BitVec 16} {k : Nat} (hk : k ≤ c.toNat) :
    c - BitVec.ofNat 16 k = 0#16 ↔ k = c.toNat := by
  have := c.isLt
  rw [← BitVec.toNat_inj, BitVec.toNat_sub, BitVec.toNat_ofNat, BitVec.toNat_ofNat]
  omega

theorem count_pos_iff {c : BitVec 16} : c ≠ 0#16 ↔ 0 < c.toNat := by
  rw [Ne, ← BitVec.toNat_inj, BitVec.toNat_ofNat]
  omega

/-! ### The receive rounds -/

section

variable {s : State} {h : PdcHost} {unit : Nat} {us : List (List Byte)}

/-- With room in one of the buffers the first round rolls over to the pair in use (R270). -/
theorem rxRollOver_of_room {p : Pdc} (room : p.rxRoom ≠ 0) : p.rxRollOver = p.rxCurrent ∧ p.rxCurrent.rcr ≠ 0#16 := by
  unfold Pdc.rxRollOver Pdc.rxCurrent
  by_cases empty : p.rcr = 0#16
  · have next : p.rncr ≠ 0#16 := by
      rw [count_pos_iff]
      simp only [Pdc.rxRoom, empty, BitVec.toNat_ofNat, Nat.zero_mod, Nat.zero_add] at room
      omega
    simp [empty, next]
  · simp [empty]

theorem pdcRxRounds_full (fuel done : Nat) (full : (s.pdc h).rxRollOver.rcr = 0#16) :
    pdcRxRounds h unit (fuel + 1) us done s = (done, s) := by
  simp [pdcRxRounds, full]

theorem pdcRxRounds_nil (fuel done : Nat) (room : (s.pdc h).rxRollOver.rcr ≠ 0#16) :
    pdcRxRounds h unit (fuel + 1) [] done s = (done, s.setPdc h (s.pdc h).rxRollOver) := by
  simp [pdcRxRounds, room]

/-- A round that stores what the current buffer takes of the units (R270). -/
theorem pdcRxRounds_store (fuel done : Nat) (live : s.fault = none) (units : ∀ u, u ∈ us → u.length = unit)
    (room : (s.pdc h).rxRollOver.rcr ≠ 0#16) (some_left : us ≠ [])
    (ok : s.writableBuffer (s.pdc h).rxRollOver.rpr (min (s.pdc h).rxRollOver.rcr.toNat us.length * unit) = true) :
    pdcRxRounds h unit (fuel + 1) us done s =
      let p := (s.pdc h).rxRollOver
      let k := min p.rcr.toNat us.length
      pdcRxRounds h unit fuel (us.drop k) (done + k)
        ((s.storeBytes p.rpr (us.take k).flatten).setPdc h (p.rxAdvance k unit)) := by
  have stored : dmaStore h (s.pdc h).rxRollOver.rpr (us.take (min (s.pdc h).rxRollOver.rcr.toNat us.length)).flatten
      (s.setPdc h (s.pdc h).rxRollOver) = (s.storeBytes (s.pdc h).rxRollOver.rpr
        (us.take (min (s.pdc h).rxRollOver.rcr.toNat us.length)).flatten).setPdc h (s.pdc h).rxRollOver := by
    rw [dmaStore_of_writable, State.storeBytes_setPdc]
    rw [State.writableBuffer_setPdc, length_flatten_take units]
    simpa using ok
  simp [pdcRxRounds, room, some_left, stored, live]

/-- A round whose buffer may not be written (R273). -/
theorem pdcRxRounds_abort (fuel done : Nat) (units : ∀ u, u ∈ us → u.length = unit)
    (room : (s.pdc h).rxRollOver.rcr ≠ 0#16) (some_left : us ≠ [])
    (bad : s.writableBuffer (s.pdc h).rxRollOver.rpr (min (s.pdc h).rxRollOver.rcr.toNat us.length * unit) = false) :
    ∃ e, (pdcRxRounds h unit (fuel + 1) us done s).2.fault = some (.dma h (s.pdc h).rxRollOver.rpr e) := by
  have stored := dmaStore_of_not_writable (h := h) (p := (s.pdc h).rxRollOver.rpr) (s := s.setPdc h (s.pdc h).rxRollOver)
    (bs := (us.take (min (s.pdc h).rxRollOver.rcr.toNat us.length)).flatten)
    (by rw [State.writableBuffer_setPdc, length_flatten_take units]; simpa using bad)
  exact ⟨_, by simp [pdcRxRounds, room, some_left, stored]; rfl⟩

/-! ### A receive transfer -/

/-- The rounds from one whose buffer is the last to be used: it takes what it has room for (R270). -/
theorem pdcRxRounds_last {p : Pdc} (fuel done : Nat) (live : s.fault = none) (units : ∀ u, u ∈ us → u.length = unit)
    (rolled : (s.pdc h).rxRollOver = p) (nonzero : p.rcr ≠ 0#16) (last : p.rncr = 0#16 ∨ us.length < p.rcr.toNat)
    (ok : s.writableBuffer p.rpr (min p.rcr.toNat us.length * unit) = true) :
    pdcRxRounds h unit (fuel + 2) us done s =
      (done + min p.rcr.toNat us.length, (s.storeBytes p.rpr (us.take p.rcr.toNat).flatten).setPdc h
        (p.rxAdvance (min p.rcr.toNat us.length) unit)) := by
  subst rolled
  by_cases none_left : us = []
  · subst none_left
    rw [pdcRxRounds_nil _ _ nonzero]
    simp [State.storeBytes, Pdc.rxAdvance, nonzero]
  · rw [pdcRxRounds_store _ _ live units nonzero none_left ok]
    generalize (s.pdc h).rxRollOver = p at *
    have taken : us.take (min p.rcr.toNat us.length) = us.take p.rcr.toNat := by
      rw [← List.take_take, List.take_length]
    simp only [taken]
    have stays : (p.rxAdvance (min p.rcr.toNat us.length) unit).rxRollOver = p.rxAdvance (min p.rcr.toNat us.length) unit := by
      refine if_neg fun rolls => ?_
      obtain ⟨used_up, next⟩ := rolls
      obtain no_next | less := last
      · exact next no_next
      · rw [Nat.min_eq_right less.le] at used_up
        exact less.ne ((count_sub_eq_zero_iff less.le).1 used_up)
    by_cases full : (p.rxAdvance (min p.rcr.toNat us.length) unit).rcr = 0#16
    · rw [pdcRxRounds_full _ _ (by rw [State.setPdc_pdc_same, stays, full])]
    · have used : us.drop (min p.rcr.toNat us.length) = [] := by
        have within : min p.rcr.toNat us.length ≤ p.rcr.toNat := Nat.min_le_left _ _
        rw [Pdc.rxAdvance, count_sub_eq_zero_iff within] at full
        exact List.drop_eq_nil_of_le (by omega)
      rw [used, pdcRxRounds_nil _ _ (by rwa [State.setPdc_pdc_same, stays])]
      simp [stays]

/-- The pair that becomes current when the first buffer is full (R270). -/
theorem rxRollOver_rxAdvance {q : Pdc} (next : q.rncr ≠ 0#16) :
    (q.rxAdvance q.rcr.toNat unit).rxRollOver =
      { q with rpr := q.rnpr, rcr := q.rncr, rncr := 0#16, endrx := true } := by
  simp [Pdc.rxRollOver, Pdc.rxAdvance, next]

/-- The first round of a transfer that fills the current buffer (R270). -/
theorem pdcRxRounds_first {q : Pdc} (live : s.fault = none) (units : ∀ u, u ∈ us → u.length = unit)
    (rolled : (s.pdc h).rxRollOver = q) (nonzero : q.rcr ≠ 0#16) (fills : q.rcr.toNat ≤ us.length)
    (ok : s.writableBuffer q.rpr (q.rcr.toNat * unit) = true) (fuel : Nat) :
    pdcRxRounds h unit (fuel + 1) us 0 s = pdcRxRounds h unit fuel (us.drop q.rcr.toNat) q.rcr.toNat
      ((s.storeBytes q.rpr (us.take q.rcr.toNat).flatten).setPdc h (q.rxAdvance q.rcr.toNat unit)) := by
  subst rolled
  have some_left : us ≠ [] := by
    rintro rfl
    exact (count_pos_iff.1 nonzero).ne' (Nat.le_zero.1 fills)
  have k : min (s.pdc h).rxRollOver.rcr.toNat us.length = (s.pdc h).rxRollOver.rcr.toNat := Nat.min_eq_left fills
  rw [pdcRxRounds_store _ _ live units nonzero some_left (by rwa [k])]
  simp only [k, Nat.zero_add]

/-- The end of a transfer that no buffer stopped: RXBUFF and the host's output (R270). -/
theorem pdcRx_of_rounds {n : Nat} {t : State} {y : Pdc} (rounds : pdcRxRounds h unit 3 us 0 s = (n, t.setPdc h y))
    (live : t.fault = none) : pdcRx h unit us s = (n, pdcUpdateIrq h (t.setPdc h y.withRxbuff)) := by
  have goes_on : (t.setPdc h y).fault.isSome = false := by simp [live]
  simp [pdcRx, rounds, State.andThen, live]

theorem pdcRx_fault {e : Fault} (rounds : (pdcRxRounds h unit 3 us 0 s).2.fault = some e) :
    (pdcRx h unit us s).2.fault = some e := by
  rw [pdcRx_snd, State.andThen_aborted _ (by simp [rounds]), rounds]

/-- A receive transfer with room and buffers that may be written: what it leaves, over both buffers (R270). -/
theorem pdcRx_of_receiveBuffersOk (live : s.fault = none) (units : ∀ u, u ∈ us → u.length = unit)
    (room : (s.pdc h).rxRoom ≠ 0)
    (ok : s.receiveBuffersOk h unit (min us.length (s.pdc h).rxRoom) = true) :
    pdcRx h unit us s = (min us.length (s.pdc h).rxRoom, pdcUpdateIrq h
      ((s.storeReceived h (us.take (min us.length (s.pdc h).rxRoom))).setPdc h
        ((s.pdc h).afterReceive unit (min us.length (s.pdc h).rxRoom)))) := by
  obtain ⟨rolled, nonzero⟩ := rxRollOver_of_room room
  have total : (s.pdc h).rxRoom = (s.pdc h).rxCurrent.rcr.toNat + (s.pdc h).rxCurrent.rncr.toNat := by
    unfold Pdc.rxCurrent Pdc.rxRoom
    split <;> simp_all
  have enable : (s.pdc h).rxten = (s.pdc h).rxCurrent.rxten := by
    unfold Pdc.rxCurrent
    split <;> rfl
  simp only [State.receiveBuffersOk, Bool.and_eq_true] at ok
  obtain ⟨ok1, ok2⟩ := ok
  simp only [State.storeReceived, Pdc.afterReceive, enable, total] at *
  generalize (s.pdc h).rxCurrent = q at *
  have positive := count_pos_iff.1 nonzero
  by_cases less : us.length < q.rcr.toNat
  case pos =>
    have n : min us.length (q.rcr.toNat + q.rncr.toNat) = us.length := by omega
    have k : min q.rcr.toNat us.length = us.length := Nat.min_eq_right less.le
    rw [n] at ok1 ok2 ⊢
    have unfinished : q.rcr - BitVec.ofNat 16 us.length ≠ 0#16 := by
      rw [Ne, count_sub_eq_zero_iff less.le]; exact less.ne
    have rounds := pdcRxRounds_last (unit := unit) (us := us) (done := 0) 1 live units rolled nonzero (.inr less)
      (by rwa [Nat.min_comm])
    rw [pdcRx_of_rounds rounds (by simp [live]), if_pos less]
    simp [k, List.take_of_length_le less.le, List.drop_eq_nil_of_le less.le, State.storeBytes, Pdc.rxAdvance,
      Pdc.withRxbuff, unfinished]
  case neg =>
    have fills : q.rcr.toNat ≤ us.length := Nat.le_of_not_lt less
    have k : min q.rcr.toNat us.length = q.rcr.toNat := Nat.min_eq_left fills
    by_cases next : q.rncr = 0#16
    case pos =>
      have n : min us.length (q.rcr.toNat + q.rncr.toNat) = q.rcr.toNat := by simp [next, fills]
      rw [n] at ok1 ok2 ⊢
      have rounds := pdcRxRounds_last (unit := unit) (us := us) (done := 0) 1 live units rolled nonzero (.inl next)
        (by rwa [k, ← Nat.min_self q.rcr.toNat])
      rw [pdcRx_of_rounds rounds (by simp [live]), if_neg (lt_irrefl _), if_pos next]
      simp [k, List.take_take, List.drop_eq_nil_of_le, State.storeBytes, Pdc.rxAdvance, Pdc.withRxbuff, next]
    case neg =>
      have n : min us.length (q.rcr.toNat + q.rncr.toNat)
          = q.rcr.toNat + min q.rncr.toNat (us.drop q.rcr.toNat).length := by rw [List.length_drop]; omega
      rw [n] at ok1 ok2 ⊢
      rw [Nat.min_eq_right (Nat.le_add_right _ _)] at ok1
      rw [Nat.add_sub_cancel_left] at ok2
      have within : min q.rncr.toNat (us.drop q.rcr.toNat).length ≤ q.rncr.toNat := Nat.min_le_left _ _
      have rounds := (pdcRxRounds_first live units rolled nonzero fills ok1 2).trans
        (pdcRxRounds_last (p := { q with rpr := q.rnpr, rcr := q.rncr, rncr := 0#16, endrx := true }) 0 q.rcr.toNat
          (by simp [live]) (fun u hu => units u (List.mem_of_mem_drop hu))
          (by rw [State.setPdc_pdc_same, rxRollOver_rxAdvance next]) next (.inl rfl) (by simpa using ok2))
      rw [State.storeBytes_setPdc, State.setPdc_setPdc] at rounds
      rw [pdcRx_of_rounds rounds (by simp [live]), if_neg (by omega), if_neg next]
      have second : (us.take (q.rcr.toNat + min q.rncr.toNat (us.drop q.rcr.toNat).length)).drop q.rcr.toNat
          = (us.drop q.rcr.toNat).take q.rncr.toNat := by
        rw [List.drop_take, Nat.add_sub_cancel_left, ← List.take_take, List.take_length]
      have first : (us.take (q.rcr.toNat + min q.rncr.toNat (us.drop q.rcr.toNat).length)).take q.rcr.toNat
          = us.take q.rcr.toNat := by
        rw [List.take_take, Nat.min_eq_left (Nat.le_add_right _ _)]
      have finished := count_sub_eq_zero_iff within
      simp only [first, second, Nat.add_sub_cancel_left, Pdc.rxAdvance, Pdc.withRxbuff, finished, Bool.true_or,
        decide_true, Bool.and_true]
      rw [Bool.and_comm]

/-- A receive transfer whose buffers may not be written aborts, naming the first that may not (R273). -/
theorem pdcRx_of_not_receiveBuffersOk (live : s.fault = none) (units : ∀ u, u ∈ us → u.length = unit)
    (room : (s.pdc h).rxRoom ≠ 0) {n : Nat} (hn : n = min us.length (s.pdc h).rxRoom)
    (bad : s.receiveBuffersOk h unit n = false) :
    ∃ e, (pdcRx h unit us s).2.fault = some (.dma h
      (if s.writableBuffer (s.pdc h).rxCurrent.rpr (min n (s.pdc h).rxCurrent.rcr.toNat * unit)
        then (s.pdc h).rxCurrent.rnpr else (s.pdc h).rxCurrent.rpr) e) := by
  obtain ⟨rolled, nonzero⟩ := rxRollOver_of_room room
  have total : (s.pdc h).rxRoom = (s.pdc h).rxCurrent.rcr.toNat + (s.pdc h).rxCurrent.rncr.toNat := by
    unfold Pdc.rxCurrent Pdc.rxRoom
    split <;> simp_all
  simp only [State.receiveBuffersOk, Bool.and_eq_false_iff] at bad
  generalize (s.pdc h).rxCurrent = q at *
  have k : min n q.rcr.toNat = min q.rcr.toNat us.length := by omega
  rw [k] at bad ⊢
  cases first : s.writableBuffer q.rpr (min q.rcr.toNat us.length * unit) with
  | false =>
    have some_left : us ≠ [] := by rintro rfl; simp at first
    obtain ⟨e, aborts⟩ := pdcRxRounds_abort 2 0 units (rolled ▸ nonzero) some_left (by rwa [rolled])
    rw [rolled] at aborts
    exact ⟨e, by simpa using pdcRx_fault aborts⟩
  | true =>
    simp only [first, Bool.true_eq_false, false_or] at bad
    have past : q.rcr.toNat < n := by
      by_contra within
      rw [Nat.sub_eq_zero_of_le (Nat.le_of_not_lt within), Nat.zero_mul] at bad
      simp at bad
    have fills : q.rcr.toNat ≤ us.length := by omega
    have next : q.rncr ≠ 0#16 := by rw [count_pos_iff]; omega
    rw [Nat.min_eq_left fills] at first
    have rest : min q.rncr.toNat (us.drop q.rcr.toNat).length = n - q.rcr.toNat := by rw [List.length_drop]; omega
    have some_left : us.drop q.rcr.toNat ≠ [] := by
      intro none_left
      rw [none_left] at rest
      simp only [List.length_nil, Nat.min_zero] at rest
      omega
    have rolled2 : (((s.storeBytes q.rpr (us.take q.rcr.toNat).flatten).setPdc h (q.rxAdvance q.rcr.toNat unit)).pdc
        h).rxRollOver = { q with rpr := q.rnpr, rcr := q.rncr, rncr := 0#16, endrx := true } := by
      rw [State.setPdc_pdc_same, rxRollOver_rxAdvance next]
    obtain ⟨e, aborts⟩ := pdcRxRounds_abort (h := h) (unit := unit) (us := us.drop q.rcr.toNat)
      (s := (s.storeBytes q.rpr (us.take q.rcr.toNat).flatten).setPdc h (q.rxAdvance q.rcr.toNat unit)) 1 q.rcr.toNat
      (fun u hu => units u (List.mem_of_mem_drop hu)) (by rw [rolled2]; exact next) some_left
      (by rw [rolled2]; simpa only [State.writableBuffer_setPdc, State.writableBuffer_storeBytes, rest] using bad)
    rw [← pdcRxRounds_first live units rolled nonzero fills first 2, rolled2] at aborts
    exact ⟨e, by simpa using pdcRx_fault aborts⟩

end

/-! ### The transmit rounds -/

section

variable {s : State} {h : PdcHost} {unit : Nat} {send : List Byte → State → State} {limit : Option Nat}

/-- With something to send the first round rolls over to the pair in use (R272). -/
theorem txRollOver_of_count {p : Pdc} (count : p.txCount ≠ 0) : p.txRollOver = p.txCurrent ∧ p.txCurrent.tcr ≠ 0#16 := by
  unfold Pdc.txRollOver Pdc.txCurrent
  by_cases empty : p.tcr = 0#16
  · have next : p.tncr ≠ 0#16 := by
      rw [count_pos_iff]
      simp only [Pdc.txCount, empty, BitVec.toNat_ofNat, Nat.zero_mod, Nat.zero_add] at count
      omega
    simp [empty, next]
  · simp [empty]

theorem pdcTxRounds_empty (fuel done : Nat) (empty : (s.pdc h).txRollOver.tcr = 0#16) :
    pdcTxRounds h unit send (fuel + 1) limit done s = (done, s) := by
  simp [pdcTxRounds, empty]

theorem pdcTxRounds_limit (fuel done : Nat) : pdcTxRounds h unit send (fuel + 1) (some 0) done s = (done, s) := by
  simp [pdcTxRounds]

/-- A round that hands its units to the host (R272). -/
theorem pdcTxRounds_send (fuel done : Nat) (more : limit ≠ some 0) (left : (s.pdc h).txRollOver.tcr ≠ 0#16)
    (ok : s.readableBuffer (s.pdc h).txRollOver.tpr (withinLimit limit (s.pdc h).txRollOver.tcr.toNat * unit) = true) :
    pdcTxRounds h unit send (fuel + 1) limit done s =
      let p := (s.pdc h).txRollOver
      let k := withinLimit limit p.tcr.toNat
      let t := send (s.loadBytes p.tpr (k * unit)) (s.setPdc h (p.txAdvance k unit))
      if t.fault.isSome then (done + k * unit, t)
      else pdcTxRounds h unit send fuel (limitAfter limit k) (done + k * unit) t := by
  rw [State.readableBuffer_eq] at ok
  simp [pdcTxRounds, more, left, ok]

/-- A round whose buffer may not be read (R273). -/
theorem pdcTxRounds_abort (fuel done : Nat) (more : limit ≠ some 0) (left : (s.pdc h).txRollOver.tcr ≠ 0#16)
    (bad : s.readableBuffer (s.pdc h).txRollOver.tpr (withinLimit limit (s.pdc h).txRollOver.tcr.toNat * unit) = false) :
    pdcTxRounds h unit send (fuel + 1) limit done s
      = (done, (s.setPdc h (s.pdc h).txRollOver).raise (.dma h (s.pdc h).txRollOver.tpr .notMemory)) := by
  rw [State.readableBuffer_eq] at bad
  simp [pdcTxRounds, more, left, bad]

theorem pdcTx_fault {e : Fault} (rounds : (pdcTxRounds h unit send 3 limit 0 s).2.fault = some e) :
    (pdcTx h unit send limit s).2.fault = some e := by
  rw [pdcTx_snd, State.andThen_aborted _ (by simp [rounds]), rounds]

/-- A transmit transfer whose first buffer may not be read (R273). -/
theorem pdcTx_of_not_readable (count : (s.pdc h).txCount ≠ 0) (more : limit ≠ some 0)
    (bad : s.readableBuffer (s.pdc h).txCurrent.tpr (withinLimit limit (s.pdc h).txCurrent.tcr.toNat * unit) = false) :
    (pdcTx h unit send limit s).2.fault = some (.dma h (s.pdc h).txCurrent.tpr .notMemory) := by
  obtain ⟨rolled, left⟩ := txRollOver_of_count count
  refine pdcTx_fault ?_
  rw [← rolled] at left bad ⊢
  rw [pdcTxRounds_abort 2 0 more left bad, State.raise_fault]

end

end Sys2Proof.Machine

namespace Sys2Proof

open Machine

/-- Settles O13: the stores of one buffer, the abort of one that may not be written, and the receive transfer over
both. -/
theorem dmaTransfers : Obligations.DmaTransfers := by
  refine ⟨?stores, ?judges, ?receives, ?sends⟩
  case stores =>
    intro s p bs ok _ t
    exact ⟨State.storeBytes_eq s p bs, fun x other => State.byteAt_storeBytes_other ok other,
      fun k b hb last => State.storeBytes_at ok hb last⟩
  case judges =>
    intro s h p bs
    refine ⟨dmaStore_of_writable, fun k b hb before => ?_⟩
    intro a bad
    have hk : k < bs.length := (List.getElem?_eq_some_iff.1 hb).1
    have refused : s.writableBuffer p bs.length = false := by
      rw [← Bool.not_eq_true, State.writableBuffer_eq, State.dmaAll_iff]
      intro all
      simp [a, all k hk] at bad
    rw [dmaStore_of_not_writable refused, State.dmaWriteError_at bs k hb before bad]
    simp only [inRom_iff]
    rfl
  case receives =>
    intro s h unit us live units room p n
    exact ⟨pdcRx_of_receiveBuffersOk live units room, pdcRx_of_not_receiveBuffersOk live units room rfl⟩
  case sends =>
    intro s h unit send live count bad
    exact pdcTx_of_not_readable count (by simp) bad

end Sys2Proof
end

section
/-! The registers of the PDC (R263 to R268): the flags a write leaves, and the starts it may cause. O26 and O27. -/

namespace Sys2Proof.Machine

/-- The next sub-action of a rule, written as a choice (R9, R770). -/
theorem State.andThen_eq_ite (s : State) (f : State → State) : s.andThen f = if s.fault = none then f s else s := by
  cases live : s.fault with
  | none => simp [State.andThen, live]
  | some e => simp [State.andThen, live]

/-! ### The flag rule -/

theorem Pdc.rxFlagsAfterWrite_some (n : BitVec 16) (p : Pdc) : p.rxFlagsAfterWrite (some n) = { p with
    endrx := decide (n = 0#16) && (p.endrx || (p.rxten && decide (p.rcr = 0#16)))
    rxbuff := p.rxten && decide (p.rcr = 0#16) && decide (p.rncr = 0#16) } := by
  by_cases zero : n = 0#16 <;> by_cases empty : p.rcr = 0#16 <;> cases enabled : p.rxten <;>
    simp [Pdc.rxFlagsAfterWrite, Pdc.withRxbuff, zero, empty, enabled]

theorem Pdc.rxFlagsAfterWrite_none (p : Pdc) : p.rxFlagsAfterWrite none = { p with
    endrx := p.endrx || (p.rxten && decide (p.rcr = 0#16))
    rxbuff := p.rxten && decide (p.rcr = 0#16) && decide (p.rncr = 0#16) } := by
  by_cases empty : p.rcr = 0#16 <;> cases enabled : p.rxten <;>
    simp [Pdc.rxFlagsAfterWrite, Pdc.withRxbuff, empty, enabled]

theorem Pdc.txFlagsAfterWrite_some (n : BitVec 16) (p : Pdc) : p.txFlagsAfterWrite (some n) = { p with
    endtx := decide (n = 0#16) && (p.endtx || (p.txten && decide (p.tcr = 0#16)))
    txbufe := p.txten && decide (p.tcr = 0#16) && decide (p.tncr = 0#16) } := by
  by_cases zero : n = 0#16 <;> by_cases empty : p.tcr = 0#16 <;> cases enabled : p.txten <;>
    simp [Pdc.txFlagsAfterWrite, Pdc.withTxbufe, zero, empty, enabled]

theorem Pdc.txFlagsAfterWrite_none (p : Pdc) : p.txFlagsAfterWrite none = { p with
    endtx := p.endtx || (p.txten && decide (p.tcr = 0#16))
    txbufe := p.txten && decide (p.tcr = 0#16) && decide (p.tncr = 0#16) } := by
  by_cases empty : p.tcr = 0#16 <;> cases enabled : p.txten <;>
    simp [Pdc.txFlagsAfterWrite, Pdc.withTxbufe, empty, enabled]

/-- The enables after a `PTCR` write (R266): a disable bit wins, and a half-duplex receiver keeps the transmitter off. -/
theorem Pdc.enables_eq (half : Bool) (v : Word) (p : Pdc) : p.enables half v = { p with
    rxten := (p.rxten || bit v 0) && !bit v 1
    txten := ((p.txten && !(bit v 0 && half)) || (bit v 8 && !(half && (p.rxten || bit v 0)))) && !bit v 9 } := by
  obtain ⟨rpr, rcr, tpr, tcr, rnpr, rncr, tnpr, tncr, rxten, txten, endrx, endtx, rxbuff, txbufe⟩ := p
  cases rx : bit v 0 <;> cases tx : bit v 8 <;> cases rxdis : bit v 1 <;> cases txdis : bit v 9 <;>
    simp only [Pdc.enables, rx, tx, rxdis, txdis] <;> cases half <;> cases rxten <;> simp

/-! ### The counts -/

section

variable {s : State} {h : PdcHost} {v : Word}

/-- A write of a count that starts nothing (R263 to R265). -/
theorem pdcWriteRcr_idle (live : s.fault = none) (idle : (s.pdc h).rxten = false ∨ v.extractLsb 15 0 = 0#16) :
    pdcWriteRcr h v s = pdcUpdateIrq h (s.setPdc h
      (Pdc.rxFlagsAfterWrite (some (v.extractLsb 15 0)) { s.pdc h with rcr := v.extractLsb 15 0 })) := by
  rcases idle with off | zero <;> simp [pdcWriteRcr, Pdc.rxFlagsAfterWrite_some, State.andThen, *]

theorem pdcWriteTcr_idle (live : s.fault = none) (idle : (s.pdc h).txten = false ∨ v.extractLsb 15 0 = 0#16) :
    pdcWriteTcr h v s = pdcUpdateIrq h (s.setPdc h
      (Pdc.txFlagsAfterWrite (some (v.extractLsb 15 0)) { s.pdc h with tcr := v.extractLsb 15 0 })) := by
  rcases idle with off | zero <;> simp [pdcWriteTcr, Pdc.txFlagsAfterWrite_some, State.andThen, *]

theorem pdcWriteRncr_idle (live : s.fault = none)
    (idle : (s.pdc h).rxten = false ∨ (s.pdc h).rcr ≠ 0#16 ∨ v.extractLsb 15 0 = 0#16) :
    pdcWriteRncr h v s = pdcUpdateIrq h (s.setPdc h
      (Pdc.rxFlagsAfterWrite (some (v.extractLsb 15 0)) { s.pdc h with rncr := v.extractLsb 15 0 })) := by
  rcases idle with off | busy | zero <;> simp [pdcWriteRncr, Pdc.rxFlagsAfterWrite_some, State.andThen, *]

theorem pdcWriteTncr_idle (live : s.fault = none)
    (idle : (s.pdc h).txten = false ∨ (s.pdc h).tcr ≠ 0#16 ∨ v.extractLsb 15 0 = 0#16) :
    pdcWriteTncr h v s = pdcUpdateIrq h (s.setPdc h
      (Pdc.txFlagsAfterWrite (some (v.extractLsb 15 0)) { s.pdc h with tncr := v.extractLsb 15 0 })) := by
  rcases idle with off | busy | zero <;> simp [pdcWriteTncr, Pdc.txFlagsAfterWrite_some, State.andThen, *]

/-- A write of a count that starts its host (R263). -/
theorem pdcWriteRcr_start (enabled : (s.pdc h).rxten = true) (count : v.extractLsb 15 0 ≠ 0#16) :
    pdcWriteRcr h v s = (pdcRxStart h (s.setPdc h { s.pdc h with
      rcr := v.extractLsb 15 0, endrx := false, rxbuff := false })).andThen (pdcUpdateIrq h) := by
  simp [pdcWriteRcr, Pdc.rxFlagsAfterWrite_some, enabled, count]

theorem pdcWriteTcr_start (enabled : (s.pdc h).txten = true) (count : v.extractLsb 15 0 ≠ 0#16) :
    pdcWriteTcr h v s = (pdcTxStart h (s.setPdc h { s.pdc h with
      tcr := v.extractLsb 15 0, endtx := false, txbufe := false })).andThen (pdcUpdateIrq h) := by
  simp [pdcWriteTcr, Pdc.txFlagsAfterWrite_some, enabled, count]

theorem pdcWriteRncr_start (enabled : (s.pdc h).rxten = true) (used : (s.pdc h).rcr = 0#16)
    (count : v.extractLsb 15 0 ≠ 0#16) :
    pdcWriteRncr h v s = (pdcRxStart h (s.setPdc h { s.pdc h with
      rncr := v.extractLsb 15 0, endrx := false, rxbuff := false })).andThen (pdcUpdateIrq h) := by
  simp [pdcWriteRncr, Pdc.rxFlagsAfterWrite_some, enabled, used, count]

theorem pdcWriteTncr_start (enabled : (s.pdc h).txten = true) (used : (s.pdc h).tcr = 0#16)
    (count : v.extractLsb 15 0 ≠ 0#16) :
    pdcWriteTncr h v s = (pdcTxStart h (s.setPdc h { s.pdc h with
      tncr := v.extractLsb 15 0, endtx := false, txbufe := false })).andThen (pdcUpdateIrq h) := by
  simp [pdcWriteTncr, Pdc.txFlagsAfterWrite_some, enabled, used, count]

end

/-- The half-duplex hosts (R261). -/
theorem halfDuplex_eq (h : PdcHost) : halfDuplex h = (decide (h = .twi) || decide (h = .mci)) := by
  cases h <;> simp [halfDuplex]

end Sys2Proof.Machine

namespace Sys2Proof

open Machine

/-- Settles O26: the flags by the flag rule, then the start or the output. -/
theorem pdcCounts : Obligations.PdcCounts := by
  intro s h v ready p n
  have live := State.ready_fault ready
  have rcr := exec_of_ready ready (exec_pdcRcrW h v s)
  have tcr := exec_of_ready ready (exec_pdcTcrW h v s)
  have rncr := exec_of_ready ready (exec_pdcRncrW h v s)
  have tncr := exec_of_ready ready (exec_pdcTncrW h v s)
  refine ⟨?rcrOff, ?tcrOff, ?rncrOff, ?tncrOff, ?rcrZero, ?tcrZero, ?rncrBusy, ?tncrBusy, ?rncrZero, ?tncrZero,
    ?rcrStart, ?tcrStart, ?rncrStart, ?tncrStart⟩
  case rcrOff =>
    intro off
    rw [rcr, pdcWriteRcr_idle live (.inl off), Pdc.rxFlagsAfterWrite_some]
    simp [p, n, show (s.pdc h).rxten = false from off, Bool.and_comm]
  case tcrOff =>
    intro off
    rw [tcr, pdcWriteTcr_idle live (.inl off), Pdc.txFlagsAfterWrite_some]
    simp [p, n, show (s.pdc h).txten = false from off, Bool.and_comm]
  case rncrOff =>
    intro off
    rw [rncr, pdcWriteRncr_idle live (.inl off), Pdc.rxFlagsAfterWrite_some]
    simp [p, n, show (s.pdc h).rxten = false from off, Bool.and_comm]
  case tncrOff =>
    intro off
    rw [tncr, pdcWriteTncr_idle live (.inl off), Pdc.txFlagsAfterWrite_some]
    simp [p, n, show (s.pdc h).txten = false from off, Bool.and_comm]
  case rcrZero =>
    intro on zero
    rw [rcr, pdcWriteRcr_idle live (.inr zero), Pdc.rxFlagsAfterWrite_some, show v.extractLsb 15 0 = 0#16 from zero]
    simp [p, show (s.pdc h).rxten = true from on]
  case tcrZero =>
    intro on zero
    rw [tcr, pdcWriteTcr_idle live (.inr zero), Pdc.txFlagsAfterWrite_some, show v.extractLsb 15 0 = 0#16 from zero]
    simp [p, show (s.pdc h).txten = true from on]
  case rncrBusy =>
    intro on busy
    rw [rncr, pdcWriteRncr_idle live (.inr (.inl busy)), Pdc.rxFlagsAfterWrite_some]
    simp [p, n, show (s.pdc h).rcr ≠ 0#16 from busy, Bool.and_comm]
  case tncrBusy =>
    intro on busy
    rw [tncr, pdcWriteTncr_idle live (.inr (.inl busy)), Pdc.txFlagsAfterWrite_some]
    simp [p, n, show (s.pdc h).tcr ≠ 0#16 from busy, Bool.and_comm]
  case rncrZero =>
    intro on used zero
    rw [rncr, pdcWriteRncr_idle live (.inr (.inr zero)), Pdc.rxFlagsAfterWrite_some, show v.extractLsb 15 0 = 0#16 from zero]
    simp [p, show (s.pdc h).rxten = true from on, show (s.pdc h).rcr = 0#16 from used]
  case tncrZero =>
    intro on used zero
    rw [tncr, pdcWriteTncr_idle live (.inr (.inr zero)), Pdc.txFlagsAfterWrite_some, show v.extractLsb 15 0 = 0#16 from zero]
    simp [p, show (s.pdc h).txten = true from on, show (s.pdc h).tcr = 0#16 from used]
  case rcrStart => intro on count t; rw [rcr, pdcWriteRcr_start on count, State.andThen_eq_ite]
  case tcrStart => intro on count t; rw [tcr, pdcWriteTcr_start on count, State.andThen_eq_ite]
  case rncrStart => intro on used count t; rw [rncr, pdcWriteRncr_start on used count, State.andThen_eq_ite]
  case tncrStart => intro on used count t; rw [tncr, pdcWriteTncr_start on used count, State.andThen_eq_ite]

/-- Settles O27: the enables, the flags, then the two starts in their order. -/
theorem pdcControl : Obligations.PdcControl := by
  intro s h v ready p half rx tx rxten txten q s1 s2 r s3
  have live := State.ready_fault ready
  have flags : Pdc.txFlagsAfterWrite none (Pdc.rxFlagsAfterWrite none ((s.pdc h).enables (halfDuplex h) v)) = q := by
    rw [Pdc.rxFlagsAfterWrite_none, Pdc.txFlagsAfterWrite_none, Pdc.enables_eq, halfDuplex_eq]
  have written : pdcWritePtcr h v s = s3.andThen (pdcUpdateIrq h) := by
    have receive : (if (s1.pdc h).rxActive then pdcRxStart h s1 else s1) = s2 := by
      simp only [s1, s2, State.setPdc_pdc_same]
      congr 1
      simp [Pdc.rxActive, q]
    have transmit : (s2.andThen fun t => if (t.pdc h).txActive then pdcTxStart h t else t) = s3 := by
      rw [State.andThen_eq_ite]
      simp only [s3, r, Pdc.txActive, Bool.and_eq_true, Bool.or_eq_true, decide_eq_true_eq]
      by_cases goes_on : s2.fault = none <;> simp only [goes_on, true_and, false_and, if_true, if_false]
    rw [← transmit, ← receive]
    simp only [pdcWritePtcr, flags, s1]
  have row := exec_of_ready ready (exec_pdcPtcrW h v s)
  rw [row, written, State.andThen_eq_ite]
  refine ⟨fun noReceive noTransmit => ?_, rfl⟩
  have inactive {on : Bool} {count next : BitVec 16} (idle : on = false ∨ count = 0#16 ∧ next = 0#16) :
      ¬(on = true ∧ (count ≠ 0#16 ∨ next ≠ 0#16)) := by
    rcases idle with rfl | ⟨rfl, rfl⟩ <;> simp
  have idle2 : s2 = s1 := if_neg (inactive noReceive)
  have idle3 : s3 = s1 := by
    simp only [s3, r, idle2, s1, State.setPdc_pdc_same]
    exact if_neg fun starts => inactive noTransmit starts.2
  rw [idle3, if_pos (show s1.fault = none from live)]

end Sys2Proof
end

section
/-! A transmit transfer of the PDC whose host sends each buffer without touching memory or the channel (R272, R273): what
it leaves over both buffers. Every host's transmit statement uses it. -/

namespace Sys2Proof.Machine

/-- What a DMA reads depends on memory and the redirection only (R8, R95). -/
theorem State.loadBytes_congr {s t : State} (mem : t.mem = s.mem) (bootTarget : t.bootTarget = s.bootTarget) (p : Word)
    (n : Nat) : t.loadBytes p n = s.loadBytes p n := by
  simp only [State.loadBytes_eq_map, State.byteAt, State.redirect, mem, bootTarget]

/-- What a DMA may read depends on the map and the redirection only (R95). -/
theorem State.readableBuffer_congr {s t : State} (params : t.params = s.params) (bootTarget : t.bootTarget = s.bootTarget)
    (p : Word) (n : Nat) : t.readableBuffer p n = s.readableBuffer p n := by
  rw [State.readableBuffer_eq, State.readableBuffer_eq, params]
  exact State.dmaAll_congr bootTarget _ p n

/-- A host's `send` that leaves the channel, memory and the run alone, on the states `I` and the buffers `ok`. -/
structure QuietSend (h : PdcHost) (send : List Byte → State → State) (I : State → Prop) (ok : List Byte → Prop) : Prop where
  setPdc : ∀ {s : State} {b : List Byte} (y : Pdc), I s → ok b → send b (s.setPdc h y) = (send b s).setPdc h y
  pdc : ∀ {s : State} {b : List Byte}, I s → ok b → (send b s).pdc h = s.pdc h
  fault : ∀ {s : State} {b : List Byte}, I s → ok b → (send b s).fault = s.fault
  mem : ∀ {s : State} {b : List Byte}, I s → ok b → (send b s).mem = s.mem
  params : ∀ {s : State} {b : List Byte}, I s → ok b → (send b s).params = s.params
  bootTarget : ∀ {s : State} {b : List Byte}, I s → ok b → (send b s).bootTarget = s.bootTarget
  keeps : ∀ {s : State} {b : List Byte}, I s → ok b → I (send b s)

section

variable {s : State} {h : PdcHost} {unit : Nat} {send : List Byte → State → State} {limit : Option Nat}

/-- The last round of a transfer: the limit, or both counts, are used up with it (R272). -/
theorem pdcTxRounds_last {p : Pdc} {k : Nat} {t : State} (fuel done : Nat) (more : limit ≠ some 0)
    (rolled : (s.pdc h).txRollOver = p) (left : p.tcr ≠ 0#16) (units : withinLimit limit p.tcr.toNat = k)
    (ok : s.readableBuffer p.tpr (k * unit) = true)
    (sent : send (s.loadBytes p.tpr (k * unit)) (s.setPdc h (p.txAdvance k unit)) = t) (live : t.fault = none)
    (pdc : t.pdc h = p.txAdvance k unit) (last : limitAfter limit k = some 0 ∨ k = p.tcr.toNat ∧ p.tncr = 0#16) :
    pdcTxRounds h unit send (fuel + 2) limit done s = (done + k * unit, t) := by
  subst rolled units
  rw [pdcTxRounds_send _ _ more left ok]
  simp only [sent, live, Option.isSome_none, Bool.false_eq_true, if_false]
  rcases last with used | ⟨all, none_next⟩
  · rw [used, pdcTxRounds_limit]
  · refine pdcTxRounds_empty _ _ ?_
    have used : ((s.pdc h).txRollOver.txAdvance (withinLimit limit (s.pdc h).txRollOver.tcr.toNat) unit).tcr = 0#16 :=
      (count_sub_eq_zero_iff all.le).2 all
    rw [pdc, Pdc.txRollOver, if_neg (fun rolls => rolls.2 none_next), used]

/-- The end of a transfer that no buffer stopped: TXBUFE and the host's output (R272). -/
theorem pdcTx_of_rounds {n : Nat} {t : State} (rounds : pdcTxRounds h unit send 3 limit 0 s = (n, t))
    (live : t.fault = none) :
    pdcTx h unit send limit s = (n, pdcUpdateIrq h (t.setPdc h (t.pdc h).withTxbufe)) := by
  simp [pdcTx, rounds, State.andThen, live]

/-- The pair that becomes current when the first buffer is used up (R272). -/
theorem txRollOver_txAdvance {q : Pdc} (next : q.tncr ≠ 0#16) :
    (q.txAdvance q.tcr.toNat unit).txRollOver =
      { q with tpr := q.tnpr, tcr := q.tncr, tncr := 0#16, endtx := true } := by
  simp [Pdc.txRollOver, Pdc.txAdvance, next]

theorem withinLimit_le (limit : Option Nat) (n : Nat) : withinLimit limit n ≤ n := by
  cases limit with
  | none => exact le_rfl
  | some m => exact Nat.min_le_left _ _

/-- The counts of both transmit pairs, after the roll-over too (R272). -/
theorem txCount_eq (p : Pdc) : p.txCount = p.txCurrent.tcr.toNat + p.txCurrent.tncr.toNat := by
  unfold Pdc.txCurrent Pdc.txCount
  split <;> simp_all

theorem txCurrent_txten (p : Pdc) : p.txCurrent.txten = p.txten := by
  unfold Pdc.txCurrent
  split <;> rfl

theorem txCurrent_endtx (p : Pdc) : p.txCurrent.endtx = p.endtx := by
  unfold Pdc.txCurrent
  split <;> rfl

variable {I : State → Prop} {ok : List Byte → Prop}

/-- A transmit transfer with buffers that may be read: what it sends and what it leaves (R272). -/
theorem pdcTx_of_sendBuffersOk (quiet : QuietSend h send I ok) (inv : I s) (live : s.fault = none)
    (count : (s.pdc h).txCount ≠ 0) (more : limit ≠ some 0)
    (readable : s.sendBuffersOk h unit (withinLimit limit (s.pdc h).txCount) = true)
    (sendable : ∀ b, b ∈ s.sentBuffers h unit (withinLimit limit (s.pdc h).txCount) → ok b) :
    pdcTx h unit send limit s = (withinLimit limit (s.pdc h).txCount * unit, pdcUpdateIrq h
      (((s.sentBuffers h unit (withinLimit limit (s.pdc h).txCount)).foldl (fun r b => send b r) s).setPdc h
        ((s.pdc h).afterSend unit (withinLimit limit (s.pdc h).txCount)))) := by
  obtain ⟨rolled, left⟩ := txRollOver_of_count count
  have total := txCount_eq (s.pdc h)
  simp only [State.sendBuffersOk, Bool.and_eq_true] at readable
  obtain ⟨ok1, ok2⟩ := readable
  simp only [State.sentBuffers, Pdc.afterSend, ← txCurrent_txten (s.pdc h), ← txCurrent_endtx (s.pdc h)] at *
  generalize (s.pdc h).txCurrent = q at *
  generalize (s.pdc h).txCount = all at *
  have positive := count_pos_iff.1 left
  by_cases within : withinLimit limit all ≤ q.tcr.toNat
  case pos =>
    rw [if_pos within] at sendable ⊢
    rw [if_pos within]
    rw [Nat.min_eq_left within] at ok1
    have units : withinLimit limit q.tcr.toNat = withinLimit limit all := by
      cases limit with
      | none => simp only [withinLimit] at within ⊢; omega
      | some m => simp only [withinLimit] at within ⊢; omega
    have last : limitAfter limit (withinLimit limit all) = some 0
        ∨ withinLimit limit all = q.tcr.toNat ∧ q.tncr = 0#16 := by
      cases limit with
      | none =>
        have none_next : q.tncr.toNat = 0 := by simp only [withinLimit] at within; omega
        exact .inr ⟨by simp only [withinLimit] at within ⊢; omega, BitVec.eq_of_toNat_eq none_next⟩
      | some m =>
        simp only [withinLimit] at within ⊢
        by_cases used : m ≤ all
        · exact .inl (by simp [limitAfter, used])
        · have none_next : q.tncr.toNat = 0 := by omega
          exact .inr ⟨by omega, BitVec.eq_of_toNat_eq none_next⟩
    generalize withinLimit limit all = n at *
    have okb := sendable _ (List.mem_singleton.2 rfl)
    have rounds := pdcTxRounds_last (send := send) (unit := unit) (k := n) 1 0 more rolled left units ok1
      (quiet.setPdc (q.txAdvance n unit) inv okb) (by rw [State.setPdc_fault, quiet.fault inv okb, live])
      (State.setPdc_pdc_same _ _ _) last
    rw [pdcTx_of_rounds rounds (by rw [State.setPdc_fault, quiet.fault inv okb, live])]
    have finished := count_sub_eq_zero_iff within
    simp [Pdc.withTxbufe, Pdc.txAdvance, finished, Bool.and_comm, Bool.and_left_comm]
  case neg =>
    rw [if_neg within] at sendable ⊢
    rw [if_neg within]
    have past : q.tcr.toNat < withinLimit limit all := Nat.lt_of_not_le within
    have bound := withinLimit_le limit all
    rw [Nat.min_eq_right past.le] at ok1
    have next : q.tncr ≠ 0#16 := by rw [count_pos_iff]; omega
    have units : withinLimit limit q.tcr.toNat = q.tcr.toNat := by
      cases limit with
      | none => rfl
      | some m => simp only [withinLimit] at past ⊢; omega
    have more2 : limitAfter limit q.tcr.toNat ≠ some 0 := by
      cases limit with
      | none => simp [limitAfter]
      | some m => simp only [withinLimit] at past; simp [limitAfter]; omega
    have units2 : withinLimit (limitAfter limit q.tcr.toNat) q.tncr.toNat = withinLimit limit all - q.tcr.toNat := by
      cases limit with
      | none => simp only [withinLimit, limitAfter, Option.map_none]; omega
      | some m => simp only [withinLimit, limitAfter, Option.map_some]; omega
    have last : limitAfter (limitAfter limit q.tcr.toNat) (withinLimit limit all - q.tcr.toNat) = some 0
        ∨ withinLimit limit all - q.tcr.toNat = q.tncr.toNat ∧ (0#16 : BitVec 16) = 0#16 := by
      cases limit with
      | none => exact .inr ⟨by simp only [withinLimit]; omega, rfl⟩
      | some m =>
        simp only [withinLimit, limitAfter, Option.map_some, Option.some.injEq, and_true]
        omega
    have split : withinLimit limit all * unit = q.tcr.toNat * unit + (withinLimit limit all - q.tcr.toNat) * unit := by
      rw [← Nat.add_mul]; congr 1; omega
    generalize withinLimit limit all = n at *
    have okb := sendable _ (List.mem_cons_self ..)
    have okb2 := sendable _ (List.mem_cons_of_mem _ (List.mem_cons_self ..))
    have inv1 := quiet.keeps inv okb
    generalize first : s.loadBytes q.tpr (q.tcr.toNat * unit) = b at *
    have sent := quiet.setPdc (q.txAdvance q.tcr.toNat unit) inv okb
    have load2 : ((send b s).setPdc h (q.txAdvance q.tcr.toNat unit)).loadBytes q.tnpr ((n - q.tcr.toNat) * unit)
        = s.loadBytes q.tnpr ((n - q.tcr.toNat) * unit) :=
      State.loadBytes_congr (t := (send b s).setPdc h (q.txAdvance q.tcr.toNat unit)) (quiet.mem inv okb)
        (quiet.bootTarget inv okb) _ _
    have read2 : ((send b s).setPdc h (q.txAdvance q.tcr.toNat unit)).readableBuffer q.tnpr ((n - q.tcr.toNat) * unit)
        = true :=
      (State.readableBuffer_congr (t := (send b s).setPdc h (q.txAdvance q.tcr.toNat unit)) (quiet.params inv okb)
        (quiet.bootTarget inv okb) _ _).trans ok2
    have live1 : ((send b s).setPdc h (q.txAdvance q.tcr.toNat unit)).fault = none :=
      (quiet.fault inv okb).trans live
    have round1 : pdcTxRounds h unit send 3 limit 0 s = pdcTxRounds h unit send 2 (limitAfter limit q.tcr.toNat)
        (q.tcr.toNat * unit) ((send b s).setPdc h (q.txAdvance q.tcr.toNat unit)) := by
      rw [pdcTxRounds_send 2 0 more (rolled ▸ left) (by rw [rolled, units]; exact ok1)]
      simp only [rolled, units, first, sent, live1, Option.isSome_none, Bool.false_eq_true, if_false, Nat.zero_add]
    have rounds := round1.trans (pdcTxRounds_last (send := send) (k := n - q.tcr.toNat)
      (p := { q with tpr := q.tnpr, tcr := q.tncr, tncr := 0#16, endtx := true })
      (t := (send (s.loadBytes q.tnpr ((n - q.tcr.toNat) * unit)) (send b s)).setPdc h (Pdc.txAdvance (n - q.tcr.toNat)
        unit { q with tpr := q.tnpr, tcr := q.tncr, tncr := 0#16, endtx := true })) 0 (q.tcr.toNat * unit) more2
      (by rw [State.setPdc_pdc_same, txRollOver_txAdvance next]) next units2 read2
      (by rw [load2, State.setPdc_setPdc]; exact quiet.setPdc _ inv1 okb2)
      (by rw [State.setPdc_fault, quiet.fault inv1 okb2]; exact live1) (State.setPdc_pdc_same _ _ _) last)
    rw [pdcTx_of_rounds rounds (by rw [State.setPdc_fault, quiet.fault inv1 okb2]; exact live1), split]
    have within2 : n - q.tcr.toNat ≤ q.tncr.toNat := by omega
    have finished := count_sub_eq_zero_iff within2
    simp [Pdc.withTxbufe, Pdc.txAdvance, finished, Bool.and_comm]

/-- A transmit transfer whose buffers may not all be read: the second is judged after the first has left (R273). -/
theorem pdcTx_of_not_sendBuffersOk (quiet : QuietSend h send I ok) (inv : I s) (live : s.fault = none)
    (count : (s.pdc h).txCount ≠ 0) (more : limit ≠ some 0)
    (bad : s.sendBuffersOk h unit (withinLimit limit (s.pdc h).txCount) = false)
    (sendable : ∀ b, b ∈ s.sentBuffers h unit (withinLimit limit (s.pdc h).txCount) → ok b) :
    (pdcTx h unit send limit s).2.fault = some (.dma h
      (if s.readableBuffer (s.pdc h).txCurrent.tpr (withinLimit limit (s.pdc h).txCurrent.tcr.toNat * unit)
        then (s.pdc h).txCurrent.tnpr else (s.pdc h).txCurrent.tpr) .notMemory) := by
  cases first : s.readableBuffer (s.pdc h).txCurrent.tpr (withinLimit limit (s.pdc h).txCurrent.tcr.toNat * unit) with
  | false => simpa using pdcTx_of_not_readable count more first
  | true =>
    obtain ⟨rolled, left⟩ := txRollOver_of_count count
    have total := txCount_eq (s.pdc h)
    simp only [State.sendBuffersOk, Bool.and_eq_false_iff] at bad
    simp only [State.sentBuffers] at sendable
    generalize (s.pdc h).txCurrent = q at *
    generalize (s.pdc h).txCount = all at *
    have bound := withinLimit_le limit all
    have min1 : min (withinLimit limit all) q.tcr.toNat = withinLimit limit q.tcr.toNat := by
      cases limit with
      | none => simp only [withinLimit]; omega
      | some m => simp only [withinLimit]; omega
    rw [min1, first] at bad
    simp only [Bool.true_eq_false, false_or] at bad
    have past : q.tcr.toNat < withinLimit limit all := by
      by_contra within
      rw [Nat.sub_eq_zero_of_le (Nat.le_of_not_lt within), Nat.zero_mul] at bad
      simp [State.readableBuffer, State.dmaAll] at bad
    have next : q.tncr ≠ 0#16 := by rw [count_pos_iff]; omega
    rw [if_neg (Nat.not_le_of_lt past)] at sendable
    have units : withinLimit limit q.tcr.toNat = q.tcr.toNat := by rw [← min1, Nat.min_eq_right past.le]
    have more2 : limitAfter limit q.tcr.toNat ≠ some 0 := by
      cases limit with
      | none => simp [limitAfter]
      | some m => simp only [withinLimit] at past; simp [limitAfter]; omega
    have units2 : withinLimit (limitAfter limit q.tcr.toNat) q.tncr.toNat = withinLimit limit all - q.tcr.toNat := by
      cases limit with
      | none => simp only [withinLimit, limitAfter, Option.map_none]; omega
      | some m => simp only [withinLimit, limitAfter, Option.map_some]; omega
    have okb := sendable _ (List.mem_cons_self ..)
    generalize loaded : s.loadBytes q.tpr (q.tcr.toNat * unit) = b at *
    have sent := quiet.setPdc (q.txAdvance q.tcr.toNat unit) inv okb
    have live1 : ((send b s).setPdc h (q.txAdvance q.tcr.toNat unit)).fault = none :=
      (quiet.fault inv okb).trans live
    rw [units] at first
    have round1 : pdcTxRounds h unit send 3 limit 0 s = pdcTxRounds h unit send 2 (limitAfter limit q.tcr.toNat)
        (q.tcr.toNat * unit) ((send b s).setPdc h (q.txAdvance q.tcr.toNat unit)) := by
      rw [pdcTxRounds_send 2 0 more (rolled ▸ left) (by rw [rolled, units]; exact first)]
      simp only [rolled, units, loaded, sent, live1, Option.isSome_none, Bool.false_eq_true, if_false, Nat.zero_add]
    have rolled2 : (((send b s).setPdc h (q.txAdvance q.tcr.toNat unit)).pdc h).txRollOver
        = { q with tpr := q.tnpr, tcr := q.tncr, tncr := 0#16, endtx := true } := by
      rw [State.setPdc_pdc_same, txRollOver_txAdvance next]
    refine pdcTx_fault ?_
    rw [round1, pdcTxRounds_abort 1 _ more2 (by rw [rolled2]; exact next), State.raise_fault, rolled2]
    · simp
    · rw [rolled2, units2]
      exact (State.readableBuffer_congr (t := (send b s).setPdc h (q.txAdvance q.tcr.toNat unit)) (quiet.params inv okb)
        (quiet.bootTarget inv okb) _ _).trans bad

end

end Sys2Proof.Machine
end

section
/-! Facts the peripherals share: the bits of a status word, a recomputed interrupt output, and a channel whose buffers are
used up. -/

namespace Sys2Proof.Machine

/-! ### The bits of a status word -/

theorem bit_or (a b : Word) (i : Nat) : bit (a ||| b) i = (bit a i || bit b i) := BitVec.getLsbD_or

theorem bit_bitAt (b : Bool) {i : Nat} (j : Nat) (hi : i < 32) : bit (bitAt b i) j = (b && decide (j = i)) := by
  cases b
  · simp [bit, bitAt]
  · by_cases same : j = i
    · subst same; simp [bit, bitAt, hi]
    · by_cases below : j < i
      · simp [bit, bitAt, same, below]
      · have above : j - i ≠ 0 := by omega
        simp [bit, bitAt, same, above]

/-- A status word has no bit outside those it names. -/
theorem bitAt_and (b : Bool) {i : Nat} {m : Word} (clear : m.getLsbD i = false) : bitAt b i &&& m = 0#32 := by
  cases b
  · simp [bitAt]
  · refine BitVec.eq_of_getLsbD_eq fun j hj => ?_
    by_cases same : j = i
    · subst same; simp [clear]
    · have off : bit (bitAt true i) j = false := by
        by_cases hi : i < 32
        · simp [bit_bitAt _ _ hi, same]
        · have low : j < i := by omega
          simp [bit, bitAt, low]
      simp only [bit] at off
      simp [off]

theorem or_and (a b m : Word) : (a ||| b) &&& m = (a &&& m) ||| (b &&& m) := BitVec.and_or_distrib_right

/-! ### A recomputed interrupt output -/

/-- Driving a line to the level it has just been given changes nothing (R222). -/
theorem driveLine_idem (n : Fin 32) (b : Bool) (s : State) : driveLine n b (driveLine n b s) = driveLine n b s :=
  if_pos (driveLine_line n b s)

theorem usartUpdateIrq_idem (u : Fin 6) (s : State) : usartUpdateIrq u (usartUpdateIrq u s) = usartUpdateIrq u s := by
  have status : (usartUpdateIrq u s).usartCsr u = s.usartCsr u := by rw [usartUpdateIrq_frame]; rfl
  have again : usartUpdateIrq u (usartUpdateIrq u s) = driveLine (usartLine u)
      (decide ((usartUpdateIrq u s).usartCsr u &&& ((usartUpdateIrq u s).usart u).imr ≠ 0#32)) (usartUpdateIrq u s) := rfl
  rw [again, status, usartUpdateIrq_usart]
  exact driveLine_idem _ _ s

/-- The output follows also what went before its recomputation, if that kept to the line (R269, R778). -/
theorem irqFollows_of_onlyLine {h : PdcHost} {s t : State} (before : Aic.onlyLine (hostLine h) s.aic t.aic) :
    irqFollows h s (pdcUpdateIrq h t) := by
  obtain ⟨level, line⟩ := irqFollows_pdcUpdateIrq h t
  exact ⟨level, Aic.onlyLine_trans before line⟩

/-- The recomputation keeps to the host's line. -/
theorem pdcUpdateIrq_onlyLine (h : PdcHost) (s : State) : Aic.onlyLine (hostLine h) s.aic (pdcUpdateIrq h s).aic :=
  (irqFollows_pdcUpdateIrq h s).2

/-- No link is part of an interrupt output. -/
theorem irqFollows_setLink {h : PdcHost} {s t : State} (l : LinkId) (y : Iox) (follows : irqFollows h s t) :
    irqFollows h s (t.setLink l y) := by
  cases h <;> exact follows

/-! ### The stores of a transfer -/

theorem State.storeReceived_eq (s : State) (h : PdcHost) (us : List (List Byte)) :
    s.storeReceived h us = s.setMem (s.storeReceived h us).mem := by
  unfold State.storeReceived
  dsimp only
  rw [State.storeBytes_eq, State.storeBytes_eq]
  rfl

@[simp] theorem State.storeReceived_aic (s : State) (h : PdcHost) (us : List (List Byte)) :
    (s.storeReceived h us).aic = s.aic := by rw [State.storeReceived_eq]; rfl

@[simp] theorem State.storeReceived_fault (s : State) (h : PdcHost) (us : List (List Byte)) :
    (s.storeReceived h us).fault = s.fault := by rw [State.storeReceived_eq]; rfl

@[simp] theorem State.storeReceived_usart (s : State) (h : PdcHost) (us : List (List Byte)) (u : Fin 6) :
    (s.storeReceived h us).usart u = s.usart u := by rw [State.storeReceived_eq]; rfl

@[simp] theorem State.storeReceived_spi (s : State) (h : PdcHost) (us : List (List Byte)) (u : Fin 2) :
    (s.storeReceived h us).spi u = s.spi u := by rw [State.storeReceived_eq]; rfl

@[simp] theorem State.storeReceived_twi (s : State) (h : PdcHost) (us : List (List Byte)) :
    (s.storeReceived h us).twi = s.twi := by rw [State.storeReceived_eq]; rfl

/-- What a store leaves in memory depends on memory and the redirection only (R8, R154). -/
theorem State.storeBytes_mem_congr {s t : State} (mem : t.mem = s.mem) (bootTarget : t.bootTarget = s.bootTarget)
    (p : Word) (bs : List Byte) : (t.storeBytes p bs).mem = (s.storeBytes p bs).mem := by
  induction bs generalizing s t p with
  | nil => exact mem
  | cons b bs ih =>
    have redirect : t.redirect p = s.redirect p := by simp only [State.redirect, bootTarget]
    exact ih (by simp [mem, redirect]) (by simp [bootTarget]) _

theorem State.storeReceived_mem_congr {s t : State} {h : PdcHost} (mem : t.mem = s.mem)
    (bootTarget : t.bootTarget = s.bootTarget) (pdc : t.pdc h = s.pdc h) (us : List (List Byte)) :
    (t.storeReceived h us).mem = (s.storeReceived h us).mem := by
  unfold State.storeReceived
  rw [pdc]
  exact State.storeBytes_mem_congr (State.storeBytes_mem_congr mem bootTarget _ _) (by simp [bootTarget]) _ _

theorem State.receiveBuffersOk_congr {s t : State} {h : PdcHost} (params : t.params = s.params)
    (bootTarget : t.bootTarget = s.bootTarget) (pdc : t.pdc h = s.pdc h) (unit n : Nat) :
    t.receiveBuffersOk h unit n = s.receiveBuffersOk h unit n := by
  simp only [State.receiveBuffersOk, pdc, State.writableBuffer_eq, params, State.dmaAll_congr bootTarget]

/-! ### Channels at their end -/

theorem rxActive_iff (p : Pdc) : p.rxActive = true ↔ p.rxten = true ∧ p.rxRoom ≠ 0 := by
  have zero {c : BitVec 16} : c ≠ 0#16 ↔ c.toNat ≠ 0 := by rw [count_pos_iff]; omega
  simp only [Pdc.rxActive, Pdc.rxRoom, Bool.and_eq_true, Bool.or_eq_true, decide_eq_true_eq, zero]
  exact and_congr_right fun _ => by omega

theorem txActive_iff (p : Pdc) : p.txActive = true ↔ p.txten = true ∧ p.txCount ≠ 0 := by
  have zero {c : BitVec 16} : c ≠ 0#16 ↔ c.toNat ≠ 0 := by rw [count_pos_iff]; omega
  simp only [Pdc.txActive, Pdc.txCount, Bool.and_eq_true, Bool.or_eq_true, decide_eq_true_eq, zero]
  exact and_congr_right fun _ => by omega

theorem rxRoom_eq (p : Pdc) : p.rxRoom = p.rxCurrent.rcr.toNat + p.rxCurrent.rncr.toNat := by
  unfold Pdc.rxCurrent Pdc.rxRoom
  split <;> simp_all

/-- Buffers that a transfer filled leave the channel with nothing to receive into (R270, R271). -/
theorem afterReceive_not_rxActive {p : Pdc} (unit : Nat) {n : Nat} (all : n = p.rxRoom) :
    (p.afterReceive unit n).rxActive = false := by
  have room := rxRoom_eq p
  rw [← Bool.not_eq_true, rxActive_iff]
  rintro ⟨-, left⟩
  apply left
  unfold Pdc.afterReceive Pdc.rxRoom
  generalize p.rxCurrent = q at *
  have full : n - q.rcr.toNat = q.rncr.toNat := by omega
  have used := (count_sub_eq_zero_iff (c := q.rncr) full.le).2 full
  have notLess : ¬ n < q.rcr.toNat := by omega
  by_cases next : q.rncr = 0#16 <;> simp [notLess, next, used]

end Sys2Proof.Machine
end

section
/-! The USART: its registers, the receive pump with and without the DMA, and its transmissions (R300 to R324). O28 to
O33. -/

namespace Sys2Proof.Machine

/-! ### The receive pump -/

/-- The register half of the pump on a channel that may take a character (R310). -/
def Usart.hold (x : Usart) : Usart :=
  match x.rxq with
  | [] => x
  | c :: cs => if x.rxrdy then x else { x with rhr := c, rxrdy := true, rxq := cs }

/-- The characters the DMA took leave the queue (R310). -/
def Usart.dropRx (n : Nat) (x : Usart) : Usart := { x with rxq := x.rxq.drop n }

section

variable {s : State} {u : Fin 6}

theorem usartPumpHold_eq (u : Fin 6) (s : State) : usartPumpHold u s =
    s.setUsart u (if (s.usart u).rxEnabled && !(s.pdc (.usart u)).rxActive then (s.usart u).hold else s.usart u) := by
  unfold usartPumpHold Usart.hold
  dsimp only
  cases gate : (s.usart u).rxEnabled && !(s.pdc (.usart u)).rxActive with
  | false => simp
  | true => cases held : (s.usart u).rxrdy <;> cases queue : (s.usart u).rxq <;> simp

/-- A pump with nothing for the DMA (R310). -/
theorem usartRxPump_idle (live : s.fault = none)
    (idle : (s.usart u).rxEnabled = false ∨ (s.usart u).rxq = [] ∨ (s.pdc (.usart u)).rxActive = false) :
    usartRxPump u s = usartUpdateIrq u (usartPumpHold u s) := by
  have skipped : usartPumpDma u s = s := by
    rcases idle with off | empty | unarmed <;> simp [usartPumpDma, *]
  rw [usartRxPump, skipped, State.andThen_live _ live]

/-- A pump whose characters go to memory (R270, R310). -/
theorem usartRxPump_dma (live : s.fault = none) (enabled : (s.usart u).rxEnabled = true) (queue : (s.usart u).rxq ≠ [])
    (armed : (s.pdc (.usart u)).rxten = true) (room : (s.pdc (.usart u)).rxRoom ≠ 0)
    (ok : s.receiveBuffersOk (.usart u) 1 (min (s.usart u).rxq.length (s.pdc (.usart u)).rxRoom) = true) :
    let n := min (s.usart u).rxq.length (s.pdc (.usart u)).rxRoom
    usartRxPump u s = usartUpdateIrq u ((pdcUpdateIrq (.usart u)
      ((s.storeReceived (.usart u) (((s.usart u).rxq.take n).map fun c => [c.setWidth 8])).setPdc (.usart u)
        ((s.pdc (.usart u)).afterReceive 1 n))).setUsart u
          ((s.usart u).dropRx n).hold) := by
  intro n
  have active := (rxActive_iff (s.pdc (.usart u))).2 ⟨armed, room⟩
  have stored := pdcRx_of_receiveBuffersOk (unit := 1) (us := (s.usart u).rxq.map fun c => [c.setWidth 8]) live
    (by simp) room (by simpa using ok)
  rw [List.length_map, ← List.map_take] at stored
  have dma : usartPumpDma u s = (pdcUpdateIrq (.usart u)
      ((s.storeReceived (.usart u) (((s.usart u).rxq.take n).map fun c => [c.setWidth 8])).setPdc (.usart u)
        ((s.pdc (.usart u)).afterReceive 1 n))).setUsart u ((s.usart u).dropRx n) := by
    simp [usartPumpDma, enabled, queue, active, stored, State.andThen, live, n, Usart.dropRx]
  have held : (if !((s.pdc (.usart u)).afterReceive 1 n).rxActive
      then ((s.usart u).dropRx n).hold
      else (s.usart u).dropRx n)
        = ((s.usart u).dropRx n).hold := by
    by_cases all : n = (s.pdc (.usart u)).rxRoom
    · simp [afterReceive_not_rxActive 1 all]
    · have used : (s.usart u).rxq.drop n = [] := List.drop_eq_nil_of_le (by omega)
      simp [Usart.hold, Usart.dropRx, used]
  have stillEnabled : ((s.usart u).dropRx n).rxEnabled = true := enabled
  rw [usartRxPump, dma, State.andThen_live _ (by simp [live]), usartPumpHold_eq, ← held]
  simp [stillEnabled]

/-- A pump whose buffers may not be written aborts (R273). -/
theorem usartRxPump_abort (live : s.fault = none) (enabled : (s.usart u).rxEnabled = true) (queue : (s.usart u).rxq ≠ [])
    (armed : (s.pdc (.usart u)).rxten = true) (room : (s.pdc (.usart u)).rxRoom ≠ 0)
    (bad : s.receiveBuffersOk (.usart u) 1 (min (s.usart u).rxq.length (s.pdc (.usart u)).rxRoom) = false) :
    ∃ a e, (usartRxPump u s).fault = some (.dma (.usart u) a e) := by
  have active := (rxActive_iff (s.pdc (.usart u))).2 ⟨armed, room⟩
  obtain ⟨e, aborts⟩ := pdcRx_of_not_receiveBuffersOk (unit := 1) (us := (s.usart u).rxq.map fun c => [c.setWidth 8]) live
    (by simp) room rfl (by simpa using bad)
  have dma : usartPumpDma u s = (pdcRx (.usart u) 1 ((s.usart u).rxq.map fun c => [c.setWidth 8]) s).2 := by
    simp only [usartPumpDma, enabled, active, Bool.and_true, Bool.true_and, Bool.not_eq_true', List.isEmpty_eq_false_iff,
      ne_eq, queue, not_false_eq_true, if_true]
    exact State.andThen_aborted _ (by rw [aborts]; rfl)
  rw [usartRxPump, dma, State.andThen_aborted _ (by rw [aborts]; rfl), aborts]
  exact ⟨_, _, rfl⟩

/-- A state that differs from another in one USART, its channel, memory and the AIC only. -/
theorem usartRxPump_frame_of_dma {m : List Host.Cell} {y : Usart} {p : Pdc} {t : State}
    (pumped : t = usartUpdateIrq u ((pdcUpdateIrq (.usart u) ((s.setMem m).setPdc (.usart u) p)).setUsart u y)) :
    t.mem = m ∧ t.pdc (.usart u) = p ∧ t.usart u = y
      ∧ t = (((s.setMem m).setPdc (.usart u) p).setUsart u y).setAic t.aic ∧ irqFollows (.usart u) s t := by
  subst pumped
  have hostIrq : pdcUpdateIrq (.usart u) ((s.setMem m).setPdc (.usart u) p)
      = ((s.setMem m).setPdc (.usart u) p).setAic (usartUpdateIrq u ((s.setMem m).setPdc (.usart u) p)).aic :=
    usartUpdateIrq_frame u _
  refine ⟨by simp, by simp, by simp, ?_, ?_⟩
  · rw [hostIrq, usartUpdateIrq_frame]; rfl
  · exact irqFollows_of_onlyLine (h := .usart u) (s := s)
      (pdcUpdateIrq_onlyLine (.usart u) ((s.setMem m).setPdc (.usart u) p))

/-! ### The control register -/

/-- The actions of `CR` taken together (R303, R304). -/
theorem Usart.control_eq (v : Word) (x : Usart) : x.control v = { x with
    rxEnabled := ((x.rxEnabled && !bit v 2) || bit v 4) && !bit v 5
    txEnabled := ((x.txEnabled && !bit v 3) || bit v 6) && !bit v 7
    rxq := if bit v 2 then [] else x.rxq
    ovre := x.ovre && !bit v 2 && !bit v 8
    frame := x.frame && !bit v 2 && !bit v 8
    pare := x.pare && !bit v 2 && !bit v 8
    timeout := x.timeout && !bit v 2 && !bit v 11 && !bit v 15 } := by
  have reset : (if bit v 2 then x.rxReset else x) = { x with
      rxEnabled := x.rxEnabled && !bit v 2, rxq := if bit v 2 then [] else x.rxq, ovre := x.ovre && !bit v 2
      frame := x.frame && !bit v 2, pare := x.pare && !bit v 2, timeout := x.timeout && !bit v 2 } := by
    cases bit v 2 <;> simp [Usart.rxReset]
  have txReset (y : Usart) : (if bit v 3 then y.txReset else y) = { y with txEnabled := y.txEnabled && !bit v 3 } := by
    cases bit v 3 <;> simp [Usart.txReset]
  have rxOn (y : Usart) : (if bit v 4 then { y with rxEnabled := true } else y)
      = { y with rxEnabled := y.rxEnabled || bit v 4 } := by cases bit v 4 <;> simp
  have rxOff (y : Usart) : (if bit v 5 then { y with rxEnabled := false } else y)
      = { y with rxEnabled := y.rxEnabled && !bit v 5 } := by cases bit v 5 <;> simp
  have txOn (y : Usart) : (if bit v 6 then { y with txEnabled := true } else y)
      = { y with txEnabled := y.txEnabled || bit v 6 } := by cases bit v 6 <;> simp
  have txOff (y : Usart) : (if bit v 7 then { y with txEnabled := false } else y)
      = { y with txEnabled := y.txEnabled && !bit v 7 } := by cases bit v 7 <;> simp
  have status (y : Usart) : (if bit v 8 then { y with ovre := false, frame := false, pare := false } else y)
      = { y with ovre := y.ovre && !bit v 8, frame := y.frame && !bit v 8, pare := y.pare && !bit v 8 } := by
    cases bit v 8 <;> simp
  have timeout (y : Usart) : (if bit v 11 || bit v 15 then { y with timeout := false } else y)
      = { y with timeout := y.timeout && !bit v 11 && !bit v 15 } := by cases bit v 11 <;> cases bit v 15 <;> simp
  unfold Usart.control
  extract_lets a b c d e f g
  rw [timeout g, show g = _ from status f, show f = _ from txOff e, show e = _ from txOn d, show d = _ from rxOff c,
    show c = _ from rxOn b, show b = _ from txReset a, show a = _ from reset]

end

/-! ### Transmission -/

/-- A transmission and a PDC do not meet. -/
theorem emitData_setPdc (s : State) (h : PdcHost) (y : Pdc) {l : LinkId} (bs : List Byte) :
    emitData l bs (s.setPdc h y) = (emitData l bs s).setPdc h y := by
  by_cases client : (s.link l).client = true
  · simp only [emitData, State.setPdc_link, State.setPdc_params, client, if_true]; rfl
  · simp only [emitData, State.setPdc_link, client, Bool.false_eq_true, if_false]

/-- A transmission of a USART touches nothing but its link (R314, R732). -/
theorem quietSend_usart (u : Fin 6) :
    QuietSend (.usart u) (emitData (.usart u)) (fun _ => True) (fun _ => True) where
  setPdc y _ _ := emitData_setPdc _ _ y _
  pdc _ _ := by simp
  fault _ _ := by simp
  mem _ _ := by simp
  params _ _ := by simp
  bootTarget _ _ := by simp
  keeps _ _ := trivial

/-- Transmissions one after another touch nothing but their link. -/
theorem foldl_emitData_frame (l : LinkId) (bufs : List (List Byte)) (s : State) :
    bufs.foldl (fun r b => emitData l b r) s = s.setLink l ((bufs.foldl (fun r b => emitData l b r) s).link l) := by
  induction bufs generalizing s with
  | nil => simp
  | cons b bufs ih =>
    rw [List.foldl_cons, ih, emitData_frame]
    simp

section

variable {s : State} {u : Fin 6}

/-- The transmit DMA of a USART with buffers that may be read (R272, R314). -/
theorem usartTxStart_of_sendBuffersOk (live : s.fault = none) (count : (s.pdc (.usart u)).txCount ≠ 0)
    (ok : s.sendBuffersOk (.usart u) 1 (s.pdc (.usart u)).txCount = true) :
    usartTxStart u s = usartUpdateIrq u
      (((s.sentBuffers (.usart u) 1 (s.pdc (.usart u)).txCount).foldl (fun r b => emitData (.usart u) b r) s).setPdc
        (.usart u) ((s.pdc (.usart u)).afterSend 1 (s.pdc (.usart u)).txCount)) :=
  congrArg Prod.snd
    (pdcTx_of_sendBuffersOk (quietSend_usart u) trivial live count (limit := none) (by simp) ok fun _ _ => trivial)

/-- What a transmission of the DMA leaves. -/
theorem usartUpdateIrq_sent {t : State} {p : Pdc} {y : Iox}
    (sent : t = usartUpdateIrq u ((s.setLink (.usart u) y).setPdc (.usart u) p)) :
    t.fault = s.fault ∧ t.pdc (.usart u) = p ∧ t.link (.usart u) = y
      ∧ t = ((s.setPdc (.usart u) p).setLink (.usart u) y).setAic t.aic ∧ irqFollows (.usart u) s t := by
  subst sent
  refine ⟨by simp, by simp, by simp, ?_, ?_⟩
  · rw [usartUpdateIrq_frame]; rfl
  · exact irqFollows_of_onlyLine (h := .usart u) (s := s) (Aic.onlyLine_refl _ _)

end

end Sys2Proof.Machine
end

section
/-! The statements about the USART: O28 to O33. -/

namespace Sys2Proof.Machine

section

variable {s : State} {u : Fin 6}

/-- The operation of a frame on a live machine (R390). -/
theorem exec_of_live {i : Instr} {f : State → State} (live : s.fault = none) (row : exec i s = runAgent f s) :
    exec i s = .next (f s) :=
  row.trans (runAgent_live live)

/-- A pump that no DMA serves leaves the USART and the AIC only (R310). -/
theorem usartRxPump_hold (live : s.fault = none) (enabled : (s.usart u).rxEnabled = true)
    (unarmed : (s.pdc (.usart u)).rxActive = false) :
    usartRxPump u s = usartUpdateIrq u (s.setUsart u (s.usart u).hold) := by
  rw [usartRxPump_idle live (.inr (.inr unarmed)), usartPumpHold_eq]
  simp [enabled, unarmed]

theorem usartRxPump_nothing (live : s.fault = none)
    (nothing : (s.usart u).rxEnabled = false ∨ (s.usart u).rxq = []) : usartRxPump u s = usartUpdateIrq u s := by
  have same : usartPumpHold u s = s := by
    rw [usartPumpHold_eq]
    rcases nothing with off | empty
    · simp [off]
    · simp [Usart.hold, empty]
  rw [usartRxPump_idle live (nothing.imp_right .inl), same]

/-- The state of a USART after a pump with characters left over, or none (R310). -/
theorem hold_dropRx (x : Usart) (n : Nat) : (x.dropRx n).hold = match x.rxq.drop n with
    | [] => { x with rxq := [] }
    | c :: cs => if x.rxrdy then { x with rxq := c :: cs } else { x with rhr := c, rxrdy := true, rxq := cs } := by
  unfold Usart.hold Usart.dropRx
  cases x.rxq.drop n <;> rfl

/-- What a start of the receive DMA leaves of a USART with characters waiting (R270, R310). -/
theorem usartRxPump_received (live : s.fault = none) (on : (s.usart u).rxEnabled = true) (queue : (s.usart u).rxq ≠ [])
    (armed : (s.pdc (.usart u)).rxten = true) (room : (s.pdc (.usart u)).rxRoom ≠ 0) {n : Nat}
    (hn : n = min (s.usart u).rxq.length (s.pdc (.usart u)).rxRoom)
    (ok : s.receiveBuffersOk (.usart u) 1 n = true) :
    let t := usartRxPump u s
    t.fault = none
    ∧ t.mem = (s.storeReceived (.usart u) (((s.usart u).rxq.take n).map fun c => [c.setWidth 8])).mem
    ∧ t.pdc (.usart u) = (s.pdc (.usart u)).afterReceive 1 n
    ∧ t.usart u = ((s.usart u).dropRx n).hold
    ∧ t = (((s.setMem t.mem).setPdc (.usart u) (t.pdc (.usart u))).setUsart u (t.usart u)).setAic t.aic
    ∧ irqFollows (.usart u) s t := by
  subst hn
  have pumped := usartRxPump_dma live on queue armed room ok
  dsimp only at pumped
  rw [State.storeReceived_eq] at pumped
  obtain ⟨mem, pdc, usart, frame, follows⟩ := usartRxPump_frame_of_dma pumped
  generalize usartRxPump u s = t at *
  refine ⟨?live, ?mem, pdc, usart, ?frame, follows⟩
  case live => rw [frame]; simpa using live
  case mem => rw [mem, State.storeReceived_eq]
  case frame => rw [mem, pdc, usart]; exact frame

end

/-! ### A transmission of the DMA -/

section

variable {s : State} {h : PdcHost} {p q : Pdc} (unit : Nat)

/-- Buffers whose units all lie in the pair in use (R272). -/
theorem sendBuffersOk_single (current : p.txCurrent = q) (single : q.tncr = 0#16) :
    (s.setPdc h p).sendBuffersOk h unit p.txCount = s.readableBuffer q.tpr (q.tcr.toNat * unit) := by
  have none_left : (s.setPdc h p).readableBuffer q.tnpr (0 * unit) = true := by
    simp [State.readableBuffer, State.dmaAll]
  rw [State.sendBuffersOk, State.setPdc_pdc_same, current, txCount_eq, current, single, BitVec.toNat_ofNat,
    Nat.zero_mod, Nat.add_zero, Nat.min_self, Nat.sub_self, none_left, Bool.and_true]
  exact State.readableBuffer_congr (s := s) (t := s.setPdc h p) rfl rfl _ _

theorem sentBuffers_single (current : p.txCurrent = q) (single : q.tncr = 0#16) :
    (s.setPdc h p).sentBuffers h unit p.txCount = [s.loadBytes q.tpr (q.tcr.toNat * unit)] := by
  have loaded := State.loadBytes_congr (s := s) (t := s.setPdc h p) rfl rfl
  simp [State.sentBuffers, txCount_eq, current, single, loaded]

theorem afterSend_single (current : p.txCurrent = q) (single : q.tncr = 0#16) :
    p.afterSend unit p.txCount = { q with
      tpr := q.tpr + BitVec.ofNat 32 (q.tcr.toNat * unit), tcr := 0#16, endtx := true, txbufe := p.txten } := by
  simp [Pdc.afterSend, txCount_eq, current, single]

/-- Buffers that both pairs hold (R272). -/
theorem sentBuffers_both (current : p.tcr ≠ 0#16) (next : p.tncr ≠ 0#16) : (s.setPdc h p).sentBuffers h unit p.txCount
    = [s.loadBytes p.tpr (p.tcr.toNat * unit), s.loadBytes p.tnpr (p.tncr.toNat * unit)] := by
  have loaded := State.loadBytes_congr (s := s) (t := s.setPdc h p) rfl rfl
  have positive := (count_pos_iff (c := p.tncr)).1 next
  simp [State.sentBuffers, Pdc.txCount, Pdc.txCurrent, current, loaded, positive, Nat.ne_of_gt]

theorem afterSend_both (current : p.tcr ≠ 0#16) (next : p.tncr ≠ 0#16) : p.afterSend unit p.txCount = { p with
    tpr := p.tnpr + BitVec.ofNat 32 (p.tncr.toNat * unit), tcr := 0#16, tncr := 0#16, endtx := true
    txbufe := p.txten } := by
  have positive := (count_pos_iff (c := p.tncr)).1 next
  simp [Pdc.afterSend, Pdc.txCount, Pdc.txCurrent, current, positive, Nat.ne_of_gt]

/-- The enabling of the transmitter with something to send and no receiver enabled (R266). -/
theorem pdcWritePtcr_transmit (live : s.fault = none) (off : (s.pdc h).rxten = false) (count : (s.pdc h).tcr ≠ 0#16) :
    pdcWritePtcr h 0x100#32 s = (pdcTxStart h (s.setPdc h { s.pdc h with
      txten := true, rxbuff := false, txbufe := false })).andThen (pdcUpdateIrq h) := by
  have enables : (s.pdc h).enables (halfDuplex h) 0x100#32 = { s.pdc h with txten := true } := by
    rw [Pdc.enables_eq]
    simp [show bit 0x100#32 0 = false from rfl, show bit 0x100#32 1 = false from rfl,
      show bit 0x100#32 8 = true from rfl, show bit 0x100#32 9 = false from rfl, off]
  simp [pdcWritePtcr, enables, Pdc.rxFlagsAfterWrite_none, Pdc.txFlagsAfterWrite_none, Pdc.rxActive, Pdc.txActive, off,
    count, State.andThen, live]

end

section

/-- Transmissions one after another and a PDC do not meet. -/
theorem foldl_emitData_setPdc (s : State) (h : PdcHost) (p : Pdc) (l : LinkId) (bufs : List (List Byte)) :
    bufs.foldl (fun r b => emitData l b r) (s.setPdc h p) = (bufs.foldl (fun r b => emitData l b r) s).setPdc h p := by
  induction bufs generalizing s with
  | nil => rfl
  | cons b bufs ih => rw [List.foldl_cons, emitData_setPdc, ih, List.foldl_cons]

variable {s : State} {u : Fin 6} {p : Pdc}

/-- What the transmit DMA of a USART leaves, the channel being `p` (R272, R314). -/
theorem usartTxStart_sent (live : s.fault = none) (count : p.txCount ≠ 0)
    (ok : (s.setPdc (.usart u) p).sendBuffersOk (.usart u) 1 p.txCount = true) :
    let t := usartTxStart u (s.setPdc (.usart u) p)
    t.fault = none ∧ t.pdc (.usart u) = p.afterSend 1 p.txCount
    ∧ t.link (.usart u) = (((s.setPdc (.usart u) p).sentBuffers (.usart u) 1 p.txCount).foldl
        (fun r b => emitData (.usart u) b r) s).link (.usart u)
    ∧ t = ((s.setPdc (.usart u) (t.pdc (.usart u))).setLink (.usart u) (t.link (.usart u))).setAic t.aic
    ∧ irqFollows (.usart u) s t ∧ t.andThen (usartUpdateIrq u) = t := by
  have sent := usartTxStart_of_sendBuffersOk (u := u) (s := s.setPdc (.usart u) p) live (by simpa using count)
    (by simpa using ok)
  rw [State.setPdc_pdc_same, foldl_emitData_setPdc, foldl_emitData_frame, State.setPdc_setPdc] at sent
  have live1 : (usartTxStart u (s.setPdc (.usart u) p)).fault = none := by rw [sent]; simpa using live
  have idem : (usartTxStart u (s.setPdc (.usart u) p)).andThen (usartUpdateIrq u)
      = usartTxStart u (s.setPdc (.usart u) p) := by
    rw [State.andThen_live _ live1, sent, usartUpdateIrq_idem]
  obtain ⟨-, pdc, link, frame, follows⟩ := usartUpdateIrq_sent sent
  generalize usartTxStart u (s.setPdc (.usart u) p) = t at *
  exact ⟨live1, pdc, link, by rw [pdc, link]; exact frame, follows, idem⟩

end

end Sys2Proof.Machine

namespace Sys2Proof

open Machine

/-- Settles O30: each row runs its operation; the status word bit by bit. -/
theorem usartRegisters : Obligations.UsartRegisters := by
  intro s u v ready x p
  refine ⟨?baud, ?mr, ?mrW, ?ier, ?idr, ?imr, ?csr, ?brgr, ?brgrW, ?rtor, ?rtorW, ?ttgr, ?ttgrW, ?fidi, ?fidiW, ?ner,
    ?ifr, ?ifW, ?man, ?manW⟩
  case baud =>
    intro hz y
    by_cases slow : bit y.mr 19 = true <;> simp only [usartBaud, usartClock, slow] <;> rfl
  case mr => exact exec_readPlain_of_ready ready (exec_usartMrR u s)
  case mrW => exact exec_of_ready ready (exec_usartMrW u v s)
  case ier => exact exec_of_ready ready (exec_usartIerW u v s)
  case idr => exact exec_of_ready ready (exec_usartIdrW u v s)
  case imr => exact exec_readPlain_of_ready ready (exec_usartImrR u s)
  case csr =>
    refine ⟨s.usartCsr u, exec_readPlain_of_ready ready (exec_usartCsrR u s), ?_⟩
    simp [State.usartCsr, bit_or, bit_bitAt, or_and, bitAt_and, x, p]
  case brgr => exact exec_readPlain_of_ready ready (exec_usartBrgrR u s)
  case brgrW =>
    rw [exec_of_ready ready (exec_usartBrgrW u v s)]
    simp [usartWriteBrgr, usartUpdateBaud, usartBrgrMask, x]
  case rtor => exact exec_readPlain_of_ready ready (exec_usartRtorR u s)
  case rtorW => exact exec_of_ready ready (exec_usartRtorW u v s)
  case ttgr => exact exec_readPlain_of_ready ready (exec_usartTtgrR u s)
  case ttgrW => exact exec_of_ready ready (exec_usartTtgrW u v s)
  case fidi => exact exec_readPlain_of_ready ready (exec_usartFidiR u s)
  case fidiW =>
    rw [exec_of_ready ready (exec_usartFidiW u v s)]
    simp [usartWriteFidi, usartUpdateBaud, usartFidiMask, x]
  case ner => exact exec_readPlain_of_ready ready (exec_usartNerR u s)
  case ifr => exact exec_readPlain_of_ready ready (exec_usartIfR u s)
  case ifW => exact exec_of_ready ready (exec_usartIfW u v s)
  case man => exact exec_readPlain_of_ready ready (exec_usartManR u s)
  case manW => exact exec_of_ready ready (exec_usartManW u v s)

/-- Settles O31: the actions of `CR`, then the pump. -/
theorem usartControl : Obligations.UsartControl := by
  intro s u v ready x rst y z r
  have live := State.ready_fault ready
  have control : (s.usart u).control v = y := Usart.control_eq v (s.usart u)
  have row : exec (.usartCrW u v) s = .next (if r.fault = none then usartUpdateIrq u r else r) := by
    rw [exec_of_ready ready (exec_usartCrW u v s), usartWriteCr, control, State.andThen_eq_ite]
    rfl
  refine ⟨row, fun unarmed => ?_⟩
  have pumped : r = usartUpdateIrq u (s.setUsart u z) := by
    cases enabled : y.rxEnabled with
    | true =>
      have held : y.hold = z := by
        simp only [Usart.hold, z, enabled, Bool.true_and]
        cases y.rxq <;> cases y.rxrdy <;> rfl
      have pump := usartRxPump_hold (u := u) (s := s.setUsart u y) live (by simpa using enabled) (by simpa using unarmed)
      rw [State.setUsart_usart_same, State.setUsart_setUsart, held] at pump
      exact pump
    | false =>
      have same : y = z := by
        simp only [z, enabled, Bool.false_and, Bool.false_eq_true, if_false]
        cases y.rxq <;> rfl
      rw [← same]
      exact usartRxPump_nothing (s := s.setUsart u y) live (.inl (by simpa using enabled))
  have done : (if r.fault = none then usartUpdateIrq u r else r) = usartUpdateIrq u (s.setUsart u z) := by
    rw [pumped, usartUpdateIrq_idem, if_pos (by simp [live])]
  exact ⟨_, row.trans (congrArg _ done), by rw [usartUpdateIrq_frame]; rfl, rfl⟩

/-- Settles O32: a frame and a read of `RHR`, each by what the pump finds. -/
theorem usartReceive : Obligations.UsartReceive := by
  intro s u x
  have frame (seq : Byte) (bs : List Byte) (live : s.fault = none) (on : x.rxEnabled = true) :
      exec (.usartDataIn u seq bs) s = .next ((usartRxPump u (s.setUsart u
        { x with ovre := x.ovre || x.rxrdy, rxq := x.rxq ++ bs.map (·.setWidth 9) })).andThen
          (reply (.usart u) seq 0#32)) := by
    rw [exec_of_live live (exec_usartDataIn u seq bs s), usartDataInFrame, if_pos on]
    rfl
  have read (ready : s.ready = true) : exec (.usartRhrR u) s = .next ((usartRxPump u
      (s.setUsart u { x with rxrdy := false })).andThen fun t => t.setRdata (x.rhr.setWidth 32)) :=
    exec_of_ready ready (exec_usartRhrR u s)
  have answered {t : State} (live : t.fault = none) (f : State → State) : (usartUpdateIrq u t).andThen f
      = f (usartUpdateIrq u t) := State.andThen_live _ (by simp [live])
  refine ⟨?off, ?on, ?read, ?overrun, ?taken, ?empty, ?nothing, ?next⟩
  case off =>
    intro seq bs live off
    rw [exec_of_live live (exec_usartDataIn u seq bs s), usartDataInFrame, if_neg (by simpa [x] using off)]
    rfl
  case on => intro seq bs live on t; rw [frame seq bs live on, State.andThen_eq_ite]; rfl
  case read => intro ready t; rw [read ready, State.andThen_eq_ite]; rfl
  case overrun =>
    intro seq bs live on unarmed full
    rw [frame seq bs live on, usartRxPump_hold (by simpa using live) (by simpa using on) (by simpa using unarmed),
      answered (by simpa using live)]
    cases queue : x.rxq ++ bs.map (·.setWidth 9) <;> simp [Usart.hold, full]
  case taken =>
    intro seq bs c cs live on unarmed free queue
    rw [frame seq bs live on, usartRxPump_hold (by simpa using live) (by simpa using on) (by simpa using unarmed),
      answered (by simpa using live)]
    simp [Usart.hold, free, queue]
  case empty =>
    intro seq live on free queue
    have same : { x with ovre := x.ovre || x.rxrdy, rxq := x.rxq ++ ([] : List Byte).map (·.setWidth 9) } = x := by
      rw [free, queue, Bool.or_false, List.map_nil, List.append_nil, ← free, ← queue]
    rw [frame seq [] live on, same, State.setUsart_self, usartRxPump_nothing live (.inr queue), answered live]
  case nothing =>
    intro ready nothing
    have live := State.ready_fault ready
    rw [read ready, usartRxPump_nothing (by simpa using live) (by simpa using nothing), answered (by simpa using live)]
  case next =>
    intro c cs ready on unarmed queue
    have live := State.ready_fault ready
    rw [read ready, usartRxPump_hold (by simpa using live) (by simpa using on) (by simpa using unarmed),
      answered (by simpa using live)]
    simp [Usart.hold, queue]

/-- Settles O33: each row runs its operation. -/
theorem usartTransmitAndFaults : Obligations.UsartTransmitAndFaults := by
  intro s u x
  refine ⟨fun v ready on => ?on, fun v ready off => ?off, fun bs live => ?out, fun seq bs live => ⟨?ovre, ?frame, ?pare, ?timeout⟩⟩
  case on => rw [exec_of_ready ready (exec_usartThrW u v s), usartWriteThr, if_pos on]
  case off => rw [exec_of_ready ready (exec_usartThrW u v s), usartWriteThr, if_neg (by simpa [x] using off)]
  case out => exact exec_of_live live (exec_usartDataOut u bs s)
  case ovre => exact exec_of_live live (exec_usartFaultOvre u seq bs s)
  case frame => exact exec_of_live live (exec_usartFaultFrame u seq bs s)
  case pare => exact exec_of_live live (exec_usartFaultPare u seq bs s)
  case timeout => exact exec_of_live live (exec_usartFaultTimeout u seq bs s)

/-- Settles O28: the pump's DMA, then its register half on what the buffers had no room for. -/
theorem usartDmaReceive : Obligations.UsartDmaReceive := by
  constructor
  case left =>
    intro s u seq bs x p n live on empty free armed room some_bytes
    have queued : exec (.usartDataIn u seq bs) s = .next ((usartRxPump u (s.setUsart u
        { x with rxq := bs.map (·.setWidth 9) })).andThen (reply (.usart u) seq 0#32)) := by
      have same : { x with ovre := x.ovre || x.rxrdy, rxq := x.rxq ++ bs.map usartChar }
          = { x with rxq := bs.map (·.setWidth 9) } := by
        rw [free, empty, Bool.or_false, List.nil_append, ← free]
        rfl
      rw [exec_of_live live (exec_usartDataIn u seq bs s), usartDataInFrame, if_pos on]
      exact congrArg (fun y => Host.Outcome.next ((usartRxPump u (s.setUsart u y)).andThen
        (reply (.usart u) seq 0#32))) same
    obtain ⟨y, hy⟩ : ∃ y : Usart, y = { x with rxq := bs.map (·.setWidth 9) } := ⟨_, rfl⟩
    rw [← hy] at queued
    have on1 : ((s.setUsart u y).usart u).rxEnabled = true := by simpa [hy] using on
    have queue1 : ((s.setUsart u y).usart u).rxq = bs.map (·.setWidth 9) := by simp [hy]
    have some1 : ((s.setUsart u y).usart u).rxq ≠ [] := by rw [queue1]; simpa using some_bytes
    have buffers : (s.setUsart u y).receiveBuffersOk (.usart u) 1 n = s.receiveBuffersOk (.usart u) 1 n :=
      State.receiveBuffersOk_congr (s := s) (t := s.setUsart u y) rfl rfl rfl 1 n
    have count : n = min ((s.setUsart u y).usart u).rxq.length ((s.setUsart u y).pdc (.usart u)).rxRoom := by
      rw [queue1, List.length_map]; rfl
    refine ⟨fun ok => ?stored, fun bad => ?aborted⟩
    case stored =>
      obtain ⟨live1, mem, pdc, usart, frame, follows⟩ :=
        usartRxPump_received (s := s.setUsart u y) live on1 some1 armed room count (buffers.trans ok)
      rw [State.andThen_live _ live1] at queued
      generalize usartRxPump u (s.setUsart u y) = t at *
      have same : ((s.setUsart u y).storeReceived (.usart u)
          ((((s.setUsart u y).usart u).rxq.take n).map fun c => [c.setWidth 8])).mem = (s.storeReceived (.usart u) ((bs.take n).map fun b => [b])).mem := by
        have bytes : (fun c : BitVec 9 => [c.setWidth 8]) ∘ (fun b : Byte => b.setWidth 9) = fun b => [b] := by
          funext b; simp
        rw [State.storeReceived_mem_congr (s := s) (t := s.setUsart u y) rfl rfl rfl, queue1, ← List.map_take, List.map_map, bytes]
      rw [State.setUsart_usart_same, hold_dropRx, hy] at usart
      dsimp only at usart
      refine ⟨_, queued, by simpa using live1, ?_, ?_, fun fits => ?_, fun c cs rest => ?_, ?_, ?_, ?_⟩
      · rw [reply_mem, mem, same]
      · simpa using pdc
      · have all : bs.drop n = [] := List.drop_eq_nil_of_le (by omega)
        rw [reply_usart, usart, ← List.map_drop, all, List.map_nil]
        exact congrArg (fun q => { x with rxq := q }) empty.symm
      · rw [reply_usart, usart]
        simp [← List.map_drop, rest, free]
      · have link : t.link (.usart u) = s.link (.usart u) := by rw [frame]; rfl
        simp only [reply, respond, State.setLink_link_same, link]
        rfl
      · rw [reply_frame]
        generalize (reply (.usart u) seq 0#32 t).link (.usart u) = z
        simp only [State.setLink_mem, State.setLink_pdc, State.setLink_usart, State.setLink_aic,
          State.setLink_link_same]
        conv_lhs => rw [frame]
        generalize t.usart u = final
        rw [show ((s.setUsart u y).setMem t.mem).setPdc (.usart u) (t.pdc (.usart u))
          = ((s.setMem t.mem).setPdc (.usart u) (t.pdc (.usart u))).setUsart u y from rfl, State.setUsart_setUsart]
        rfl
      · rw [reply_frame]
        exact irqFollows_setLink _ _ follows
    case aborted =>
      obtain ⟨a, e, aborts⟩ := usartRxPump_abort (s := s.setUsart u y) live on1 some1 armed room
        (by rw [← count]; exact buffers.trans bad)
      rw [State.andThen_aborted _ (by rw [aborts]; rfl)] at queued
      exact ⟨_, a, e, queued, aborts⟩
  case right =>
    intro s u x p n t live on queue armed room
    refine ⟨fun ok => ?stored, fun bad => usartRxPump_abort live on queue armed room bad⟩
    obtain ⟨live1, mem, pdc, usart, frame, follows⟩ := usartRxPump_received live on queue armed room rfl ok
    exact ⟨live1, mem, pdc, usart.trans (hold_dropRx x n), frame, follows⟩

/-- Settles O29: a transmission for each buffer, and the flags of a channel whose buffers have left. -/
theorem usartDmaTransmit : Obligations.UsartDmaTransmit := by
  intro s u h p
  refine ⟨?sent, ?aborted, ?tcr, ?tncr, ?ptcr⟩
  case sent =>
    intro live on count ok t
    have same : s.setPdc (.usart u) p = s := State.setPdc_self _ _
    obtain ⟨fault, pdc, link, frame, follows, -⟩ := usartTxStart_sent (p := p) live count (same.symm ▸ ok)
    rw [same] at fault pdc link frame follows
    exact ⟨fault, pdc, link, frame, follows⟩
  case aborted =>
    intro live on count bad
    have aborts := pdcTx_of_not_sendBuffersOk (quietSend_usart u) trivial live count (limit := none) (by simp) bad
      fun _ _ => trivial
    simp only [withinLimit, Nat.mul_one] at aborts
    exact aborts
  case tcr =>
    intro v n ready on single count readable
    obtain ⟨q, hq⟩ : ∃ q : Pdc, q = { p with tcr := n, endtx := false, txbufe := false } := ⟨_, rfl⟩
    have current : q.txCurrent = q := by simp [hq, Pdc.txCurrent, count]
    have no_next : q.tncr = 0#16 := by rw [hq]; exact single
    have some_units : q.txCount ≠ 0 := by
      have positive := count_pos_iff.1 count
      simp only [hq, Pdc.txCount]; omega
    obtain ⟨-, pdc, link, frame, follows, idem⟩ := usartTxStart_sent (u := u) (State.ready_fault ready) some_units
      ((sendBuffersOk_single 1 current no_next).trans (by simpa [hq] using readable))
    rw [afterSend_single 1 current no_next] at pdc
    rw [sentBuffers_single 1 current no_next] at link
    have row : exec (.pdcTcrW h v) s = .next (usartTxStart u (s.setPdc (.usart u) q)) := by
      rw [exec_of_ready ready (exec_pdcTcrW h v s), pdcWriteTcr_start on count, hq]
      exact congrArg _ (hq ▸ idem)
    exact ⟨_, row, by rw [pdc, hq]; simp [on], by rw [link, hq]; simp, frame, follows⟩
  case tncr =>
    intro v n ready on used count readable
    obtain ⟨q, hq⟩ : ∃ q : Pdc, q = { p with tncr := n, endtx := false, txbufe := false } := ⟨_, rfl⟩
    have current : q.txCurrent = { p with tpr := p.tnpr, tcr := n, tncr := 0#16, endtx := false, txbufe := false } := by
      simp [hq, Pdc.txCurrent, used]
    have some_units : q.txCount ≠ 0 := by
      have positive := count_pos_iff.1 count
      simp only [hq, Pdc.txCount]; omega
    obtain ⟨-, pdc, link, frame, follows, idem⟩ := usartTxStart_sent (u := u) (State.ready_fault ready) some_units
      ((sendBuffersOk_single 1 current rfl).trans (by simpa using readable))
    rw [afterSend_single 1 current rfl] at pdc
    rw [sentBuffers_single 1 current rfl] at link
    have row : exec (.pdcTncrW h v) s = .next (usartTxStart u (s.setPdc (.usart u) q)) := by
      rw [exec_of_ready ready (exec_pdcTncrW h v s), pdcWriteTncr_start on used count, hq]
      exact congrArg _ (hq ▸ idem)
    exact ⟨_, row, by rw [pdc, hq]; simp [on], by rw [link]; simp, frame, follows⟩
  case ptcr =>
    intro ready off current next ok
    obtain ⟨q, hq⟩ : ∃ q : Pdc, q = { p with txten := true, rxbuff := false, txbufe := false } := ⟨_, rfl⟩
    have current1 : q.tcr ≠ 0#16 := by rw [hq]; exact current
    have next1 : q.tncr ≠ 0#16 := by rw [hq]; exact next
    have same : (s.setPdc h q).sendBuffersOk h 1 q.txCount = s.sendBuffersOk h 1 p.txCount := by
      simp only [State.sendBuffersOk, State.setPdc_pdc_same, State.readableBuffer_congr (s := s) (t := s.setPdc h q) rfl rfl]
      simp [Pdc.txCurrent, Pdc.txCount, hq, current, p]
    have some_units : q.txCount ≠ 0 := by
      have positive := count_pos_iff.1 current1
      simp only [Pdc.txCount]; omega
    obtain ⟨-, pdc, link, frame, follows, idem⟩ := usartTxStart_sent (u := u) (State.ready_fault ready) some_units
      (same.trans ok)
    rw [afterSend_both 1 current1 next1] at pdc
    rw [sentBuffers_both 1 current1 next1] at link
    have row : exec (.pdcPtcrW h 0x100#32) s = .next (usartTxStart u (s.setPdc (.usart u) q)) := by
      rw [exec_of_ready ready (exec_pdcPtcrW h _ s), pdcWritePtcr_transmit (State.ready_fault ready) off current, hq]
      exact congrArg _ (hq ▸ idem)
    exact ⟨_, row, by rw [pdc, hq]; simp, by rw [link, hq]; simp, frame, follows⟩

end Sys2Proof
end

section
/-! The SPI: its registers, its receive pump, its loopback and its transfers with a client (R370 to R395). -/

namespace Sys2Proof.Machine

/-! ### The receive pump -/

/-- The register half of the pump on a channel whose DMA is idle (R383). -/
def Spi.hold (x : Spi) : Spi :=
  match x.rxq with
  | [] => x
  | d :: ds => if x.rdrf then x else { x with rdrData := d, rdrPcs := x.lastPcs, rdrf := true, rxq := ds }

/-- The words the DMA took leave the queue (R383). -/
def Spi.dropRx (n : Nat) (x : Spi) : Spi := { x with rxq := x.rxq.drop n }

/-- The bytes of a received word in memory (R383). -/
def spiBytes (w : Nat) (d : BitVec 16) : List Byte :=
  if w = 1 then [d.setWidth 8] else [d.setWidth 8, (d >>> 8).setWidth 8]

theorem spiBytes_length (w : Nat) (d : BitVec 16) : (spiBytes w d).length = if w = 1 then 1 else 2 := by
  unfold spiBytes
  split <;> rfl

theorem leBytes_eq_spiBytes (x : Spi) (d : BitVec 16) :
    leBytes x.rxUnitBytes (d.setWidth 32) = spiBytes x.rxUnitBytes d := by
  unfold Spi.rxUnitBytes spiBytes
  have high : (d.setWidth 32 >>> 8).setWidth 8 = (d >>> 8).setWidth 8 := by bv_omega
  by_cases narrow : x.lastBits = 8 <;> simp [narrow, leBytes, high, List.range_succ]

section

variable {s : State} {u : Fin 2}

theorem spiPumpHold_eq (u : Fin 2) (s : State) : spiPumpHold u s =
    s.setSpi u (if (s.pdc (.spi u)).rxActive then s.spi u else (s.spi u).hold) := by
  unfold spiPumpHold Spi.hold
  dsimp only
  cases active : (s.pdc (.spi u)).rxActive with
  | true => simp
  | false => cases held : (s.spi u).rdrf <;> cases queue : (s.spi u).rxq <;> simp

/-- A pump with nothing for the DMA (R383). -/
theorem spiRxPump_idle (live : s.fault = none) (idle : (s.spi u).rxq = [] ∨ (s.pdc (.spi u)).rxActive = false) :
    spiRxPump u s = spiUpdateIrq u (spiPumpHold u s) := by
  have skipped : spiPumpDma u s = s := by
    rcases idle with empty | unarmed <;> simp [spiPumpDma, *]
  rw [spiRxPump, skipped, State.andThen_live _ live]

/-- A pump that no DMA serves leaves the SPI and the AIC only (R383). -/
theorem spiRxPump_hold (live : s.fault = none) (unarmed : (s.pdc (.spi u)).rxActive = false) :
    spiRxPump u s = spiUpdateIrq u (s.setSpi u (s.spi u).hold) := by
  rw [spiRxPump_idle live (.inr unarmed), spiPumpHold_eq, unarmed]
  rfl

theorem spiRxPump_nothing (live : s.fault = none) (empty : (s.spi u).rxq = []) :
    spiRxPump u s = spiUpdateIrq u s := by
  have same : spiPumpHold u s = s := by
    rw [spiPumpHold_eq]
    simp [Spi.hold, empty]
  rw [spiRxPump_idle live (.inl empty), same]

/-- A pump whose words go to memory (R270, R383). -/
theorem spiRxPump_dma (live : s.fault = none) (queue : (s.spi u).rxq ≠ []) (armed : (s.pdc (.spi u)).rxten = true)
    (room : (s.pdc (.spi u)).rxRoom ≠ 0) {n w : Nat} (hn : n = min (s.spi u).rxq.length (s.pdc (.spi u)).rxRoom)
    (hw : w = (s.spi u).rxUnitBytes) (ok : s.receiveBuffersOk (.spi u) w n = true) :
    spiRxPump u s = spiUpdateIrq u ((pdcUpdateIrq (.spi u)
      ((s.storeReceived (.spi u) (((s.spi u).rxq.take n).map (spiBytes w))).setPdc (.spi u)
        ((s.pdc (.spi u)).afterReceive w n))).setSpi u ((s.spi u).dropRx n).hold) := by
  subst hw
  have active := (rxActive_iff (s.pdc (.spi u))).2 ⟨armed, room⟩
  have words : ((s.spi u).rxq.map fun d => leBytes (s.spi u).rxUnitBytes (d.setWidth 32))
      = (s.spi u).rxq.map (spiBytes (s.spi u).rxUnitBytes) := List.map_congr_left fun d _ => leBytes_eq_spiBytes _ d
  have sized : ∀ b ∈ (s.spi u).rxq.map (spiBytes (s.spi u).rxUnitBytes), b.length = (s.spi u).rxUnitBytes := by
    intro b member
    obtain ⟨d, -, rfl⟩ := List.mem_map.1 member
    rw [spiBytes_length]
    unfold Spi.rxUnitBytes
    split <;> rfl
  have stored := pdcRx_of_receiveBuffersOk (unit := (s.spi u).rxUnitBytes)
    (us := (s.spi u).rxq.map (spiBytes (s.spi u).rxUnitBytes)) live sized room (by simpa [hn] using ok)
  rw [List.length_map, ← List.map_take, ← hn] at stored
  have dma : spiPumpDma u s = (pdcUpdateIrq (.spi u)
      ((s.storeReceived (.spi u) (((s.spi u).rxq.take n).map (spiBytes (s.spi u).rxUnitBytes))).setPdc (.spi u)
        ((s.pdc (.spi u)).afterReceive (s.spi u).rxUnitBytes n))).setSpi u ((s.spi u).dropRx n) := by
    simp [spiPumpDma, queue, active, words, stored, State.andThen, live, Spi.dropRx]
  have held : (if ((s.pdc (.spi u)).afterReceive (s.spi u).rxUnitBytes n).rxActive then (s.spi u).dropRx n
      else ((s.spi u).dropRx n).hold) = ((s.spi u).dropRx n).hold := by
    by_cases all : n = (s.pdc (.spi u)).rxRoom
    · simp [afterReceive_not_rxActive _ all]
    · have used : (s.spi u).rxq.drop n = [] := List.drop_eq_nil_of_le (by omega)
      simp [Spi.hold, Spi.dropRx, used]
  rw [spiRxPump, dma, State.andThen_live _ (by simp [live]), spiPumpHold_eq, ← held]
  simp

/-- A pump whose buffers may not be written aborts (R273). -/
theorem spiRxPump_abort (live : s.fault = none) (queue : (s.spi u).rxq ≠ []) (armed : (s.pdc (.spi u)).rxten = true)
    (room : (s.pdc (.spi u)).rxRoom ≠ 0) (bad : s.receiveBuffersOk (.spi u) (s.spi u).rxUnitBytes
      (min (s.spi u).rxq.length (s.pdc (.spi u)).rxRoom) = false) :
    ∃ a e, (spiRxPump u s).fault = some (.dma (.spi u) a e) := by
  have active := (rxActive_iff (s.pdc (.spi u))).2 ⟨armed, room⟩
  have sized : ∀ b ∈ (s.spi u).rxq.map (fun d => leBytes (s.spi u).rxUnitBytes (d.setWidth 32)),
      b.length = (s.spi u).rxUnitBytes := by
    intro b member
    obtain ⟨d, -, rfl⟩ := List.mem_map.1 member
    exact leBytes_length _ _
  obtain ⟨e, aborts⟩ := pdcRx_of_not_receiveBuffersOk live sized room rfl (by simpa using bad)
  have dma : spiPumpDma u s = (pdcRx (.spi u) (s.spi u).rxUnitBytes ((s.spi u).rxq.map fun d =>
      leBytes (s.spi u).rxUnitBytes (d.setWidth 32)) s).2 := by
    simp only [spiPumpDma, active, Bool.and_true, Bool.not_eq_true', List.isEmpty_eq_false_iff, ne_eq, queue,
      not_false_eq_true, if_true]
    exact State.andThen_aborted _ (by rw [aborts]; rfl)
  rw [spiRxPump, dma, State.andThen_aborted _ (by rw [aborts]; rfl), aborts]
  exact ⟨_, _, rfl⟩

/-- A state that differs from another in one SPI, its channel, memory and the AIC only. -/
theorem spiUpdateIrq_received {m : List Host.Cell} {y : Spi} {p : Pdc} {t : State}
    (pumped : t = spiUpdateIrq u ((pdcUpdateIrq (.spi u) ((s.setMem m).setPdc (.spi u) p)).setSpi u y)) :
    t.mem = m ∧ t.pdc (.spi u) = p ∧ t.spi u = y
      ∧ t = (((s.setMem m).setPdc (.spi u) p).setSpi u y).setAic t.aic ∧ irqFollows (.spi u) s t := by
  subst pumped
  have hostIrq : pdcUpdateIrq (.spi u) ((s.setMem m).setPdc (.spi u) p)
      = ((s.setMem m).setPdc (.spi u) p).setAic (spiUpdateIrq u ((s.setMem m).setPdc (.spi u) p)).aic :=
    spiUpdateIrq_frame u _
  refine ⟨by simp, by simp, by simp, ?_, ?_⟩
  · rw [hostIrq, spiUpdateIrq_frame]; rfl
  · exact irqFollows_of_onlyLine (h := .spi u) (s := s)
      (pdcUpdateIrq_onlyLine (.spi u) ((s.setMem m).setPdc (.spi u) p))

/-- What a start of the receive DMA leaves of an SPI with words waiting (R270, R383). -/
theorem spiRxPump_received (live : s.fault = none) (queue : (s.spi u).rxq ≠ []) (armed : (s.pdc (.spi u)).rxten = true)
    (room : (s.pdc (.spi u)).rxRoom ≠ 0) {n w : Nat} (hn : n = min (s.spi u).rxq.length (s.pdc (.spi u)).rxRoom)
    (hw : w = (s.spi u).rxUnitBytes) (ok : s.receiveBuffersOk (.spi u) w n = true) :
    let t := spiRxPump u s
    t.fault = none
    ∧ t.mem = (s.storeReceived (.spi u) (((s.spi u).rxq.take n).map (spiBytes w))).mem
    ∧ t.pdc (.spi u) = (s.pdc (.spi u)).afterReceive w n
    ∧ t.spi u = ((s.spi u).dropRx n).hold
    ∧ t = (((s.setMem t.mem).setPdc (.spi u) (t.pdc (.spi u))).setSpi u (t.spi u)).setAic t.aic
    ∧ irqFollows (.spi u) s t := by
  have pumped := spiRxPump_dma live queue armed room hn hw ok
  rw [State.storeReceived_eq] at pumped
  obtain ⟨mem, pdc, spi, frame, follows⟩ := spiUpdateIrq_received pumped
  generalize spiRxPump u s = t at *
  refine ⟨?live, ?mem, pdc, spi, ?frame, follows⟩
  case live => rw [frame]; simpa using live
  case mem => rw [mem, State.storeReceived_eq]
  case frame => rw [mem, pdc, spi]; exact frame

/-- The state of an SPI after a pump with words left over, or none (R383). -/
theorem Spi.hold_dropRx (x : Spi) (n : Nat) : (x.dropRx n).hold = match x.rxq.drop n with
    | [] => { x with rxq := [] }
    | d :: ds => if x.rdrf then { x with rxq := d :: ds }
      else { x with rdrData := d, rdrPcs := x.lastPcs, rdrf := true, rxq := ds } := by
  unfold Spi.hold Spi.dropRx
  cases x.rxq.drop n <;> rfl

end

/-! ### The words that go out -/

section

variable {s : State} {u : Fin 2}

theorem spiPrepare_none {pcs : BitVec 4} (td : BitVec 16) (none_low : (s.spi u).select pcs = none) :
    spiPrepare u pcs td s = (none, s.raise (.spiPcs u pcs)) := by
  simp [spiPrepare, none_low]

theorem spiPrepare_some {pcs : BitVec 4} {n : Nat} {k : Fin 4} (td : BitVec 16)
    (selected : (s.spi u).select pcs = some (n, k)) : spiPrepare u pcs td s =
      (some ((s.spi u).unitOf n k td), s.setSpi u { s.spi u with lastPcs := pcs, lastBits := (s.spi u).bits k }) := by
  simp [spiPrepare, selected]

/-- The chip select that a write of `TDR` names (R380). -/
def Spi.tdrPcs (v : Word) (x : Spi) : BitVec 4 := if x.variablePs then v.extractLsb 19 16 else x.mrPcs

theorem spiWriteTdr_none {v : Word} (on : (s.spi u).enabled = true) (master : (s.spi u).master = true)
    (none_low : (s.spi u).select ((s.spi u).tdrPcs v) = none) :
    spiWriteTdr u v s = s.raise (.spiPcs u ((s.spi u).tdrPcs v)) := by
  have prepared := spiPrepare_none (s := s) (u := u) (v.extractLsb 15 0) none_low
  unfold spiWriteTdr
  dsimp only
  rw [if_neg (by simp [on]), if_neg (by simp [master])]
  exact congrArg (fun r => match r with | (none, t) => t | (some q, t) => spiTransfer u [q] t) prepared

theorem spiWriteTdr_some {v : Word} {n : Nat} {k : Fin 4} (on : (s.spi u).enabled = true)
    (master : (s.spi u).master = true) (selected : (s.spi u).select ((s.spi u).tdrPcs v) = some (n, k)) :
    spiWriteTdr u v s = spiTransfer u [(s.spi u).unitOf n k (v.extractLsb 15 0)]
      (s.setSpi u { s.spi u with lastPcs := (s.spi u).tdrPcs v, lastBits := (s.spi u).bits k }) := by
  have prepared := spiPrepare_some (s := s) (u := u) (v.extractLsb 15 0) selected
  unfold spiWriteTdr
  dsimp only
  rw [if_neg (by simp [on]), if_neg (by simp [master])]
  exact congrArg (fun r => match r with | (none, t) => t | (some q, t) => spiTransfer u [q] t) prepared

/-- Units with no client come back (R381, R382). -/
theorem spiTransfer_loopback {units : List SpiUnit} (alone : (s.link (.spi u)).client = false) :
    spiTransfer u units s = spiDeliver u (units.map SpiUnit.data) s := by
  simp [spiTransfer, State.clientConnected, alone]

theorem spiTransfer_client {units : List SpiUnit} (client : (s.link (.spi u)).client = true) :
    spiTransfer u units s = spiSend u (units.flatMap SpiUnit.wire) units.length s := by
  simp [spiTransfer, State.clientConnected, client]

end

/-! ### The control register -/

/-- The actions of `CR` taken together (R372). -/
theorem Spi.control_eq (v : Word) (x : Spi) : x.control v =
    { (if bit v 7 then Spi.reset else x) with
      enabled := ((if bit v 7 then Spi.reset else x).enabled || bit v 0) && !bit v 1 } := by
  have on (y : Spi) : (if bit v 0 then { y with enabled := true } else y)
      = { y with enabled := y.enabled || bit v 0 } := by cases bit v 0 <;> simp
  have off (y : Spi) : (if bit v 1 then { y with enabled := false } else y)
      = { y with enabled := y.enabled && !bit v 1 } := by cases bit v 1 <;> simp
  unfold Spi.control
  extract_lets a b
  rw [off b, show b = _ from on a]

end Sys2Proof.Machine

namespace Sys2Proof

open Machine

/-- Settles O34: each row runs its operation; the status word bit by bit. -/
theorem spiRegisters : Obligations.SpiRegisters := by
  intro s u v ready x p
  refine ⟨?mr, ?mrW, ?csr, ?csrW, ?csrBad, ?sr, ?ier, ?idr, ?imr⟩
  case mr => exact exec_readPlain_of_ready ready (exec_spiMrR u s)
  case mrW => exact exec_of_ready ready (exec_spiMrW u v s)
  case csr => exact fun k => exec_readPlain_of_ready ready (exec_spiCsrR u k s)
  case csrW =>
    intro k legal
    rw [exec_of_ready ready (exec_spiCsrW u k v s), spiWriteCsr, if_neg (by omega)]
    rfl
  case csrBad =>
    intro k illegal
    rw [exec_of_ready ready (exec_spiCsrW u k v s), spiWriteCsr, if_pos illegal]
    exact ⟨_, rfl, rfl⟩
  case sr =>
    refine ⟨s.spiSr u, exec_of_ready ready (exec_spiSrR u s), ?_⟩
    simp [State.spiSr, bit_or, bit_bitAt, or_and, bitAt_and, x, p]
  case ier => exact exec_of_ready ready (exec_spiIerW u v s)
  case idr => exact exec_of_ready ready (exec_spiIdrW u v s)
  case imr => exact exec_readPlain_of_ready ready (exec_spiImrR u s)

/-- Settles O35: the actions of `CR`, then the armed start. -/
theorem spiControlAndFaults : Obligations.SpiControlAndFaults := by
  intro s u x
  have row (v : Word) (ready : s.ready = true) : exec (.spiCrW u v) s = .next
      (if (spiStartArmed u (s.setSpi u ((s.spi u).control v))).fault = none
        then spiUpdateIrq u (spiStartArmed u (s.setSpi u ((s.spi u).control v)))
        else spiStartArmed u (s.setSpi u ((s.spi u).control v))) := by
    rw [exec_of_ready ready (exec_spiCrW u v s), spiWriteCr, State.andThen_eq_ite]
  refine ⟨?unarmed, ?started, fun seq bs live => ⟨?modf, ?ovres⟩⟩
  case unarmed =>
    intro v ready unarmed y
    have idle : spiStartArmed u (s.setSpi u ((s.spi u).control v)) = s.setSpi u ((s.spi u).control v) := by
      simp [spiStartArmed, unarmed]
    rw [row v ready, idle, if_pos (by simpa using State.ready_fault ready), Spi.control_eq]
    rfl
  case started =>
    intro v ready y e s1 t
    have start : spiStartArmed u (s.setSpi u ((s.spi u).control v)) = t := by
      have control : (s.spi u).control v = { y with enabled := e } := Spi.control_eq v x
      simp only [spiStartArmed, control, State.setSpi_spi_same, State.setSpi_pdc, t, ← Bool.and_eq_true]
      rfl
    rw [row v ready, start]
  case modf => exact exec_of_live live (exec_spiFaultModf u seq bs s)
  case ovres => exact exec_of_live live (exec_spiFaultOvres u seq bs s)

end Sys2Proof
end

section
/-! The SPI's transmit DMA: the units of a buffer, and its loopback (R381, R386, R387). O36. -/

namespace Sys2Proof.Machine

/-! ### The groups of a buffer -/

/-- A buffer of whole groups, cut into them (R386). -/
theorem groupsOf_eq {w : Nat} (pos : 0 < w) (m fuel : Nat) (bs : List Byte) (whole : bs.length = m * w)
    (enough : m ≤ fuel) : groupsOf w fuel bs = (List.range m).map fun i => (bs.drop (i * w)).take w := by
  induction m generalizing fuel bs with
  | zero =>
    have empty : bs = [] := List.eq_nil_of_length_eq_zero (by omega)
    cases fuel <;> simp [empty, groupsOf]
  | succ m ih =>
    obtain ⟨fuel, rfl⟩ : ∃ f, fuel = f + 1 := ⟨fuel - 1, by omega⟩
    have size : (m + 1) * w = m * w + w := Nat.succ_mul m w
    cases bs with
    | nil => simp only [List.length_nil] at whole; omega
    | cons b bs =>
      have rest := ih fuel ((b :: bs).drop w) (by rw [List.length_drop, whole, size]; omega) (by omega)
      rw [groupsOf, rest, List.range_succ_eq_map, List.map_cons, List.map_map, Nat.zero_mul, List.drop_zero]
      congr 1
      refine List.map_congr_left fun i _ => ?_
      simp only [Function.comp_apply, List.drop_drop]
      rw [Nat.succ_mul, Nat.add_comm (i * w) w]

/-- A part of a buffer is the buffer at the later address (R8). -/
theorem take_drop_loadBytes (s : State) (p : Word) {i w n : Nat} (within : i + w ≤ n) :
    ((s.loadBytes p n).drop i).take w = s.loadBytes (p + BitVec.ofNat 32 i) w := by
  rw [State.loadBytes_eq_map, State.loadBytes_eq_map]
  apply List.ext_getElem
  · simp; omega
  · intro j h1 h2
    simp only [List.getElem_take, List.getElem_drop, List.getElem_map, List.getElem_range]
    rw [BitVec.ofNat_add, BitVec.add_assoc]

/-! ### The units of a buffer -/

/-- The unit of a group that has a chip select (R387). -/
def Spi.groupUnit (x : Spi) (g : List Byte) : Option SpiUnit :=
  (x.select (x.groupOperands g).1).map fun r => x.unitOf r.1 r.2 (x.groupOperands g).2

/-- The SPI after a group that has a chip select (R380). -/
def Spi.afterGroup (x : Spi) (g : List Byte) : Spi :=
  match x.select (x.groupOperands g).1 with
  | none => x
  | some (_, k) => { x with lastPcs := (x.groupOperands g).1, lastBits := x.bits k }

theorem Spi.afterGroup_some {x : Spi} {g : List Byte} {n : Nat} {k : Fin 4}
    (selected : x.select (x.groupOperands g).1 = some (n, k)) :
    x.afterGroup g = { x with lastPcs := (x.groupOperands g).1, lastBits := x.bits k } := by
  rw [Spi.afterGroup, selected]

/-- What decides the units of a buffer does not change while they are prepared. -/
theorem Spi.afterGroup_mr (x : Spi) (g : List Byte) : (x.afterGroup g).mr = x.mr := by
  unfold Spi.afterGroup
  split <;> rfl

theorem Spi.afterGroup_csr (x : Spi) (g : List Byte) : (x.afterGroup g).csr = x.csr := by
  unfold Spi.afterGroup
  split <;> rfl

/-- The selection depends on `MR` only, and the width on `CSR` too (R374, R378). -/
theorem Spi.select_congr {x y : Spi} (mr : y.mr = x.mr) (pcs : BitVec 4) : y.select pcs = x.select pcs := by
  simp only [Spi.select, mr]

theorem Spi.groupOperands_congr {x y : Spi} (mr : y.mr = x.mr) (g : List Byte) :
    y.groupOperands g = x.groupOperands g := by
  unfold Spi.groupOperands Spi.variablePs Spi.mrPcs
  rw [mr]

theorem Spi.groupUnit_congr {x y : Spi} (mr : y.mr = x.mr) (csr : y.csr = x.csr) (g : List Byte) :
    y.groupUnit g = x.groupUnit g := by
  simp only [Spi.groupUnit, Spi.groupOperands_congr mr, Spi.select_congr mr, Spi.unitOf, Spi.bits, csr]

/-- The selection of a group with a chip select. -/
def Spi.groupOk (x : Spi) (g : List Byte) : Prop := (x.select (x.groupOperands g).1).isSome = true

theorem Spi.groupOk_congr {x y : Spi} (mr : y.mr = x.mr) {g : List Byte} : y.groupOk g ↔ x.groupOk g := by
  simp only [Spi.groupOk, Spi.groupOperands_congr mr, Spi.select_congr mr]

theorem Spi.groupOk_iff {x : Spi} {g : List Byte} :
    x.groupOk g ↔ ∃ n k, x.select (x.groupOperands g).1 = some (n, k) := by
  rw [Spi.groupOk, Option.isSome_iff_exists]
  exact Prod.exists

section

variable {s : State} {u : Fin 2}

/-- Groups that all have a chip select (R387). -/
theorem spiPrepareAll_eq (gs : List (List Byte)) (qs : List SpiUnit) (ok : ∀ g ∈ gs, (s.spi u).groupOk g) :
    spiPrepareAll u gs qs s
      = (qs ++ gs.filterMap (s.spi u).groupUnit, s.setSpi u (gs.foldl Spi.afterGroup (s.spi u))) := by
  induction gs generalizing qs s with
  | nil => simp [spiPrepareAll]
  | cons g gs ih =>
    obtain ⟨n, k, selected⟩ := Spi.groupOk_iff.1 (ok g (List.mem_cons_self ..))
    have later := Spi.afterGroup_some selected
    have unit : (s.spi u).groupUnit g = some ((s.spi u).unitOf n k ((s.spi u).groupOperands g).2) := by
      rw [Spi.groupUnit, selected]; rfl
    have rest := ih (s := s.setSpi u ((s.spi u).afterGroup g))
      (qs ++ [(s.spi u).unitOf n k ((s.spi u).groupOperands g).2])
      (fun g' member => by
        rw [State.setSpi_spi_same, Spi.groupOk_congr (Spi.afterGroup_mr _ g)]
        exact ok g' (List.mem_cons_of_mem _ member))
    rw [State.setSpi_spi_same, State.setSpi_setSpi,
      funext (Spi.groupUnit_congr (Spi.afterGroup_mr (s.spi u) g) (Spi.afterGroup_csr _ g))] at rest
    rw [spiPrepareAll, spiPrepare_some _ selected]
    dsimp only
    rw [← later, rest, List.filterMap_cons, unit, List.foldl_cons, List.append_assoc]
    rfl

/-- Groups leave all but the chip select that was used last. -/
theorem Spi.foldl_afterGroup_frame (x : Spi) (gs : List (List Byte)) : gs.foldl Spi.afterGroup x = { x with
    lastPcs := (gs.foldl Spi.afterGroup x).lastPcs, lastBits := (gs.foldl Spi.afterGroup x).lastBits } := by
  induction gs generalizing x with
  | nil => rfl
  | cons g gs ih =>
    have one : x.afterGroup g = { x with lastPcs := (x.afterGroup g).lastPcs, lastBits := (x.afterGroup g).lastBits } := by
      unfold Spi.afterGroup
      split <;> rfl
    rw [List.foldl_cons, ih, one]

/-- The last group decides the chip select that stays (R380). -/
theorem Spi.foldl_afterGroup (x : Spi) (gs : List (List Byte)) {g : List Byte} {n : Nat} {k : Fin 4}
    (selected : x.select (x.groupOperands g).1 = some (n, k)) :
    (gs ++ [g]).foldl Spi.afterGroup x = { x with lastPcs := (x.groupOperands g).1, lastBits := x.bits k } := by
  rw [List.foldl_append, List.foldl_cons, List.foldl_nil, Spi.foldl_afterGroup_frame]
  exact Spi.afterGroup_some selected

end

/-! ### The loopback of a buffer -/

section

variable {s : State} {u : Fin 2}

/-- A buffer whose groups all have a chip select (R387). -/
theorem spiSendBuffer_eq {unit : Nat} {bs : List Byte} (live : s.fault = none)
    (ok : ∀ g ∈ groupsOf unit bs.length bs, (s.spi u).groupOk g) : spiSendBuffer u unit bs s
      = spiTransfer u ((groupsOf unit bs.length bs).filterMap (s.spi u).groupUnit)
        (s.setSpi u ((groupsOf unit bs.length bs).foldl Spi.afterGroup (s.spi u))) := by
  rw [spiSendBuffer, spiPrepareAll_eq _ _ ok, List.nil_append]
  exact State.andThen_live _ live

/-- With a fixed chip select every group has the same operands but for its datum (R387). -/
theorem Spi.groupUnit_fixed {x : Spi} {n : Nat} {k : Fin 4} (fixed : x.variablePs = false)
    (selected : x.select x.mrPcs = some (n, k)) (g : List Byte) :
    x.groupUnit g = some (x.unitOf n k ((leWord g).extractLsb 15 0)) := by
  simp [Spi.groupUnit, Spi.groupOperands, fixed, selected]

theorem Spi.groupOk_fixed {x : Spi} {n : Nat} {k : Fin 4} (fixed : x.variablePs = false)
    (selected : x.select x.mrPcs = some (n, k)) (g : List Byte) : x.groupOk g := by
  simp [Spi.groupOk, Spi.groupOperands, fixed, selected]

/-- The word that memory holds at unit `i` of a buffer (R386). -/
def State.spiDatum (s : State) (p : Word) (w i : Nat) : BitVec 16 :=
  if w = 1 then ((s.loadBytes (p + BitVec.ofNat 32 i) 1).headD 0#8).setWidth 16
  else (leWord (s.loadBytes (p + BitVec.ofNat 32 (2 * i)) 2)).setWidth 16

/-- The words of a buffer sent on a fixed chip select (R379, R386). -/
theorem loopback_data {x : Spi} {n w m : Nat} {k : Fin 4} {p : Word} (fixed : x.variablePs = false)
    (selected : x.select x.mrPcs = some (n, k)) (hw : w = 1 ∨ w = 2) :
    ((groupsOf w (s.loadBytes p (m * w)).length (s.loadBytes p (m * w))).filterMap x.groupUnit).map SpiUnit.data
      = (List.range m).map fun i => s.spiDatum p w i &&& BitVec.ofNat 16 (2 ^ x.bits k - 1) := by
  have pos : 0 < w := by omega
  have low (v : Word) : v.extractLsb 15 0 = v.setWidth 16 := BitVec.eq_of_toNat_eq (by simp)
  have length : (s.loadBytes p (m * w)).length = m * w := by simp [State.loadBytes_eq_map]
  have enough : m ≤ m * w := Nat.le_mul_of_pos_right m pos
  rw [groupsOf_eq pos m _ _ length (by omega), funext (Spi.groupUnit_fixed fixed selected), List.filterMap_eq_map',
    List.map_map, List.map_map]
  refine List.map_congr_left fun i member => ?_
  have within : i * w + w ≤ m * w := by
    rw [← Nat.succ_mul]; exact Nat.mul_le_mul_right w (List.mem_range.1 member)
  simp only [Function.comp_apply, Spi.unitOf, take_drop_loadBytes s p within]
  congr 1
  rcases hw with rfl | rfl
  · simp only [State.spiDatum, if_true, Nat.mul_one, low, State.loadBytes_eq_map, List.range_one, List.map_cons,
      List.map_nil, List.headD_cons, leWord_one]
    exact BitVec.setWidth_setWidth_of_le _ (by decide)
  · simp only [State.spiDatum, Nat.mul_comm i 2, low]
    rfl

/-- A transmit transfer of one buffer whose host leaves the transmit pair used up (R272). -/
theorem pdcTx_of_one_buffer {h : PdcHost} {unit : Nat} {send : List Byte → State → State} {t : State}
    (count : (s.pdc h).tcr ≠ 0#16) (readable : s.readableBuffer (s.pdc h).tpr ((s.pdc h).tcr.toNat * unit) = true)
    (sent : send (s.loadBytes (s.pdc h).tpr ((s.pdc h).tcr.toNat * unit))
      (s.setPdc h ((s.pdc h).txAdvance (s.pdc h).tcr.toNat unit)) = t) (live : t.fault = none)
    (used : (t.pdc h).tcr = 0#16) (single : (t.pdc h).tncr = 0#16) :
    (pdcTx h unit send none s).2 = pdcUpdateIrq h (t.setPdc h (t.pdc h).withTxbufe) := by
  have current : (s.pdc h).txRollOver = s.pdc h := if_neg fun rolls => count rolls.1
  have rounds : pdcTxRounds h unit send 3 none 0 s = (0 + (s.pdc h).tcr.toNat * unit, t) := by
    rw [pdcTxRounds_send 2 0 (by simp) (by rw [current]; exact count) (by rw [current]; exact readable)]
    simp only [current, withinLimit, sent, live, Option.isSome_none, Bool.false_eq_true, if_false]
    exact pdcTxRounds_empty 1 _ (by rw [Pdc.txRollOver, if_neg fun rolls => rolls.2 single]; exact used)
  rw [pdcTx_of_rounds rounds live]

/-- The words of a looped-back buffer meet the receive pump (R381, R382). -/
theorem spiSendBuffer_loopback {n w m : Nat} {k : Fin 4} {p : Word} {q : Pdc} (live : s.fault = none)
    (alone : (s.link (.spi u)).client = false) (fixed : (s.spi u).variablePs = false)
    (selected : (s.spi u).select (s.spi u).mrPcs = some (n, k)) (hw : w = 1 ∨ w = 2) (some_units : m ≠ 0)
    (empty : (s.spi u).rxq = []) :
    spiSendBuffer u w (s.loadBytes p (m * w)) (s.setPdc (.spi u) q) = spiRxPump u ((s.setPdc (.spi u) q).setSpi u
      { s.spi u with
        lastPcs := (s.spi u).mrPcs, lastBits := (s.spi u).bits k, ovres := (s.spi u).ovres || (s.spi u).rdrf
        rxq := (List.range m).map fun i => s.spiDatum p w i &&& BitVec.ofNat 16 (2 ^ (s.spi u).bits k - 1) }) := by
  have data := loopback_data (s := s) (p := p) (m := m) fixed selected hw
  have length : (s.loadBytes p (m * w)).length = m * w := by simp [State.loadBytes_eq_map]
  obtain ⟨gs, g, split⟩ : ∃ gs g, groupsOf w (s.loadBytes p (m * w)).length (s.loadBytes p (m * w)) = gs ++ [g] := by
    rw [groupsOf_eq (by omega) m _ _ length (by rw [length]; exact Nat.le_mul_of_pos_right m (by omega))]
    obtain ⟨m, rfl⟩ := Nat.exists_eq_succ_of_ne_zero some_units
    exact ⟨_, _, by rw [List.range_succ, List.map_append, List.map_singleton]⟩
  have units_nonempty : ((List.range m).map fun i => s.spiDatum p w i &&& BitVec.ofNat 16 (2 ^ (s.spi u).bits k - 1)).isEmpty
      = false := by simp [some_units]
  have target : (groupsOf w (s.loadBytes p (m * w)).length (s.loadBytes p (m * w))).foldl Spi.afterGroup (s.spi u)
      = { s.spi u with lastPcs := (s.spi u).mrPcs, lastBits := (s.spi u).bits k } := by
    have operand : ((s.spi u).groupOperands g).1 = (s.spi u).mrPcs := by simp [Spi.groupOperands, fixed]
    rw [split, Spi.foldl_afterGroup _ gs (by rw [operand]; exact selected), operand]
  rw [spiSendBuffer_eq (s := s.setPdc (.spi u) q) live fun g _ => Spi.groupOk_fixed fixed selected g, State.setPdc_spi,
    target, spiTransfer_loopback (by simpa using alone), data]
  simp only [spiDeliver, State.setSpi_spi_same, State.setSpi_setSpi, units_nonempty, Bool.not_false, Bool.and_true,
    empty, List.nil_append]

/-- The transmit half after one buffer, written in two steps (R272). -/
theorem afterSend_oneBuffer {p : Pdc} {w : Nat} (count : p.tcr ≠ 0#16) :
    (p.txAdvance p.tcr.toNat w).withTxbufe = p.afterSend w p.tcr.toNat := by
  simp [Pdc.afterSend, Pdc.txCurrent, Pdc.txAdvance, Pdc.withTxbufe, count, Bool.and_comm]

/-- The two halves of a channel do not meet (R270, R272). -/
theorem afterReceive_withTxbufe (p : Pdc) (w n : Nat) :
    (p.afterReceive w n).withTxbufe = p.withTxbufe.afterReceive w n := by
  have current : p.withTxbufe.rxCurrent = p.rxCurrent.withTxbufe := by
    by_cases used : p.rcr = 0#16 <;> simp [Pdc.rxCurrent, Pdc.withTxbufe, used]
  have kept : p.withTxbufe.rxten = p.rxten := rfl
  unfold Pdc.afterReceive
  rw [current, kept]
  generalize p.rxCurrent = q
  dsimp only [Pdc.withTxbufe]
  split_ifs <;> rfl

@[simp] theorem afterReceive_tcr (p : Pdc) (w n : Nat) : (p.afterReceive w n).tcr = p.tcr := by
  unfold Pdc.afterReceive Pdc.rxCurrent
  dsimp only
  split_ifs <;> rfl

@[simp] theorem afterReceive_tncr (p : Pdc) (w n : Nat) : (p.afterReceive w n).tncr = p.tncr := by
  unfold Pdc.afterReceive Pdc.rxCurrent
  dsimp only
  split_ifs <;> rfl

theorem Spi.txUnitBytes_fixed {x : Spi} {n : Nat} {k : Fin 4} (fixed : x.variablePs = false)
    (selected : x.select x.mrPcs = some (n, k)) : x.txUnitBytes = some (if x.bits k = 8 then 1 else 2) := by
  simp [Spi.txUnitBytes, fixed, selected]

/-- A start of an enabled master (R387). -/
theorem spiTxStart_master {w : Nat} (on : (s.spi u).enabled = true) (master : (s.spi u).master = true)
    (width : (s.spi u).txUnitBytes = some w) :
    spiTxStart u s = (pdcTx (.spi u) w (spiSendBuffer u w) none s).2 := by
  simp [spiTxStart, on, master, width]

/-- Units that the current buffer takes (R270). -/
theorem storeReceived_current {h : PdcHost} {us : List (List Byte)} {q : Pdc} (hq : s.pdc h = q)
    (current : q.rxCurrent = q) (fits : us.length ≤ q.rcr.toNat) :
    s.storeReceived h us = s.storeBytes q.rpr us.flatten := by
  rw [State.storeReceived, hq, current]
  simp only [List.take_of_length_le fits, List.drop_of_length_le fits, List.flatten_nil, State.storeBytes]

/-- The end of a transfer that has gone through the receive pump: TXBUFE and the output (R272). -/
theorem spi_finished {m : List Host.Cell} {P Q : Pdc} {y : Spi} {a : Aic} {r t : State}
    (pumped : r = (((s.setMem m).setPdc (.spi u) P).setSpi u y).setAic a)
    (line : Aic.onlyLine (hostLine (.spi u)) s.aic a) (finished : t = pdcUpdateIrq (.spi u) (r.setPdc (.spi u) Q)) :
    t.fault = s.fault ∧ t.mem = m ∧ t.pdc (.spi u) = Q ∧ t.spi u = y
      ∧ t = (((s.setMem m).setPdc (.spi u) Q).setSpi u y).setAic t.aic ∧ irqFollows (.spi u) s t := by
  subst pumped finished
  refine ⟨by simp, by simp, by simp, by simp, ?_, irqFollows_of_onlyLine (h := .spi u) line⟩
  rw [show pdcUpdateIrq (.spi u) = spiUpdateIrq u from rfl, spiUpdateIrq_frame]
  rw [show ((((s.setMem m).setPdc (.spi u) P).setSpi u y).setAic a).setPdc (.spi u) Q
    = ((((s.setMem m).setPdc (.spi u) P).setPdc (.spi u) Q).setSpi u y).setAic a from rfl, State.setPdc_setPdc]
  rfl

end

end Sys2Proof.Machine

namespace Sys2Proof

open Machine

/-- Settles O36: the chip select by cases, the registers by what the pump finds, then the transfer through both
channels. -/
theorem spiLoopback : Obligations.SpiLoopback := by
  refine ⟨?select, ?registers, ?received, ?copied⟩
  case select =>
    intro x pcs
    refine ⟨fun direct => ?direct, fun decoded none_low => ?unselected, fun decoded some_low => ?decoded⟩
    case direct => rw [Spi.select, direct, if_neg Bool.false_ne_true]
    case unselected => rw [Spi.select, if_pos decoded, if_pos none_low]
    case decoded =>
      refine ⟨_, ?_, by rw [Spi.select, if_pos decoded, if_neg some_low]⟩
      have bound := pcs.isLt
      simp only [Fin.ofNat]
      omega
  case registers =>
    intro s u v ready x pcs
    have live := State.ready_fault ready
    have row := exec_of_ready ready (exec_spiTdrW u v s)
    have read := exec_of_ready ready (exec_spiRdrR u s)
    refine ⟨?off, ?slave, ?ignored, ?unselected, ?looped, ?rdr, ?rdrEmpty, ?rdrNext⟩
    case off =>
      intro off
      rw [row, spiWriteTdr]
      simp [show (s.spi u).enabled = false from off]
    case slave =>
      intro on slave flag
      rw [row, spiWriteTdr]
      simp [show (s.spi u).enabled = true from on, Spi.master, show bit (s.spi u).mr 0 = false from slave, flag, State.raise]
    case ignored =>
      intro on slave flag
      rw [row, spiWriteTdr]
      simp [show (s.spi u).enabled = true from on, Spi.master, show bit (s.spi u).mr 0 = false from slave, flag]
    case unselected =>
      intro on master none_low
      rw [row, spiWriteTdr_none on master none_low]
      exact ⟨_, rfl, rfl⟩
    case looped =>
      intro n k on master selected alone bits d
      have written : spiWriteTdr u v s = spiRxPump u (s.setSpi u
          { x with lastPcs := pcs, lastBits := bits, ovres := x.ovres || x.rdrf, rxq := x.rxq ++ [d] }) := by
        rw [spiWriteTdr_some on master selected, spiTransfer_loopback (by simpa using alone)]
        simp only [spiDeliver, State.setSpi_spi_same, State.setSpi_setSpi, List.map_cons, List.map_nil,
          List.isEmpty_cons, Bool.not_false, Bool.and_true]
        rfl
      rw [row, written]
      refine ⟨rfl, fun unarmed full => ?_, fun c cs unarmed free queue => ?_⟩
      · rw [spiRxPump_hold (by simpa using live) (by simpa using unarmed)]
        cases queue : x.rxq ++ [d] <;> simp [Spi.hold, full]
      · rw [spiRxPump_hold (by simpa using live) (by simpa using unarmed)]
        simp [Spi.hold, free, queue]
    case rdr =>
      intro t
      rw [read, spiReadRdr, State.andThen_eq_ite]
      rfl
    case rdrEmpty =>
      intro empty
      rw [read, spiReadRdr, spiRxPump_nothing (by simpa using live) (by simpa using empty),
        State.andThen_live _ (by simpa using live)]
      rfl
    case rdrNext =>
      intro d ds queue unarmed
      rw [read, spiReadRdr, spiRxPump_hold (by simpa using live) (by simpa using unarmed),
        State.andThen_live _ (by simpa using live)]
      simp [Spi.hold, show (s.spi u).rxq = d :: ds from queue]
      rfl
  case received =>
    intro s u h x p w n t live queue armed room
    refine ⟨fun ok => ?_, fun bad => spiRxPump_abort live queue armed room bad⟩
    obtain ⟨live1, mem, pdc, spi, frame, follows⟩ := spiRxPump_received live queue armed room rfl rfl ok
    exact ⟨live1, mem, pdc, spi.trans (Spi.hold_dropRx x n), frame, follows⟩
  case copied =>
    intro s u n k h x p pcs bits w m live on master fixed selected alone armed count single empty readable ds t
    have some_units : m ≠ 0 := (count_pos_iff.1 count).ne'
    have hw : w = 1 ∨ w = 2 := by
      by_cases narrow : bits = 8
      · exact .inl (if_pos narrow)
      · exact .inr (if_neg narrow)
    have started : t = (pdcTx h w (spiSendBuffer u w) none s).2 := by
      have width : x.txUnitBytes = some w := Spi.txUnitBytes_fixed fixed selected
      exact spiTxStart_master on master width
    have sent := spiSendBuffer_loopback (s := s) (u := u) (m := m) (p := p.tpr) (q := p.txAdvance m w) live alone fixed
      selected hw some_units empty
    obtain ⟨y, hy⟩ : ∃ y : Spi, y = { x with
        lastPcs := pcs, lastBits := bits, ovres := x.ovres || x.rdrf, rxq := ds } := ⟨_, rfl⟩
    have pumps : spiSendBuffer u w (s.loadBytes p.tpr (m * w)) (s.setPdc h (p.txAdvance m w))
        = spiRxPump u ((s.setPdc h (p.txAdvance m w)).setSpi u y) := by
      rw [sent, hy]; rfl
    have length : ds.length = m := by simp [ds]
    have nonempty : ds ≠ [] := fun none_left => some_units (by rw [← length, none_left]; rfl)
    refine ⟨fun receives fits last writable => ?received, fun idle c cs queue => ?idle⟩
    case received =>
      have current : (p.txAdvance m w).rxCurrent = p.txAdvance m w := by
        have used : p.rcr ≠ 0#16 := by rw [count_pos_iff]; omega
        simp [Pdc.rxCurrent, Pdc.txAdvance, used]
      have room : (p.txAdvance m w).rxRoom = p.rcr.toNat := by simp [Pdc.rxRoom, Pdc.txAdvance, last]
      obtain ⟨s2, hs2⟩ : ∃ s2, s2 = (s.setPdc h (p.txAdvance m w)).setSpi u y := ⟨_, rfl⟩
      rw [← hs2] at pumps
      have spi2 : s2.spi u = y := by rw [hs2, State.setSpi_spi_same]
      have pdc2 : s2.pdc (.spi u) = p.txAdvance m w := by rw [hs2, State.setSpi_pdc, State.setPdc_pdc_same]
      have queue : (s2.spi u).rxq = ds := by rw [spi2, hy]
      have ok2 : s2.receiveBuffersOk (.spi u) w m = true := by
        have rest : s2.writableBuffer p.rnpr (0 * w) = true := by simp [State.writableBuffer, State.dmaAll]
        have first : s2.writableBuffer p.rpr (m * w) = true := by
          rw [← writable, hs2]
          exact State.dmaAll_congr (s := s) (t := (s.setPdc h (p.txAdvance m w)).setSpi u y) rfl _ _ _
        rw [State.receiveBuffersOk, pdc2, current]
        simp only [Pdc.txAdvance, Nat.min_eq_left fits, Nat.sub_eq_zero_of_le fits, first, rest, Bool.and_self]
      obtain ⟨-, mem, pdc, spi, frame, follows⟩ := spiRxPump_received (s := s2) (u := u) (by rw [hs2]; exact live)
        (by rw [queue]; exact nonempty) (by rw [pdc2]; exact receives) (by rw [pdc2, room]; omega) (n := m) (w := w)
        (by rw [queue, length, pdc2, room]; omega) (by rw [spi2, hy]; rfl) ok2
      rw [← pumps] at mem pdc spi frame follows
      generalize pumps' : spiSendBuffer u w (s.loadBytes p.tpr (m * w)) (s.setPdc h (p.txAdvance m w)) = r at *
      have last2 : (r.pdc h).withTxbufe = (p.afterSend w m).afterReceive w m := by
        rw [pdc, pdc2, afterReceive_withTxbufe, afterSend_oneBuffer count]
      have stored : r.mem = (s.storeBytes p.rpr (ds.flatMap (spiBytes w))).mem := by
        rw [mem, queue, List.take_of_length_le length.le,
          storeReceived_current pdc2 current (by rw [List.length_map, length]; exact fits), List.flatMap_def, hs2]
        exact State.storeBytes_mem_congr (s := s) (t := (s.setPdc h (p.txAdvance m w)).setSpi u y) rfl rfl _ _
      have emptied : r.spi u = { x with lastPcs := pcs, lastBits := bits, ovres := x.ovres || x.rdrf } := by
        rw [spi, spi2, Spi.hold_dropRx, hy]
        simp only [List.drop_of_length_le length.le]
        exact congrArg (fun q => { x with
          lastPcs := pcs, lastBits := bits, ovres := x.ovres || x.rdrf, rxq := q }) empty.symm
      have finished := pdcTx_of_one_buffer (s := s) (h := h) count readable pumps'
        (by rw [frame, hs2]; simpa using live) (by rw [pdc, pdc2]; simp [Pdc.txAdvance, m])
        (by rw [pdc, pdc2]; simpa [Pdc.txAdvance] using single)
      have whole : r = (((s.setMem r.mem).setPdc h (r.pdc h)).setSpi u (r.spi u)).setAic r.aic := by
        conv_lhs => rw [frame, hs2]
        rw [show (((s.setPdc h (p.txAdvance m w)).setSpi u y).setMem r.mem).setPdc (.spi u) (r.pdc (.spi u))
          = (((s.setMem r.mem).setPdc h (p.txAdvance m w)).setPdc h (r.pdc h)).setSpi u y from rfl,
          State.setPdc_setPdc, State.setSpi_setSpi]
      have line : Aic.onlyLine (hostLine (.spi u)) s.aic r.aic := by
        have line2 := follows.2
        rw [hs2] at line2
        exact line2
      obtain ⟨fault1, mem1, pdc1, spi1, same, follows1⟩ := spi_finished whole line (started.trans finished)
      rw [last2] at pdc1 same
      refine ⟨fault1.trans live, mem1.trans stored, pdc1, spi1.trans emptied, ?_, follows1⟩
      rw [mem1, pdc1, spi1]
      exact same
    case idle =>
      have unarmed : (((s.setPdc h (p.txAdvance m w)).setSpi u y).pdc h).rxActive = false := by
        simp [Pdc.rxActive, Pdc.txAdvance, show (s.pdc h).rxten = false from idle, p]
      have held : y.hold = if x.rdrf then { x with lastPcs := pcs, lastBits := bits, ovres := true, rxq := ds }
          else { x with lastPcs := pcs, lastBits := bits, rdrData := c, rdrPcs := pcs, rdrf := true, rxq := cs } := by
        cases full : x.rdrf <;> simp [Spi.hold, hy, queue, full]
      have pumped := pumps.trans (spiRxPump_hold live unarmed)
      rw [State.setSpi_spi_same, State.setSpi_setSpi] at pumped
      have line := pdcUpdateIrq_onlyLine (.spi u) ((s.setPdc h (p.txAdvance m w)).setSpi u y.hold)
      have frame := spiUpdateIrq_frame u ((s.setPdc h (p.txAdvance m w)).setSpi u y.hold)
      have finished := pdcTx_of_one_buffer (s := s) (h := h) count readable pumped (by simpa using live)
        (by simp [Pdc.txAdvance, m]) (by simpa [Pdc.txAdvance] using single)
      obtain ⟨fault, -, pdc, spi, same, follows⟩ := spi_finished (s := s) (m := s.mem) frame line (started.trans finished)
      have last : ((spiUpdateIrq u ((s.setPdc h (p.txAdvance m w)).setSpi u y.hold)).pdc h).withTxbufe = p.afterSend w m := by
        rw [spiUpdateIrq_pdc, State.setSpi_pdc, State.setPdc_pdc_same, afterSend_oneBuffer count]
      exact ⟨fault.trans live, pdc.trans last, spi.trans held, by rw [pdc, spi]; exact same, follows⟩

end Sys2Proof
end

section
/-! The SPI with a client: the units on its link, the echo that releases the CPU, and the transmit DMA (R381, R387, R388,
R390). O37. -/

namespace Sys2Proof.Machine

/-! ### The units on the link -/

/-- A unit word, byte by byte (R379). -/
theorem leBytes_unitWord (N : Word) (b : Byte) (d : BitVec 16) :
    leBytes 4 ((N <<< 24) ||| (b.setWidth 32 <<< 16) ||| d.setWidth 32)
      = [d.setWidth 8, (d >>> 8).setWidth 8, b, N.setWidth 8] := by
  simp only [leBytes, List.range_succ, List.range_zero, List.map_cons, List.map_nil, List.nil_append,
    List.cons_append, List.cons.injEq, and_true]
  refine ⟨?_, ?_, ?_, ?_⟩ <;> ext i hi
  · simp [show i < 16 by omega]
  · simp [show 8 + i < 24 by omega, show 8 + i < 16 by omega, show 8 + i < 32 by omega]
  · simp [show 16 + i < 24 by omega, show 16 + i < 32 by omega, show i < 32 by omega, BitVec.getLsbD_eq_getElem hi]
  · have past_b : b.getLsbD (24 + i - 16) = false := BitVec.getLsbD_of_ge _ _ (by omega)
    have past_d : d.getLsbD (24 + i) = false := BitVec.getLsbD_of_ge _ _ (by omega)
    simp [show 24 + i < 32 by omega, past_b, past_d,
      BitVec.getLsbD_eq_getElem (x := N) (show i < 32 by omega)]

/-- The bytes of a unit (R379). -/
theorem Spi.unitOf_wire (x : Spi) (n : Nat) (k : Fin 4) (td : BitVec 16) : (x.unitOf n k td).wire =
    [(x.unitOf n k td).data.setWidth 8, ((x.unitOf n k td).data >>> 8).setWidth 8, BitVec.ofNat 8 (x.bits k - 8),
      BitVec.ofNat 8 n] := by
  have narrow : x.bits k - 8 < 16 := by
    have bound : field x.csr[k.val] 7 4 < 16 := by simp only [field]; omega
    simp only [Spi.bits]; omega
  have number : BitVec.ofNat 32 (x.bits k - 8) = (BitVec.ofNat 8 (x.bits k - 8)).setWidth 32 :=
    BitVec.eq_of_toNat_eq (by simp; omega)
  have select : BitVec.ofNat 8 n = (BitVec.ofNat 32 n).setWidth 8 := BitVec.eq_of_toNat_eq (by simp)
  rw [select]
  exact (congrArg (fun b : Word => leBytes 4 ((BitVec.ofNat 32 n <<< 24) ||| (b <<< 16)
    ||| (x.unitOf n k td).data.setWidth 32)) number).trans (leBytes_unitWord _ _ _)

section

variable {s : State} {u : Fin 2}

/-- A transmission and an SPI do not meet. -/
theorem emitData_setSpi (s : State) (u : Fin 2) (y : Spi) {l : LinkId} (bs : List Byte) :
    emitData l bs (s.setSpi u y) = (emitData l bs s).setSpi u y := by
  by_cases client : (s.link l).client = true
  · simp only [emitData, State.setSpi_link, State.setSpi_params, client, if_true]; rfl
  · simp only [emitData, State.setSpi_link, client, Bool.false_eq_true, if_false]

/-- The link half of a transfer touches the link and what the channel awaits (R381). -/
theorem spiSend_eq (bs : List Byte) (n : Nat) (s : State) : spiSend u bs n s =
    (s.setSpi u { s.spi u with awaiting := awaitMore (s.spi u).awaiting n }).setLink (.spi u)
      ((emitData (.spi u) bs s).link (.spi u)) := by
  unfold spiSend
  dsimp only
  rw [emitData_frame]
  simp only [State.setLink_spi, State.setLink_link_same]
  rfl

/-- A channel that awaits holds the CPU (R390). -/
theorem held_of_awaiting {n : Nat} (awaits : (s.spi u).awaiting = some n) : s.held = true := by
  have which : u = 0 ∨ u = 1 := by omega
  rcases which with rfl | rfl <;> simp [State.held, awaits]

theorem awaiting_of_ready (ready : s.ready = true) (u : Fin 2) : (s.spi u).awaiting = none := by
  by_contra awaits
  obtain ⟨n, some_units⟩ := Option.ne_none_iff_exists'.1 awaits
  have held := held_of_awaiting some_units
  rw [((State.ready_iff s).1 ready).2] at held
  exact Bool.false_ne_true held

end

/-! ### The echo -/

section

variable {s : State} {u : Fin 2}

theorem spiEcho_none (payload : List Byte) (idle : (s.spi u).awaiting = none) : spiEcho u payload s = s := by
  simp [spiEcho, idle]

theorem spiEcho_short {payload : List Byte} {n : Nat} (awaits : (s.spi u).awaiting = some n)
    (short : ((s.spi u).echoAcc ++ payload).length < n * s.params.spiInUnitBytes) :
    spiEcho u payload s = s.setSpi u { s.spi u with echoAcc := (s.spi u).echoAcc ++ payload } := by
  unfold spiEcho
  simp only [awaits]
  rw [if_neg (Nat.not_le_of_lt short)]

/-- The frame that completes an echo of one or more units (R388). -/
theorem spiEcho_complete {payload : List Byte} {n : Nat} (awaits : (s.spi u).awaiting = some n) (some_units : 0 < n)
    (complete : n * s.params.spiInUnitBytes ≤ ((s.spi u).echoAcc ++ payload).length) :
    spiEcho u payload s = spiRxPump u (s.setSpi u { s.spi u with
      awaiting := none, echoAcc := [], ovres := (s.spi u).ovres || (s.spi u).rdrf
      rxq := (s.spi u).rxq ++ echoWords s.params.spiInUnitBytes n ((s.spi u).echoAcc ++ payload) }) := by
  have nonempty : (echoWords s.params.spiInUnitBytes n ((s.spi u).echoAcc ++ payload)).isEmpty = false := by
    simp [echoWords, List.isEmpty_eq_false_iff]
    omega
  unfold spiEcho
  simp only [awaits]
  rw [if_pos complete]
  simp only [spiDeliver, State.setSpi_spi_same, State.setSpi_setSpi, nonempty, Bool.not_false, Bool.and_true]

theorem echoWords_length (unitBytes n : Nat) (bs : List Byte) : (echoWords unitBytes n bs).length = n := by
  simp [echoWords]

theorem echoWords_getElem? {unitBytes n i : Nat} (bs : List Byte) (within : i < n) : (echoWords unitBytes n bs)[i]?
    = some ((leWord ((bs.drop (i * unitBytes)).take unitBytes)).setWidth 16) := by
  simp only [echoWords, List.getElem?_map, List.getElem?_range within, Option.map_some, leWord, Option.some.injEq]
  exact BitVec.eq_of_toNat_eq (by simp)

/-- The low half of a unit of four bytes (R388). -/
theorem leWord_low (b0 b1 b2 b3 : Byte) : (leWord [b0, b1, b2, b3]).setWidth 16 = b1 ++ b0 := by
  apply BitVec.eq_of_toNat_eq
  rw [← leNat_append_toNat]
  have h0 := b0.isLt
  have h1 := b1.isLt
  simp only [leWord, leNat, BitVec.toNat_setWidth, BitVec.toNat_ofNat]
  omega

/-- The four bytes of a unit within the echo. -/
theorem take_four_drop {bs : List Byte} {k : Nat} (within : k + 4 ≤ bs.length) :
    (bs.drop k).take 4 = [bs[k], bs[k + 1], bs[k + 2], bs[k + 3]] := by
  rw [List.drop_eq_getElem_cons (by omega), List.drop_eq_getElem_cons (by omega), List.drop_eq_getElem_cons (by omega),
    List.drop_eq_getElem_cons (by omega)]
  rfl

end

/-! ### The buffers of a transfer -/

/-- The SPI after a buffer has left on the link (R381, R387). -/
def Spi.afterBuffer (w : Nat) (x : Spi) (b : List Byte) : Spi :=
  { (groupsOf w b.length b).foldl Spi.afterGroup x with
    awaiting := awaitMore x.awaiting ((groupsOf w b.length b).filterMap x.groupUnit).length }

/-- The bytes of a buffer on the link (R379, R387). -/
def Spi.bufferWire (w : Nat) (x : Spi) (b : List Byte) : List Byte :=
  ((groupsOf w b.length b).filterMap x.groupUnit).flatMap SpiUnit.wire

/-- Every group of a buffer has a chip select (R387). -/
def Spi.bufferOk (w : Nat) (x : Spi) (b : List Byte) : Prop := ∀ g ∈ groupsOf w b.length b, x.groupOk g

theorem Spi.afterBuffer_mr (w : Nat) (x : Spi) (b : List Byte) : (x.afterBuffer w b).mr = x.mr := by
  unfold Spi.afterBuffer
  rw [Spi.foldl_afterGroup_frame]

theorem Spi.afterBuffer_csr (w : Nat) (x : Spi) (b : List Byte) : (x.afterBuffer w b).csr = x.csr := by
  unfold Spi.afterBuffer
  rw [Spi.foldl_afterGroup_frame]

theorem Spi.bufferWire_congr {x y : Spi} (mr : y.mr = x.mr) (csr : y.csr = x.csr) (w : Nat) (b : List Byte) :
    y.bufferWire w b = x.bufferWire w b := by
  rw [Spi.bufferWire, funext (Spi.groupUnit_congr mr csr), Spi.bufferWire]

theorem Spi.bufferOk_congr {x y : Spi} (mr : y.mr = x.mr) (w : Nat) (b : List Byte) :
    y.bufferOk w b ↔ x.bufferOk w b := by
  simp only [Spi.bufferOk, Spi.groupOk_congr mr]

/-- The bytes of a buffer are those of its groups, one after another (R379). -/
theorem Spi.bufferWire_eq (w : Nat) (x : Spi) (b : List Byte) : x.bufferWire w b
    = (groupsOf w b.length b).flatMap fun g => ((x.groupUnit g).map SpiUnit.wire).getD [] := by
  rw [Spi.bufferWire]
  induction groupsOf w b.length b with
  | nil => rfl
  | cons g gs ih => cases unit : x.groupUnit g <;> simp [unit, ih]

/-- A buffer of `c` groups: its last group decides the chip select that stays, and the channel awaits them all. -/
theorem Spi.afterBuffer_eq {x : Spi} {w c n : Nat} {k : Fin 4} {b : List Byte} (pos : 0 < w) (some_units : c ≠ 0)
    (length : b.length = c * w) (ok : x.bufferOk w b)
    (selected : x.select (x.groupOperands (b.drop ((c - 1) * w))).1 = some (n, k)) : x.afterBuffer w b = { x with
      lastPcs := (x.groupOperands (b.drop ((c - 1) * w))).1, lastBits := x.bits k
      awaiting := awaitMore x.awaiting c } := by
  have groups := groupsOf_eq pos c b.length b length (by rw [length]; exact Nat.le_mul_of_pos_right c pos)
  have all_units : ((groupsOf w b.length b).filterMap x.groupUnit).length = c := by
    have every : ∀ g ∈ groupsOf w b.length b, (x.groupUnit g).isSome := fun g member => by
      rw [Spi.groupUnit, Option.isSome_map]; exact ok g member
    have count : (groupsOf w b.length b).length = c := by rw [groups, List.length_map, List.length_range]
    rw [← count, List.length_filterMap_eq_countP, List.countP_eq_length]
    exact every
  obtain ⟨c, rfl⟩ := Nat.exists_eq_succ_of_ne_zero some_units
  rw [Nat.succ_sub_one] at selected ⊢
  have last : (b.drop (c * w)).take w = b.drop (c * w) :=
    List.take_of_length_le (by rw [List.length_drop, length, Nat.succ_mul]; omega)
  rw [Spi.afterBuffer, all_units, groups, List.range_succ, List.map_append, List.map_singleton, last,
    Spi.foldl_afterGroup x _ selected]

section

variable {s : State} {u : Fin 2} {x : Spi} {w : Nat}

/-- A buffer that leaves on the link (R381, R387). -/
theorem spiSendBuffer_client {b : List Byte} (live : s.fault = none) (client : (s.link (.spi u)).client = true)
    (ok : (s.spi u).bufferOk w b) : spiSendBuffer u w b s = (s.setSpi u ((s.spi u).afterBuffer w b)).setLink (.spi u)
      ((emitData (.spi u) ((s.spi u).bufferWire w b) s).link (.spi u)) := by
  have awaiting : ((groupsOf w b.length b).foldl Spi.afterGroup (s.spi u)).awaiting = (s.spi u).awaiting := by
    rw [Spi.foldl_afterGroup_frame]
  rw [spiSendBuffer_eq live ok, spiTransfer_client (by simpa using client), spiSend_eq, emitData_setSpi]
  simp only [State.setSpi_spi_same, State.setSpi_setSpi, State.setSpi_link, awaiting]
  rfl

/-- A transmission does not connect or disconnect a client (R732). -/
theorem emitData_link_client (l : LinkId) (bs : List Byte) (s : State) :
    ((emitData l bs s).link l).client = (s.link l).client := by
  unfold emitData
  dsimp only
  split <;> simp

/-- The states in which a buffer of the transfer leaves. -/
def spiSends (u : Fin 2) (x : Spi) (s : State) : Prop :=
  s.fault = none ∧ (s.link (.spi u)).client = true ∧ (s.spi u).mr = x.mr

theorem spiSendBuffer_keeps {b : List Byte} (inv : spiSends u x s) (ok : x.bufferOk w b) :
    spiSendBuffer u w b s = (s.setSpi u ((s.spi u).afterBuffer w b)).setLink (.spi u)
      ((emitData (.spi u) ((s.spi u).bufferWire w b) s).link (.spi u)) :=
  spiSendBuffer_client inv.1 inv.2.1 ((Spi.bufferOk_congr inv.2.2 w b).2 ok)

/-- A buffer of an SPI with a client touches the SPI and its link only (R381). -/
theorem quietSend_spi : QuietSend (.spi u) (spiSendBuffer u w) (spiSends u x) (x.bufferOk w) where
  setPdc {s b} y inv ok := by
    rw [spiSendBuffer_keeps (s := s.setPdc (.spi u) y) inv ok, spiSendBuffer_keeps inv ok, emitData_setPdc]
    rfl
  pdc inv ok := by rw [spiSendBuffer_keeps inv ok]; rfl
  fault inv ok := by rw [spiSendBuffer_keeps inv ok]; rfl
  mem inv ok := by rw [spiSendBuffer_keeps inv ok]; rfl
  params inv ok := by rw [spiSendBuffer_keeps inv ok]; rfl
  bootTarget inv ok := by rw [spiSendBuffer_keeps inv ok]; rfl
  keeps {s b} inv ok := by
    rw [spiSendBuffer_keeps inv ok]
    refine ⟨inv.1, ?_, ?_⟩
    · rw [State.setLink_link_same, emitData_link_client]; exact inv.2.1
    · rw [State.setLink_spi, State.setSpi_spi_same, Spi.afterBuffer_mr]; exact inv.2.2

/-- The last SPI and the last link stay. -/
theorem setSpi_setLink_over (s : State) (u : Fin 2) (y z : Spi) (l : LinkId) (k m : Iox) :
    (((s.setSpi u y).setLink l k).setSpi u z).setLink l m = (s.setSpi u z).setLink l m := by
  rw [show ((s.setSpi u y).setLink l k).setSpi u z = ((s.setSpi u y).setSpi u z).setLink l k from rfl,
    State.setSpi_setSpi, State.setLink_setLink]

theorem foldl_emitData_setSpi (s : State) (u : Fin 2) (y : Spi) (l : LinkId) (f : List Byte → List Byte)
    (bufs : List (List Byte)) : bufs.foldl (fun r b => emitData l (f b) r) (s.setSpi u y)
      = (bufs.foldl (fun r b => emitData l (f b) r) s).setSpi u y := by
  induction bufs generalizing s with
  | nil => rfl
  | cons b bufs ih => rw [List.foldl_cons, emitData_setSpi, ih, List.foldl_cons]

/-- The buffers of a transfer, one after another (R387). -/
theorem foldl_spiSendBuffer (bufs : List (List Byte)) (inv : spiSends u x s) (ok : ∀ b ∈ bufs, x.bufferOk w b) :
    bufs.foldl (fun r b => spiSendBuffer u w b r) s
      = (s.setSpi u (bufs.foldl (Spi.afterBuffer w) (s.spi u))).setLink (.spi u)
        ((bufs.foldl (fun r b => emitData (.spi u) ((s.spi u).bufferWire w b) r) s).link (.spi u)) := by
  induction bufs generalizing s with
  | nil => simp
  | cons b bufs ih =>
    have first := ok b (List.mem_cons_self ..)
    have later := ih (quietSend_spi.keeps inv first) fun b' member => ok b' (List.mem_cons_of_mem _ member)
    have sent := spiSendBuffer_keeps inv first
    have target : (spiSendBuffer u w b s).spi u = (s.spi u).afterBuffer w b := by
      rw [sent, State.setLink_spi, State.setSpi_spi_same]
    have moved : spiSendBuffer u w b s = (emitData (.spi u) ((s.spi u).bufferWire w b) s).setSpi u
        ((s.spi u).afterBuffer w b) := by
      rw [sent]
      conv_rhs => rw [emitData_frame]
      rfl
    have wires : ((s.spi u).afterBuffer w b).bufferWire w = (s.spi u).bufferWire w :=
      funext (Spi.bufferWire_congr (Spi.afterBuffer_mr w _ b) (Spi.afterBuffer_csr w _ b) w)
    have link : (bufs.foldl (fun r b => emitData (.spi u) ((s.spi u).bufferWire w b) r) (spiSendBuffer u w b s)).link (.spi u)
        = (bufs.foldl (fun r b => emitData (.spi u) ((s.spi u).bufferWire w b) r)
          (emitData (.spi u) ((s.spi u).bufferWire w b) s)).link (.spi u) := by
      rw [moved, foldl_emitData_setSpi, State.setSpi_link]
    rw [List.foldl_cons, later, target, wires, link, List.foldl_cons, List.foldl_cons, sent]
    exact setSpi_setLink_over ..

/-- Two waits taken together (R381). -/
theorem awaitMore_awaitMore (a : Option Nat) (c d : Nat) : awaitMore (awaitMore a c) d = awaitMore a (c + d) := by
  cases a <;> simp only [awaitMore, Option.some.injEq] <;> omega

theorem awaitMore_eq (a : Option Nat) (c : Nat) : awaitMore a c = some (c + a.getD 0) := by
  cases a <;> simp [awaitMore]

/-- The SPI after the buffers of a transfer of `m` units (R380, R381). -/
theorem foldl_afterBuffer_sent {h : PdcHost} {m n : Nat} {k : Fin 4} {g : List Byte} (pos : 0 < w) (some_units : m ≠ 0)
    (current : (s.pdc h).txCurrent.tcr ≠ 0#16) (ok : ∀ b ∈ s.sentBuffers h w m, x.bufferOk w b)
    (last : g = (s.sentBuffers h w m).flatten.drop ((m - 1) * w))
    (selected : x.select (x.groupOperands g).1 = some (n, k)) : (s.sentBuffers h w m).foldl (Spi.afterBuffer w) x = { x with
      lastPcs := (x.groupOperands g).1, lastBits := x.bits k, awaiting := awaitMore x.awaiting m } := by
  have positive := count_pos_iff.1 current
  simp only [State.sentBuffers] at ok last ⊢
  generalize (s.pdc h).txCurrent = q at *
  have length (p : Word) (c : Nat) : (s.loadBytes p c).length = c := by simp [State.loadBytes_eq_map]
  by_cases single : m ≤ q.tcr.toNat
  case pos =>
    rw [if_pos single] at ok last ⊢
    rw [List.flatten_singleton] at last
    rw [List.foldl_cons, List.foldl_nil]
    subst last
    exact Spi.afterBuffer_eq pos some_units (length _ _) (ok _ (List.mem_singleton.2 rfl)) selected
  case neg =>
    rw [if_neg single] at ok last ⊢
    have second : g = (s.loadBytes q.tnpr ((m - q.tcr.toNat) * w)).drop ((m - q.tcr.toNat - 1) * w) := by
      have reach : (m - 1) * w = q.tcr.toNat * w + (m - q.tcr.toNat - 1) * w := by
        rw [← Nat.add_mul]; congr 1; omega
      rw [last, List.flatten_cons, List.flatten_singleton, reach, ← List.drop_drop]
      congr 1
      exact List.drop_left' (length _ _)
    have ok1 := ok _ (List.mem_cons_self ..)
    have ok2 := ok _ (List.mem_cons_of_mem _ (List.mem_singleton.2 rfl))
    generalize first_bytes : s.loadBytes q.tpr (q.tcr.toNat * w) = b1 at *
    have length1 : b1.length = q.tcr.toNat * w := by rw [← first_bytes, length]
    obtain ⟨n1, k1, selected1⟩ := Spi.groupOk_iff.1 (ok1 (b1.drop ((q.tcr.toNat - 1) * w)) (by
      rw [groupsOf_eq pos q.tcr.toNat _ _ length1 (by rw [length1]; exact Nat.le_mul_of_pos_right _ pos)]
      refine List.mem_map.2 ⟨q.tcr.toNat - 1, List.mem_range.2 (by omega), List.take_of_length_le ?_⟩
      rw [List.length_drop, length1, ← Nat.sub_mul]
      exact (Nat.mul_le_mul_right w (by omega : q.tcr.toNat - (q.tcr.toNat - 1) ≤ 1)).trans (Nat.one_mul w).le))
    have one := Spi.afterBuffer_eq pos (by omega) length1 ok1 selected1
    have mr := Spi.afterBuffer_mr w x b1
    have csr := Spi.afterBuffer_csr w x b1
    rw [List.foldl_cons, List.foldl_cons, List.foldl_nil]
    have two := Spi.afterBuffer_eq (x := x.afterBuffer w b1) pos (c := m - q.tcr.toNat) (by omega)
      (length q.tnpr ((m - q.tcr.toNat) * w)) ((Spi.bufferOk_congr mr w _).2 ok2)
      (by rw [← second, Spi.groupOperands_congr mr, Spi.select_congr mr]; exact selected)
    rw [two, ← second, Spi.groupOperands_congr mr, Spi.bits, csr, one]
    simp only [awaitMore_awaitMore, Spi.bits, Nat.add_sub_cancel' (Nat.le_of_not_le single)]

/-- The first group without a chip select aborts the transfer (R380, R387). -/
theorem spiPrepareAll_abort (gs : List (List Byte)) (g : List Byte) (rest : List (List Byte)) (qs : List SpiUnit)
    (ok : ∀ g' ∈ gs, (s.spi u).groupOk g') (bad : (s.spi u).select ((s.spi u).groupOperands g).1 = none) :
    (spiPrepareAll u (gs ++ g :: rest) qs s).2.fault = some (.spiPcs u ((s.spi u).groupOperands g).1) := by
  induction gs generalizing qs s with
  | nil =>
    rw [List.nil_append, spiPrepareAll, spiPrepare_none _ bad]
    rfl
  | cons g' gs ih =>
    obtain ⟨n, k, selected⟩ := Spi.groupOk_iff.1 (ok g' (List.mem_cons_self ..))
    have later := Spi.afterGroup_some selected
    have mr := Spi.afterGroup_mr (s.spi u) g'
    rw [List.cons_append, spiPrepareAll, spiPrepare_some _ selected]
    dsimp only
    rw [← later]
    have aborts := ih (s := s.setSpi u ((s.spi u).afterGroup g'))
      (qs ++ [(s.spi u).unitOf n k ((s.spi u).groupOperands g').2])
      (fun g2 member => by
        rw [State.setSpi_spi_same, Spi.groupOk_congr mr]; exact ok g2 (List.mem_cons_of_mem _ member))
      (by rw [State.setSpi_spi_same, Spi.groupOperands_congr mr, Spi.select_congr mr]; exact bad)
    rw [State.setSpi_spi_same, Spi.groupOperands_congr mr] at aborts
    exact aborts

/-- The buffer with such a group (R387). -/
theorem spiSendBuffer_abort {bs g : List Byte} {i : Nat} (group : (groupsOf w bs.length bs)[i]? = some g)
    (bad : (s.spi u).select ((s.spi u).groupOperands g).1 = none)
    (before : ∀ j g', j < i → (groupsOf w bs.length bs)[j]? = some g' → (s.spi u).groupOk g') :
    (spiSendBuffer u w bs s).fault = some (.spiPcs u ((s.spi u).groupOperands g).1) := by
  obtain ⟨within, item⟩ := List.getElem?_eq_some_iff.1 group
  have split : groupsOf w bs.length bs
      = (groupsOf w bs.length bs).take i ++ g :: (groupsOf w bs.length bs).drop (i + 1) := by
    rw [← item, ← List.drop_eq_getElem_cons within, List.take_append_drop]
  have aborts := spiPrepareAll_abort (s := s) (u := u) ((groupsOf w bs.length bs).take i) g
    ((groupsOf w bs.length bs).drop (i + 1)) [] (fun g' member => by
      obtain ⟨j, jlt, rfl⟩ := List.getElem_of_mem member
      rw [List.length_take] at jlt
      refine before j _ (by omega) ?_
      rw [List.getElem_take]
      exact List.getElem?_eq_getElem _) bad
  rw [← split] at aborts
  rw [spiSendBuffer, State.andThen_aborted _ (by rw [aborts]; rfl), aborts]

/-- What a transmission of the DMA leaves (R269, R272). -/
theorem spi_sent {t : State} {p : Pdc} {y : Spi} {k : Iox}
    (sent : t = pdcUpdateIrq (.spi u) (((s.setSpi u y).setLink (.spi u) k).setPdc (.spi u) p)) :
    t.fault = s.fault ∧ t.pdc (.spi u) = p ∧ t.spi u = y ∧ t.link (.spi u) = k
      ∧ t = (((s.setPdc (.spi u) p).setSpi u y).setLink (.spi u) k).setAic t.aic ∧ irqFollows (.spi u) s t := by
  subst sent
  refine ⟨by simp, by simp, by simp, by simp, ?_, ?_⟩
  · rw [show pdcUpdateIrq (.spi u) = spiUpdateIrq u from rfl, spiUpdateIrq_frame]; rfl
  · exact irqFollows_of_onlyLine (h := .spi u) (s := s) (Aic.onlyLine_refl _ _)

end

end Sys2Proof.Machine

namespace Sys2Proof

open Machine

/-- Settles O37: what is sent and awaited, then the echo by whether it is complete, then the aborts. -/
theorem spiClientTransfer : Obligations.SpiClientTransfer := by
  refine ⟨fun s u => ?words, fun s u => ?buffers⟩
  case words =>
    intro x
    refine ⟨?tdr, ?out, ?outEmpty, ?outAlone, ?dropped, ?waits, ?echo, ?echoWords⟩
    case tdr =>
      intro v n k ready client on master pcs selected bits d
      have live := State.ready_fault ready
      have written : spiWriteTdr u v s = (s.setSpi u { x with lastPcs := pcs, lastBits := bits, awaiting := some 1 }).setLink
          (.spi u) ((emitData (.spi u) ((x.unitOf n k (v.extractLsb 15 0)).wire) s).link (.spi u)) := by
        rw [spiWriteTdr_some on master selected, spiTransfer_client (by simpa using client), spiSend_eq, emitData_setSpi]
        simp only [List.flatMap_cons, List.flatMap_nil, List.append_nil, State.setSpi_spi_same, State.setSpi_setSpi,
          State.setSpi_link, awaiting_of_ready ready u, awaitMore, List.length_singleton]
        rfl
      have wire : (x.unitOf n k (v.extractLsb 15 0)).wire
          = [d.setWidth 8, (d >>> 8).setWidth 8, BitVec.ofNat 8 (bits - 8), BitVec.ofNat 8 n] := Spi.unitOf_wire ..
      rw [wire] at written
      refine ⟨_, (exec_of_ready ready (exec_spiTdrW u v s)).trans (congrArg _ written), ?_, ?_, ?_, ?_⟩
      · rw [State.setLink_spi, State.setSpi_spi_same]
      · rw [State.setLink_link_same]
      · rw [State.setLink_spi, State.setSpi_spi_same, State.setLink_link_same]
      · exact held_of_awaiting (u := u) (n := 1) (by rw [State.setLink_spi, State.setSpi_spi_same])
    case out =>
      intro bs live client whole nonempty
      have some_units : bs.length / 4 ≠ 0 := by
        have positive := List.length_pos_of_ne_nil nonempty
        omega
      rw [exec_of_live live (exec_spiDataOut u bs s), spiDataOutFrame, if_pos (by simpa [State.clientConnected] using client),
        if_neg some_units, spiSend_eq]
      cases x.awaiting <;> rfl
    case outEmpty =>
      intro live client
      rw [exec_of_live live (exec_spiDataOut u [] s), spiDataOutFrame,
        if_pos (by simpa [State.clientConnected] using client)]
      rfl
    case outAlone =>
      intro bs live alone
      rw [exec_of_live live (exec_spiDataOut u bs s), spiDataOutFrame, if_neg (by simp [State.clientConnected, alone])]
    case dropped =>
      intro seq bs live idle
      rw [exec_of_live live (exec_spiDataIn u seq bs s), spiDataInFrame, spiEcho_none bs idle, State.andThen_live _ live]
    case waits =>
      intro seq bs n live awaits short
      rw [exec_of_live live (exec_spiDataIn u seq bs s), spiDataInFrame, spiEcho_short awaits short,
        State.andThen_live _ (by simpa using live)]
    case echo =>
      intro seq bs n live awaits some_units complete
      refine ⟨_, echoWords_length s.params.spiInUnitBytes n (x.echoAcc ++ bs), fun i within => echoWords_getElem? _ within, ?_⟩
      rw [exec_of_live live (exec_spiDataIn u seq bs s), spiDataInFrame, spiEcho_complete awaits some_units complete,
        State.andThen_eq_ite]
      rfl
    case echoWords =>
      intro seq bs n live awaits some_units unit complete
      have delivered := spiEcho_complete awaits some_units (by rw [unit, Nat.mul_comm]; exact complete)
      have length := echoWords_length s.params.spiInUnitBytes n (x.echoAcc ++ bs)
      have words := fun (i : Nat) (within : i < n) =>
        echoWords_getElem? (unitBytes := s.params.spiInUnitBytes) (x.echoAcc ++ bs) within
      rw [show (s.spi u).echoAcc = x.echoAcc from rfl] at delivered
      generalize echoWords s.params.spiInUnitBytes n (x.echoAcc ++ bs) = ws at *
      cases ws with
      | nil => simp only [List.length_nil] at length; omega
      | cons d ds =>
        refine ⟨d, ds, length, fun i within => ?_, ?_, fun unarmed free empty => ?_⟩
        · have bound : i * 4 + 4 ≤ (x.echoAcc ++ bs).length := by omega
          refine ⟨(x.echoAcc ++ bs)[i * 4], (x.echoAcc ++ bs)[i * 4 + 1], ?_, ?_, ?_⟩
          · rw [Nat.mul_comm]; exact List.getElem?_eq_getElem _
          · rw [Nat.mul_comm]; exact List.getElem?_eq_getElem _
          · rw [words i within, unit, take_four_drop bound, leWord_low]
        · rw [exec_of_live live (exec_spiDataIn u seq bs s), spiDataInFrame, delivered, State.andThen_eq_ite]
          rfl
        · rw [exec_of_live live (exec_spiDataIn u seq bs s), spiDataInFrame, delivered,
            spiRxPump_hold (by simpa using live) (by simpa using unarmed), State.andThen_live _ (by simpa using live)]
          simp [Spi.hold, free, empty, x]
  case buffers =>
    intro h x p m pcsOf wire
    refine ⟨fun off => ?off, fun on slave flag => ?slave, fun on slave flag => ?ignored,
      fun on master fixed none_low => ?unselected, fun w live on master armed count variably fixed => ?started⟩
    case off =>
      show spiTxStart u s = s
      simp [spiTxStart, show (s.spi u).enabled = false from off]
    case slave =>
      show (spiTxStart u s).fault = _
      simp [spiTxStart, show (s.spi u).enabled = true from on, Spi.master, show bit (s.spi u).mr 0 = false from slave, flag,
        State.raise]
    case ignored =>
      show spiTxStart u s = s
      simp [spiTxStart, show (s.spi u).enabled = true from on, Spi.master, show bit (s.spi u).mr 0 = false from slave, flag]
    case unselected =>
      have width : (s.spi u).txUnitBytes = none := by
        rw [Spi.txUnitBytes, if_neg (by simpa [Spi.variablePs] using fixed)]
        exact congrArg _ none_low
      show (spiTxStart u s).fault = _
      simp only [spiTxStart, show (s.spi u).enabled = true from on, Spi.master, show bit (s.spi u).mr 0 = true from master,
        width, Bool.not_true, Bool.false_eq_true, if_false]
      rfl
    case started =>
      have width : x.txUnitBytes = some w := by
        cases ps : bit x.mr 1 with
        | true => rw [Spi.txUnitBytes, if_pos (show x.variablePs = true from ps), variably ps]
        | false =>
          obtain ⟨n, k, selected, hw⟩ := fixed ps
          rw [Spi.txUnitBytes_fixed ps selected, hw]
          simp only [Spi.bits, Nat.add_eq_left]
      have pos : 0 < w := by
        cases ps : bit x.mr 1 with
        | true => rw [variably ps]; decide
        | false =>
          obtain ⟨n, k, -, hw⟩ := fixed ps
          rw [hw]; split <;> decide
      have start : pdcTxStart h s = (pdcTx h w (spiSendBuffer u w) none s).2 := spiTxStart_master on master width
      rw [start]
      refine ⟨fun bad => ?notReadable, ?sent, ?unselectedGroup⟩
      case notReadable => exact pdcTx_of_not_readable count (by simp) bad
      case sent =>
        intro readable client bufs ok t
        have inv : spiSends u x s := ⟨live, client, rfl⟩
        have sendable : ∀ b, b ∈ bufs → x.bufferOk w b := fun b member g group => ok b g member group
        have sent : t = pdcUpdateIrq h ((bufs.foldl (fun r b => spiSendBuffer u w b r) s).setPdc h (p.afterSend w m)) :=
          congrArg Prod.snd (pdcTx_of_sendBuffersOk (quietSend_spi (x := x)) inv live count (limit := none)
            (by simp) readable sendable)
        have folded := foldl_spiSendBuffer bufs inv sendable
        have wires : x.bufferWire w = fun b => (groupsOf w b.length b).flatMap wire := by
          have unit (g : List Byte) : ((x.groupUnit g).map SpiUnit.wire).getD [] = wire g := by
            have operands : (x.groupOperands g).1 = pcsOf g := rfl
            simp only [wire, Spi.groupUnit, operands]
            cases x.select (pcsOf g) with
            | none => rfl
            | some r => exact Spi.unitOf_wire x r.1 r.2 _
          funext b
          rw [Spi.bufferWire_eq, funext unit]
        rw [folded] at sent
        obtain ⟨fault, pdc, spi, link, frame, follows⟩ := spi_sent (t := t) sent
        rw [show (s.spi u).bufferWire w = _ from wires] at link frame
        refine ⟨fault.trans live, pdc, link, fun g n k last selected => ?_, ?_, follows⟩
        · rw [spi, foldl_afterBuffer_sent pos count (txRollOver_of_count count).2 sendable last selected, awaitMore_eq]
          rfl
        · rw [pdc, spi, link]; exact frame
      case unselectedGroup =>
        intro readable single i g group none_low before
        obtain ⟨rolled, left⟩ := txRollOver_of_count count
        have all : m = p.txCurrent.tcr.toNat := by
          have total := txCount_eq p
          rw [single] at total
          simpa using total
        have length : (s.loadBytes p.txCurrent.tpr (m * w)).length = m * w := by simp [State.loadBytes_eq_map]
        have ok1 : s.readableBuffer p.txCurrent.tpr (m * w) = true := by
          simp only [State.sendBuffersOk, Bool.and_eq_true] at readable
          have first := readable.1
          rwa [← all, Nat.min_self] at first
        have aborts := spiSendBuffer_abort (s := s.setPdc h (p.txCurrent.txAdvance m w)) (u := u) (w := w)
          (bs := s.loadBytes p.txCurrent.tpr (m * w)) (i := i) (g := g) (by rw [length]; exact group) none_low
          (by rw [length]; exact fun j g' jlt item => before j g' jlt item)
        refine pdcTx_fault ?_
        rw [pdcTxRounds_send 2 0 (by simp) (by rw [rolled]; exact left)
          (by rw [rolled]; simp only [withinLimit]; rw [← all]; exact ok1), rolled]
        simp only [withinLimit, ← all]
        rw [if_pos (by rw [aborts]; rfl)]
        exact aborts

end Sys2Proof
end

section
/-! The TWI: its registers, its receive pump, its control register and its transmissions (R430 to R453). -/

namespace Sys2Proof.Machine

/-- A field that a layout mask keeps (R164). -/
theorem field_and_mask (v : Word) {mask : Word} {hi lo : Nat} (kept : mask.extractLsb hi lo = BitVec.allOnes _) :
    field (v &&& mask) hi lo = field v hi lo := by
  have cut : (v &&& mask).extractLsb hi lo = v.extractLsb hi lo &&& mask.extractLsb hi lo := by
    apply BitVec.eq_of_getLsbD_eq
    intro i hi
    simp [hi]
  rw [field, cut, kept, BitVec.and_allOnes, field]

/-! ### The receive pump -/

/-- The register half of the pump on a channel whose DMA is idle (R446). -/
def Twi.hold (x : Twi) : Twi :=
  match x.rxq with
  | [] => x
  | c :: cs => if x.rxrdy then x else { x with rhr := c, rxrdy := true, rxq := cs }

/-- The bytes the DMA took leave the queue (R446). -/
def Twi.dropRx (n : Nat) (x : Twi) : Twi := { x with rxq := x.rxq.drop n }

/-- The state of the TWI after a pump with bytes left over, or none (R446). -/
theorem Twi.hold_dropRx (x : Twi) (n : Nat) : (x.dropRx n).hold = match x.rxq.drop n with
    | [] => { x with rxq := [] }
    | c :: cs => if x.rxrdy then { x with rxq := c :: cs } else { x with rhr := c, rxrdy := true, rxq := cs } := by
  unfold Twi.hold Twi.dropRx
  cases x.rxq.drop n <;> rfl

section

variable {s : State}

theorem twiPumpHold_eq (s : State) : twiPumpHold s =
    s.setTwi (if (s.pdc .twi).rxActive then s.twi else s.twi.hold) := by
  unfold twiPumpHold Twi.hold
  dsimp only
  cases active : (s.pdc .twi).rxActive with
  | true => simp
  | false => cases held : s.twi.rxrdy <;> cases queue : s.twi.rxq <;> simp

/-- A pump with nothing for the DMA (R446). -/
theorem twiRxPump_idle (live : s.fault = none) (idle : s.twi.rxq = [] ∨ (s.pdc .twi).rxActive = false) :
    twiRxPump s = twiUpdateIrq (twiPumpHold s) := by
  have skipped : twiPumpDma s = s := by
    rcases idle with empty | unarmed <;> simp [twiPumpDma, *]
  rw [twiRxPump, skipped, State.andThen_live _ live]

/-- A pump that no DMA serves leaves the TWI and the AIC only (R446). -/
theorem twiRxPump_hold (live : s.fault = none) (unarmed : (s.pdc .twi).rxActive = false) :
    twiRxPump s = twiUpdateIrq (s.setTwi s.twi.hold) := by
  rw [twiRxPump_idle live (.inr unarmed), twiPumpHold_eq, unarmed]
  rfl

theorem twiRxPump_nothing (live : s.fault = none) (empty : s.twi.rxq = []) : twiRxPump s = twiUpdateIrq s := by
  have same : twiPumpHold s = s := by
    rw [twiPumpHold_eq]
    simp [Twi.hold, empty]
  rw [twiRxPump_idle live (.inl empty), same]

/-- A pump whose bytes go to memory (R270, R446). -/
theorem twiRxPump_dma (live : s.fault = none) (queue : s.twi.rxq ≠ []) (armed : (s.pdc .twi).rxten = true)
    (room : (s.pdc .twi).rxRoom ≠ 0) {n : Nat} (hn : n = min s.twi.rxq.length (s.pdc .twi).rxRoom)
    (ok : s.receiveBuffersOk .twi 1 n = true) :
    twiRxPump s = twiUpdateIrq ((pdcUpdateIrq .twi
      ((s.storeReceived .twi ((s.twi.rxq.take n).map fun b => [b])).setPdc .twi
        ((s.pdc .twi).afterReceive 1 n))).setTwi (s.twi.dropRx n).hold) := by
  have active := (rxActive_iff (s.pdc .twi)).2 ⟨armed, room⟩
  have stored := pdcRx_of_receiveBuffersOk (unit := 1) (us := s.twi.rxq.map fun b => [b]) live (by simp) room
    (by simpa [hn] using ok)
  rw [List.length_map, ← List.map_take, ← hn] at stored
  have dma : twiPumpDma s = (pdcUpdateIrq .twi
      ((s.storeReceived .twi ((s.twi.rxq.take n).map fun b => [b])).setPdc .twi
        ((s.pdc .twi).afterReceive 1 n))).setTwi (s.twi.dropRx n) := by
    simp [twiPumpDma, queue, active, stored, State.andThen, live, Twi.dropRx]
  have held : (if ((s.pdc .twi).afterReceive 1 n).rxActive then s.twi.dropRx n else (s.twi.dropRx n).hold)
      = (s.twi.dropRx n).hold := by
    by_cases all : n = (s.pdc .twi).rxRoom
    · simp [afterReceive_not_rxActive _ all]
    · have used : s.twi.rxq.drop n = [] := List.drop_eq_nil_of_le (by omega)
      simp [Twi.hold, Twi.dropRx, used]
  rw [twiRxPump, dma, State.andThen_live _ (by simp [live]), twiPumpHold_eq, ← held]
  simp

/-- A pump whose buffers may not be written aborts (R273). -/
theorem twiRxPump_abort (live : s.fault = none) (queue : s.twi.rxq ≠ []) (armed : (s.pdc .twi).rxten = true)
    (room : (s.pdc .twi).rxRoom ≠ 0)
    (bad : s.receiveBuffersOk .twi 1 (min s.twi.rxq.length (s.pdc .twi).rxRoom) = false) :
    ∃ a e, (twiRxPump s).fault = some (.dma .twi a e) := by
  have active := (rxActive_iff (s.pdc .twi)).2 ⟨armed, room⟩
  obtain ⟨e, aborts⟩ := pdcRx_of_not_receiveBuffersOk (unit := 1) (us := s.twi.rxq.map fun b => [b]) live (by simp)
    room rfl (by simpa using bad)
  have dma : twiPumpDma s = (pdcRx .twi 1 (s.twi.rxq.map fun b => [b]) s).2 := by
    simp only [twiPumpDma, active, Bool.and_true, Bool.not_eq_true', List.isEmpty_eq_false_iff, ne_eq, queue,
      not_false_eq_true, if_true]
    exact State.andThen_aborted _ (by rw [aborts]; rfl)
  rw [twiRxPump, dma, State.andThen_aborted _ (by rw [aborts]; rfl), aborts]
  exact ⟨_, _, rfl⟩

/-- A state that differs from another in the TWI, its channel, memory and the AIC only. -/
theorem twiUpdateIrq_received {m : List Host.Cell} {y : Twi} {p : Pdc} {t : State}
    (pumped : t = twiUpdateIrq ((pdcUpdateIrq .twi ((s.setMem m).setPdc .twi p)).setTwi y)) :
    t.mem = m ∧ t.pdc .twi = p ∧ t.twi = y
      ∧ t = (((s.setMem m).setPdc .twi p).setTwi y).setAic t.aic ∧ irqFollows .twi s t := by
  subst pumped
  have hostIrq : pdcUpdateIrq .twi ((s.setMem m).setPdc .twi p)
      = ((s.setMem m).setPdc .twi p).setAic (twiUpdateIrq ((s.setMem m).setPdc .twi p)).aic :=
    twiUpdateIrq_frame _
  refine ⟨by simp, by simp, by simp, ?_, ?_⟩
  · rw [hostIrq, twiUpdateIrq_frame]; rfl
  · exact irqFollows_of_onlyLine (h := .twi) (s := s) (pdcUpdateIrq_onlyLine .twi ((s.setMem m).setPdc .twi p))

/-- What a start of the receive DMA leaves of the TWI with bytes waiting (R270, R446). -/
theorem twiRxPump_received (live : s.fault = none) (queue : s.twi.rxq ≠ []) (armed : (s.pdc .twi).rxten = true)
    (room : (s.pdc .twi).rxRoom ≠ 0) {n : Nat} (hn : n = min s.twi.rxq.length (s.pdc .twi).rxRoom)
    (ok : s.receiveBuffersOk .twi 1 n = true) :
    let t := twiRxPump s
    t.fault = none
    ∧ t.mem = (s.storeReceived .twi ((s.twi.rxq.take n).map fun b => [b])).mem
    ∧ t.pdc .twi = (s.pdc .twi).afterReceive 1 n
    ∧ t.twi = (s.twi.dropRx n).hold
    ∧ t = (((s.setMem t.mem).setPdc .twi (t.pdc .twi)).setTwi t.twi).setAic t.aic
    ∧ irqFollows .twi s t := by
  have pumped := twiRxPump_dma live queue armed room hn ok
  rw [State.storeReceived_eq] at pumped
  obtain ⟨mem, pdc, twi, frame, follows⟩ := twiUpdateIrq_received pumped
  generalize twiRxPump s = t at *
  refine ⟨?live, ?mem, pdc, twi, ?frame, follows⟩
  case live => rw [frame]; simpa using live
  case mem => rw [mem, State.storeReceived_eq]
  case frame => rw [mem, pdc, twi]; exact frame

end

end Sys2Proof.Machine

namespace Sys2Proof

open Machine

/-- Settles O38: each row runs its operation; the status word bit by bit. -/
theorem twiRegisters : Obligations.TwiRegisters := by
  intro s v ready x p
  refine ⟨?mmr, ?mmrW, ?smr, ?smrW, ?iadr, ?iadrW, ?cwgr, ?cwgrW, ?sr, ?ier, ?idr, ?imr⟩
  case mmr => exact exec_readPlain_of_ready ready (exec_twiMmrR s)
  case mmrW => exact exec_of_ready ready (exec_twiMmrW v s)
  case smr => exact exec_readPlain_of_ready ready (exec_twiSmrR s)
  case smrW => exact exec_of_ready ready (exec_twiSmrW v s)
  case iadr => exact exec_readPlain_of_ready ready (exec_twiIadrR s)
  case iadrW => exact exec_of_ready ready (exec_twiIadrW v s)
  case cwgr => exact exec_readPlain_of_ready ready (exec_twiCwgrR s)
  case cwgrW =>
    rw [exec_of_ready ready (exec_twiCwgrW v s), twiWriteCwgr, twiUpdateClock, State.setTwi_twi, twiClock,
      field_and_mask v (by decide), field_and_mask v (by decide), field_and_mask v (by decide), State.setTwi_setTwi]
    rfl
  case sr =>
    refine ⟨s.twiSr, exec_of_ready ready (exec_twiSrR s), ?_⟩
    simp [State.twiSr, bit_or, bit_bitAt, or_and, bitAt_and, x, p]
  case ier => exact exec_of_ready ready (exec_twiIerW v s)
  case idr => exact exec_of_ready ready (exec_twiIdrW v s)
  case imr => exact exec_readPlain_of_ready ready (exec_twiImrR s)

/-- Settles O41: a frame by what the pump finds, then the fault frames. -/
theorem twiReceive : Obligations.TwiReceive := by
  intro s x
  have frame (seq : Byte) (bs : List Byte) (live : s.fault = none) : exec (.twiDataIn seq bs) s = .next ((twiRxPump
      (s.setTwi { x with ovre := x.ovre || x.rxrdy, rxq := x.rxq ++ bs })).andThen (reply .twi seq 0#32)) :=
    exec_of_live live (exec_twiDataIn seq bs s)
  have read (ready : s.ready = true) : exec .twiRhrR s = .next ((twiRxPump
      (s.setTwi { x with rxrdy := false })).andThen fun t => t.setRdata (x.rhr.setWidth 32)) :=
    exec_of_ready ready (exec_twiRhrR s)
  have answered {t : State} (live : t.fault = none) (f : State → State) : (twiUpdateIrq t).andThen f
      = f (twiUpdateIrq t) := State.andThen_live _ (by simp [live])
  refine ⟨?on, ?overrun, ?taken, ?empty, ?read, ?nothing, ?next, ?dma, ?faults⟩
  case on => intro seq bs live t; rw [frame seq bs live, State.andThen_eq_ite]; rfl
  case overrun =>
    intro seq bs live unarmed full
    rw [frame seq bs live, twiRxPump_hold (by simpa using live) (by simpa using unarmed), answered (by simpa using live)]
    cases queue : x.rxq ++ bs <;> simp [Twi.hold, full]
  case taken =>
    intro seq bs c cs live unarmed free queue
    rw [frame seq bs live, twiRxPump_hold (by simpa using live) (by simpa using unarmed), answered (by simpa using live)]
    simp [Twi.hold, free, queue]
  case empty =>
    intro seq live free queue
    have same : { x with ovre := x.ovre || x.rxrdy, rxq := x.rxq ++ ([] : List Byte) } = x := by
      rw [free, queue, Bool.or_false, List.append_nil, ← free, ← queue]
    rw [frame seq [] live, same, State.setTwi_self, twiRxPump_nothing live queue, answered live]
  case read => intro ready t; rw [read ready, State.andThen_eq_ite]; rfl
  case nothing =>
    intro ready empty
    have live := State.ready_fault ready
    rw [read ready, twiRxPump_nothing (by simpa using live) (by simpa using empty), answered (by simpa using live)]
  case next =>
    intro c cs ready unarmed queue
    have live := State.ready_fault ready
    rw [read ready, twiRxPump_hold (by simpa using live) (by simpa using unarmed), answered (by simpa using live)]
    simp [Twi.hold, queue]
  case dma =>
    intro live queue armed room p n t
    refine ⟨fun ok => ?_, fun bad => twiRxPump_abort live queue armed room bad⟩
    obtain ⟨live1, mem, pdc, twi, same, follows⟩ := twiRxPump_received live queue armed room rfl ok
    exact ⟨live1, mem, pdc, twi.trans (Twi.hold_dropRx x n), same, follows⟩
  case faults =>
    intro seq bs live
    exact ⟨exec_of_live live (exec_twiFaultOvre seq bs s), exec_of_live live (exec_twiFaultNack seq bs s),
      exec_of_live live (exec_twiFaultArblst seq bs s)⟩

end Sys2Proof
end

section
/-! The TWI's control register and its transmissions (R431, R432, R440 to R442, R450). O39 and O40. -/

namespace Sys2Proof.Machine

/-! ### The control register -/

section

variable {s : State} {v : Word}

/-- The state after the software reset, the PDC's flags left alone (R451). -/
theorem twiReset_eq (s : State) : twiReset s = s.setTwi { Twi.reset with clockHz := s.pmc.mclkHz / 8 } := by
  have clock : twiClock s.pmc.mclkHz 0 = s.pmc.mclkHz / 8 := rfl
  simp only [twiReset, twiUpdateClock, State.setTwi_twi, State.setTwi_setTwi, ← clock]
  rfl

/-- The mode after the enables (R432): the disable bit wins, and only a master goes offline. -/
theorem Twi.modeControl_eq (v : Word) (x : Twi) : x.modeControl v = { x with
    mode := if bit v 3 then (if x.mode = .master then .offline else x.mode)
      else if bit v 2 then .master else x.mode } := by
  cases off : bit v 3 with
  | false => cases on : bit v 2 <;> simp [Twi.modeControl, off, on]
  | true => by_cases master : x.mode = .master <;> simp [Twi.modeControl, off, master]

/-- A request for slave mode that has no effect (R432, R773). -/
theorem twiSlaveRequest_of_ignored
    (ignored : bit v 4 = false ∨ s.params.abortTwiSlave = false ∧ ¬(s.twi.mode = .master ∧ s.twi.txcomp = false)) :
    twiSlaveRequest v s = s := by
  rcases ignored with off | ⟨flag, idle⟩
  · simp [twiSlaveRequest, off]
  · rw [twiSlaveRequest, if_neg idle, flag]
    simp

theorem twiOpenRead_eq (v : Word) (s : State) : twiOpenRead v s =
    if bit v 0 = true ∧ s.twi.mode = .master ∧ bit s.twi.mmr 12 = true ∧ s.twi.started = false then
      (twiEmitStart s).setTwi { s.twi with started := true, txcomp := false }
    else s := by
  have twi : (twiEmitStart s).twi = s.twi := by simp [twiEmitStart]
  simp only [twiOpenRead, twi, Twi.readMode, Bool.and_eq_true, decide_eq_true_eq, Bool.not_eq_true', and_assoc]

theorem twiCloseRead_eq (v : Word) (s : State) : twiCloseRead v s =
    if bit v 1 = true ∧ s.twi.started = true then
      (twiEmitStop s).setTwi { s.twi with started := false, txcomp := true }
    else s := by
  have twi : (twiEmitStop s).twi = s.twi := by simp [twiEmitStop]
  simp only [twiCloseRead, twi, Bool.and_eq_true]

end

end Sys2Proof.Machine

namespace Sys2Proof

open Machine

/-- Settles O39: the actions of `CR` in their order, then the armed start. -/
theorem twiControl : Obligations.TwiControl := by
  intro s v ready a mode b s1 s2 s3
  have live := State.ready_fault ready
  have reset : (if bit v 7 then twiReset s else s) = s.setTwi a := by
    cases soft : bit v 7 <;> simp [a, soft, twiReset_eq]
    rfl
  have row : exec (.twiCrW v) s = .next ((twiSlaveRequest v (s.setTwi a)).andThen fun t =>
      (twiStartArmed (twiCloseRead v (twiOpenRead v (t.setTwi (t.twi.modeControl v))))).andThen twiUpdateIrq) := by
    rw [← reset]
    exact exec_of_ready ready (exec_twiCrW v s)
  have live3 : s3.fault = none := by
    have live2 : s2.fault = none := by
      simp only [s2]
      split <;> simp [twiEmitStart, s1, live]
    simp only [s3]
    split <;> simp [twiEmitStop, live2]
  have kept : s3.twi.mode = b.mode ∧ s3.pdc .twi = s.pdc .twi := by
    have kept2 : s2.twi.mode = b.mode ∧ s2.pdc .twi = s.pdc .twi := by
      simp only [s2]
      split <;> simp [twiEmitStart, s1]
    simp only [s3]
    split <;> simp [twiEmitStop, kept2]
  have served (ignored : bit v 4 = false ∨ s.params.abortTwiSlave = false ∧ ¬(a.mode = .master ∧ a.txcomp = false)) :
      exec (.twiCrW v) s = .next ((twiStartArmed s3).andThen twiUpdateIrq) := by
    have request : twiSlaveRequest v (s.setTwi a) = s.setTwi a :=
      twiSlaveRequest_of_ignored (by simpa using ignored)
    have moved : twiCloseRead v (twiOpenRead v ((s.setTwi a).setTwi (a.modeControl v))) = s3 := by
      rw [State.setTwi_setTwi, Twi.modeControl_eq, twiOpenRead_eq, twiCloseRead_eq]
      simp only [s3, s2, s1, State.setTwi_twi]
      rfl
    rw [row, request, State.andThen_live _ (by simpa using live), State.setTwi_twi, moved]
  refine ⟨?idle, ?started, ?mode, ?slave⟩
  case idle =>
    intro ignored unarmed
    have quiet : twiStartArmed s3 = s3 := by
      rw [twiStartArmed, kept.1, kept.2]
      by_cases master : b.mode = .master
      · simp [unarmed master]
      · simp [master]
    rw [served ignored, quiet, State.andThen_live _ live3]
  case started =>
    intro ignored t
    have start : twiStartArmed s3 = t := by
      rw [twiStartArmed, kept.1, kept.2]
      simp only [t, Bool.and_eq_true, decide_eq_true_eq]
      rfl
    rw [served ignored, start, State.andThen_eq_ite]
  case mode =>
    intro asked master busy
    refine ⟨_, row, ?_⟩
    have request : twiSlaveRequest v (s.setTwi a) = (s.setTwi a).raise (.twiMode v) := by
      simp [twiSlaveRequest, asked, master, busy]
    rw [request, State.andThen_aborted _ rfl]
    rfl
  case slave =>
    intro asked idle flag
    refine ⟨_, row, ?_⟩
    have request : twiSlaveRequest v (s.setTwi a) = (s.setTwi a).raise (.twiSlave v) := by
      rw [twiSlaveRequest, asked, State.setTwi_twi, if_neg (by decide), if_neg idle, if_pos (by simpa using flag)]
    rw [request, State.andThen_aborted _ rfl]
    rfl

end Sys2Proof
end

section
/-! The TWI's transmissions (R440 to R442, R450). O40. -/

namespace Sys2Proof.Machine

/-! ### Frames on a link -/

/-- A frame's link depends on the link only (R735). -/
theorem emit_link_congr {s t : State} {l : LinkId} (link : t.link l = s.link l) (cat id : Byte) (payload : List Byte) :
    (emit l cat id payload t).link l = (emit l cat id payload s).link l := by
  unfold emit
  dsimp only
  rw [link]
  split <;> simp [link]

theorem emitData_link_congr {s t : State} {l : LinkId} (link : t.link l = s.link l) (params : t.params = s.params)
    (bs : List Byte) : (emitData l bs t).link l = (emitData l bs s).link l := by
  unfold emitData
  dsimp only
  rw [link, params]
  split <;> simp [link]

theorem foldl_emitData_link_congr {s t : State} {l : LinkId} (link : t.link l = s.link l) (params : t.params = s.params)
    (bufs : List (List Byte)) : (bufs.foldl (fun r b => emitData l b r) t).link l
      = (bufs.foldl (fun r b => emitData l b r) s).link l := by
  induction bufs generalizing s t with
  | nil => exact link
  | cons b bufs ih => exact ih (emitData_link_congr link params b) (by simp [params])

/-- The last link stays, whatever has come to the AIC in between. -/
theorem setLink_setAic_over (s : State) (l : LinkId) (j k : Iox) (a : Aic) :
    ((s.setLink l j).setAic a).setLink l k = (s.setLink l k).setAic a := by
  rw [show ((s.setLink l j).setAic a).setLink l k = ((s.setLink l j).setLink l k).setAic a from rfl, State.setLink_setLink]

/-- The buffers of a transfer depend on memory, the map and the channel only (R272). -/
theorem State.sendBuffersOk_congr {s t : State} {h : PdcHost} (params : t.params = s.params)
    (bootTarget : t.bootTarget = s.bootTarget) (pdc : t.pdc h = s.pdc h) (unit n : Nat) :
    t.sendBuffersOk h unit n = s.sendBuffersOk h unit n := by
  simp only [State.sendBuffersOk, pdc, State.readableBuffer_congr params bootTarget]

theorem State.sentBuffers_congr {s t : State} {h : PdcHost} (mem : t.mem = s.mem)
    (bootTarget : t.bootTarget = s.bootTarget) (pdc : t.pdc h = s.pdc h) (unit n : Nat) :
    t.sentBuffers h unit n = s.sentBuffers h unit n := by
  simp only [State.sentBuffers, pdc, State.loadBytes_congr mem bootTarget]

/-! ### The bursts of the TWI -/

section

variable {s : State}

/-- A transmission of the TWI touches nothing but its link (R440, R450). -/
theorem quietSend_twi : QuietSend .twi (emitData .twi) (fun _ => True) (fun _ => True) where
  setPdc y _ _ := emitData_setPdc _ _ y _
  pdc _ _ := by simp
  fault _ _ := by simp
  mem _ _ := by simp
  params _ _ := by simp
  bootTarget _ _ := by simp
  keeps _ _ := trivial

/-- The burst of the bytes that wait, if there are any (R442). -/
def twiBurst (s : State) : State :=
  if s.twi.txbuf = [] then s else emit .twi 1#8 4#8 [] (emitData .twi s.twi.txbuf (twiEmitStart s))

theorem twiBurst_frame (s : State) : twiBurst s = s.setLink .twi ((twiBurst s).link .twi) := by
  unfold twiBurst twiEmitStart
  split
  · exact (State.setLink_self s .twi).symm
  · rw [emit_frame, emitData_frame, emit_frame]
    simp

/-- A START's payload is that of the registers (R441). -/
theorem twiEmitStart_link_congr {s t : State} (link : t.link .twi = s.link .twi) (params : t.params = s.params)
    (mmr : t.twi.mmr = s.twi.mmr) (iadr : t.twi.iadr = s.twi.iadr) :
    (twiEmitStart t).link .twi = (twiEmitStart s).link .twi := by
  have payload : t.twi.startPayload t.params.twiStartDadr = s.twi.startPayload s.params.twiStartDadr := by
    unfold Twi.startPayload Twi.startDadr Twi.readMode
    rw [params, mmr, iadr]
  rw [twiEmitStart, payload]
  exact emit_link_congr link ..

theorem twiEmitStart_frame (s : State) : twiEmitStart s = s.setLink .twi ((twiEmitStart s).link .twi) := emit_frame ..

theorem twiEmitStop_frame (s : State) : twiEmitStop s = s.setLink .twi ((twiEmitStop s).link .twi) := emit_frame ..

/-- The flush of bytes that wait (R442). -/
theorem twiFlush_eq (s : State) : twiFlush s = twiUpdateIrq ((s.setTwi
    { s.twi with txbuf := [], debounceArmed := false, txcomp := true }).setLink .twi ((twiBurst s).link .twi)) := by
  have burst : (if s.twi.txbuf.isEmpty then s else twiEmitStop (emitData .twi s.twi.txbuf (twiEmitStart s)))
      = twiBurst s := by
    simp only [twiBurst, List.isEmpty_iff]
    rfl
  rw [twiFlush, burst, twiBurst_frame]
  simp
  rfl

/-- The TWI before its DMA sends: what waited has left (R450). -/
theorem twiFlush_if_eq (s : State) : ∃ a, (if s.twi.txbuf.isEmpty then s else twiFlush s)
      = (((s.setTwi { s.twi with
          txbuf := [], debounceArmed := s.twi.debounceArmed && decide (s.twi.txbuf = [])
          txcomp := s.twi.txcomp || decide (s.twi.txbuf ≠ []) }).setLink .twi ((twiBurst s).link .twi)).setAic a)
    ∧ Aic.onlyLine (hostLine .twi) s.aic a := by
  by_cases empty : s.twi.txbuf = []
  · have nothing : twiBurst s = s := if_pos empty
    refine ⟨s.aic, ?_, Aic.onlyLine_refl _ _⟩
    have same (x : Twi) (none_waits : x.txbuf = []) : { x with
          txbuf := [], debounceArmed := x.debounceArmed && decide (x.txbuf = [])
          txcomp := x.txcomp || decide (x.txbuf ≠ []) } = x := by
      cases x
      cases none_waits
      simp
    rw [same s.twi empty, nothing]
    simp [empty]
  · refine ⟨_, ?_, pdcUpdateIrq_onlyLine .twi ((s.setTwi
      { s.twi with txbuf := [], debounceArmed := false, txcomp := true }).setLink .twi ((twiBurst s).link .twi))⟩
    rw [if_neg (by simpa using empty), twiFlush_eq, twiUpdateIrq_frame]
    simp [empty]
    rfl

/-- The last TWI and the last link stay. -/
theorem setTwi_setLink_over (s : State) (y z : Twi) (j k : Iox) (a : Aic) :
    ((((s.setTwi y).setLink .twi j).setAic a).setTwi z).setLink .twi k = ((s.setTwi z).setLink .twi k).setAic a := by
  rw [show ((((s.setTwi y).setLink .twi j).setAic a).setTwi z).setLink .twi k
    = (((s.setTwi z).setLink .twi j).setLink .twi k).setAic a from rfl, State.setLink_setLink]

/-- What a burst or a transfer leaves of the TWI, its channel and its link (R269, R442, R450). -/
theorem twiUpdateIrq_sent {t : State} {p : Pdc} {y : Twi} {k : Iox} {a : Aic}
    (line : Aic.onlyLine (hostLine .twi) s.aic a)
    (sent : t = twiUpdateIrq ((((s.setPdc .twi p).setTwi y).setLink .twi k).setAic a)) :
    t.fault = s.fault ∧ t.pdc .twi = p ∧ t.twi = y ∧ t.link .twi = k
      ∧ t = (((s.setPdc .twi p).setTwi y).setLink .twi k).setAic t.aic ∧ irqFollows .twi s t := by
  subst sent
  refine ⟨by simp, by simp, by simp, by simp, ?_, irqFollows_of_onlyLine (h := .twi) line⟩
  rw [twiUpdateIrq_frame]
  rfl

/-- The TWI once its DMA has started with a START (R450). -/
theorem twiTxStart_eq (master : s.twi.mode = .master) : ∃ a,
    Aic.onlyLine (hostLine .twi) s.aic a ∧
    twiTxStart s = (pdcTx .twi 1 (emitData .twi) none (((s.setTwi { s.twi with
          txbuf := [], debounceArmed := s.twi.debounceArmed && decide (s.twi.txbuf = [])
          txcomp := s.twi.txcomp || decide (s.twi.txbuf ≠ []) }).setLink .twi
            ((twiEmitStart (twiBurst s)).link .twi)).setAic a)).2.andThen fun t =>
      twiUpdateIrq ((t.setTwi { t.twi with txcomp := true }).setLink .twi ((twiEmitStop t).link .twi)) := by
  obtain ⟨a, flushed, line⟩ := twiFlush_if_eq s
  refine ⟨a, line, ?_⟩
  obtain ⟨s1, hs1⟩ : ∃ r, r = (if s.twi.txbuf.isEmpty then s else twiFlush s) := ⟨_, rfl⟩
  rw [← hs1] at flushed
  have link : (twiEmitStart s1).link .twi = (twiEmitStart (twiBurst s)).link .twi := by
    refine twiEmitStart_link_congr ?_ ?_ ?_ ?_ <;> rw [flushed, twiBurst_frame] <;> simp
  have start : twiEmitStart s1 = ((s.setTwi { s.twi with
      txbuf := [], debounceArmed := s.twi.debounceArmed && decide (s.twi.txbuf = [])
      txcomp := s.twi.txcomp || decide (s.twi.txbuf ≠ []) }).setLink .twi
        ((twiEmitStart (twiBurst s)).link .twi)).setAic a := by
    rw [twiEmitStart_frame, link, flushed, setLink_setAic_over]
  have stop (t : State) : (twiEmitStop t).setTwi { (twiEmitStop t).twi with txcomp := true }
      = (t.setTwi { t.twi with txcomp := true }).setLink .twi ((twiEmitStop t).link .twi) := by
    rw [twiEmitStop_frame]
    simp
    rfl
  rw [twiTxStart, if_neg (by simp [master])]
  dsimp only
  rw [← hs1, start]
  simp only [stop]

/-- The transmit DMA of the TWI, its buffers between one START and one STOP (R450). -/
theorem twiTxStart_sent (live : s.fault = none) (master : s.twi.mode = .master) (count : (s.pdc .twi).txCount ≠ 0)
    (ok : s.sendBuffersOk .twi 1 (s.pdc .twi).txCount = true) :
    let t := twiTxStart s
    let p := s.pdc .twi
    t.fault = s.fault
    ∧ t.pdc .twi = p.afterSend 1 p.txCount
    ∧ t.twi = { s.twi with
        txbuf := [], debounceArmed := s.twi.debounceArmed && decide (s.twi.txbuf = []), txcomp := true }
    ∧ t.link .twi = (emit .twi 1#8 4#8 [] ((s.sentBuffers .twi 1 p.txCount).foldl
        (fun r b => emitData .twi b r) (twiEmitStart (twiBurst s)))).link .twi
    ∧ t = (((s.setPdc .twi (p.afterSend 1 p.txCount)).setTwi { s.twi with
        txbuf := [], debounceArmed := s.twi.debounceArmed && decide (s.twi.txbuf = []), txcomp := true }).setLink .twi
          (t.link .twi)).setAic t.aic
    ∧ irqFollows .twi s t := by
  intro t p
  obtain ⟨a, line, started⟩ := twiTxStart_eq master
  obtain ⟨y, hy⟩ : ∃ y : Twi, y = { s.twi with
    txbuf := [], debounceArmed := s.twi.debounceArmed && decide (s.twi.txbuf = [])
    txcomp := s.twi.txcomp || decide (s.twi.txbuf ≠ []) } := ⟨_, rfl⟩
  have done : { y with txcomp := true } = { s.twi with
      txbuf := [], debounceArmed := s.twi.debounceArmed && decide (s.twi.txbuf = []), txcomp := true } := by rw [hy]
  rw [← hy] at started
  obtain ⟨r, hr⟩ : ∃ r, r = ((s.setTwi y).setLink .twi ((twiEmitStart (twiBurst s)).link .twi)).setAic a := ⟨_, rfl⟩
  rw [← hr] at started
  have pdc : r.pdc .twi = p := by rw [hr]; rfl
  have buffers : r.sentBuffers .twi 1 p.txCount = s.sentBuffers .twi 1 p.txCount :=
    State.sentBuffers_congr (by rw [hr]; rfl) (by rw [hr]; rfl) pdc _ _
  have readable : r.sendBuffersOk .twi 1 p.txCount = true :=
    (State.sendBuffersOk_congr (by rw [hr]; rfl) (by rw [hr]; rfl) pdc _ _).trans ok
  have link : ((s.sentBuffers .twi 1 p.txCount).foldl (fun r b => emitData .twi b r) r).link .twi
      = ((s.sentBuffers .twi 1 p.txCount).foldl (fun r b => emitData .twi b r) (twiEmitStart (twiBurst s))).link .twi := by
    refine foldl_emitData_link_congr ?_ ?_ _
    · rw [hr]; simp
    · rw [hr, twiEmitStart_frame, twiBurst_frame]; simp
  obtain ⟨b, hb⟩ : ∃ b, b = (pdcTx .twi 1 (emitData .twi) none r).2 := ⟨_, rfl⟩
  have sent : b = pdcUpdateIrq .twi (((s.sentBuffers .twi 1 p.txCount).foldl (fun r b => emitData .twi b r) r).setPdc
      .twi (p.afterSend 1 p.txCount)) := by
    have transfer := congrArg Prod.snd (pdcTx_of_sendBuffersOk (s := r) (h := .twi) (unit := 1) quietSend_twi trivial
      (by rw [hr]; exact live) (by rw [pdc]; exact count) (limit := none) (by simp)
      (by rw [pdc]; exact readable) fun _ _ => trivial)
    simp only [withinLimit, pdc, buffers] at transfer
    exact hb.trans transfer
  rw [foldl_emitData_frame, link, hr, setLink_setAic_over] at sent
  generalize ((s.sentBuffers .twi 1 p.txCount).foldl (fun r b => emitData .twi b r) (twiEmitStart (twiBurst s))) = c at *
  have settled : b = (((s.setPdc .twi (p.afterSend 1 p.txCount)).setTwi y).setLink .twi (c.link .twi)).setAic b.aic := by
    conv_lhs => rw [sent, show pdcUpdateIrq .twi = twiUpdateIrq from rfl, twiUpdateIrq_frame]
    rw [sent]
    rfl
  have line1 : Aic.onlyLine (hostLine .twi) s.aic b.aic := by
    rw [sent]
    exact Aic.onlyLine_trans line (pdcUpdateIrq_onlyLine .twi _)
  have stopped : (twiEmitStop b).link .twi = (emit .twi 1#8 4#8 [] c).link .twi :=
    emit_link_congr (by rw [settled]; simp) ..
  have final : t = twiUpdateIrq ((((s.setPdc .twi (p.afterSend 1 p.txCount)).setTwi { s.twi with
      txbuf := [], debounceArmed := s.twi.debounceArmed && decide (s.twi.txbuf = []), txcomp := true }).setLink .twi
        ((emit .twi 1#8 4#8 [] c).link .twi)).setAic b.aic) := by
    have live1 : b.fault = none := by rw [settled]; exact live
    show twiTxStart s = _
    rw [started, ← hb, State.andThen_live _ live1, stopped, ← done]
    congr 1
    rw [settled]
    exact setTwi_setLink_over ..
  obtain ⟨fault, pdc1, twi, link1, frame, follows⟩ := twiUpdateIrq_sent line1 final
  refine ⟨fault, pdc1, twi, link1, ?_, follows⟩
  rw [link1]
  exact frame

end

end Sys2Proof.Machine

namespace Sys2Proof

open Machine

/-- Settles O40: the burst of the timer, the transfer of the DMA and the frames of the owner. -/
theorem twiTransmit : Obligations.TwiTransmit := by
  intro s x p
  refine ⟨?thr, ?thrOff, ?low7, ?start, ?stop, ?data, ?flush, ?noFlush, ?offline, ?transfer⟩
  case thr =>
    intro v ready master
    rw [exec_of_ready ready (exec_twiThrW v s), twiWriteThr, if_neg (by simpa using master)]
  case thrOff =>
    intro v ready offline
    rw [exec_of_ready ready (exec_twiThrW v s), twiWriteThr, if_pos offline]
  case low7 =>
    intro live format
    have bytes : leBytes 3 x.iadr = [x.iadr.extractLsb 7 0, x.iadr.extractLsb 15 8, x.iadr.extractLsb 23 16] := by
      have low : x.iadr.setWidth 8 = x.iadr.extractLsb 7 0 := BitVec.eq_of_toNat_eq (by simp)
      have middle : (x.iadr >>> 8).setWidth 8 = x.iadr.extractLsb 15 8 := BitVec.eq_of_toNat_eq (by simp)
      have high : (x.iadr >>> 16).setWidth 8 = x.iadr.extractLsb 23 16 := BitVec.eq_of_toNat_eq (by simp)
      simp [leBytes, List.range_succ, ← low, ← middle, ← high]
    rw [exec_of_live live (exec_twiCtrlStart s), twiEmitStart, Twi.startPayload, bytes, format]
    rfl
  case start => exact fun live => exec_of_live live (exec_twiCtrlStart s)
  case stop => exact fun live => exec_of_live live (exec_twiCtrlStop s)
  case data => exact fun bs live => exec_of_live live (exec_twiDataOut bs s)
  case flush =>
    intro rest live inputs armed waits
    have ran : step s = .next (twiFlush (s.setInputs rest)) := by
      rw [step_of_other live inputs rfl]
      exact congrArg Host.Outcome.next (if_pos armed)
    have link : (twiBurst (s.setInputs rest)).link .twi
        = (emit .twi 1#8 4#8 [] (emitData .twi x.txbuf (twiEmitStart s))).link .twi := by
      rw [twiBurst, if_neg (show (s.setInputs rest).twi.txbuf ≠ [] from waits)]
      exact emit_link_congr (emitData_link_congr (twiEmitStart_link_congr (s := s) (t := s.setInputs rest) rfl rfl rfl rfl)
        (by simp [twiEmitStart]) _) ..
    rw [twiFlush_eq, link] at ran
    have same : (s.setInputs rest).setPdc .twi p = s.setInputs rest := State.setPdc_self (s.setInputs rest) .twi
    generalize hr : twiUpdateIrq _ = r at ran
    have sent := twiUpdateIrq_sent (s := s.setInputs rest) (t := r) (p := p) (a := s.aic)
      (y := { x with txbuf := [], debounceArmed := false, txcomp := true })
      (k := (emit .twi 1#8 4#8 [] (emitData .twi x.txbuf (twiEmitStart s))).link .twi) (Aic.onlyLine_refl _ _)
      (by rw [same]; exact hr.symm)
    rw [same] at sent
    obtain ⟨-, -, twi, link1, frame, follows⟩ := sent
    rw [← link1, ← twi] at frame
    exact ⟨r, ran, twi, link1, frame, follows⟩
  case noFlush =>
    intro rest live inputs idle
    rw [step_of_other live inputs rfl]
    simp [runInput, show s.twi.debounceArmed = false from idle]
  case offline =>
    intro offline
    exact if_pos offline
  case transfer =>
    intro live master armed count t a
    have burst : a = twiBurst s := rfl
    refine ⟨fun ok => ?sent, fun bad => ?aborted⟩
    case sent =>
      obtain ⟨fault, pdc, twi, link, frame, follows⟩ := twiTxStart_sent live master count ok
      refine ⟨fault.trans live, pdc, twi, ?_, ?_, follows⟩
      · rw [burst]; exact link
      · show twiTxStart s = (((s.setPdc .twi ((twiTxStart s).pdc .twi)).setTwi (twiTxStart s).twi).setLink .twi
          ((twiTxStart s).link .twi)).setAic (twiTxStart s).aic
        rw [pdc, twi]
        exact frame
    case aborted =>
      obtain ⟨b, -, started⟩ := twiTxStart_eq master
      generalize hr : ((s.setTwi _).setLink .twi _).setAic b = r at started
      have pdc : r.pdc .twi = p := by rw [← hr]; rfl
      have bad1 : r.sendBuffersOk .twi 1 p.txCount = false :=
        (State.sendBuffersOk_congr (by rw [← hr]; rfl) (by rw [← hr]; rfl) pdc _ _).trans bad
      have readable : r.readableBuffer p.txCurrent.tpr p.txCurrent.tcr.toNat
          = s.readableBuffer p.txCurrent.tpr p.txCurrent.tcr.toNat :=
        State.readableBuffer_congr (by rw [← hr]; rfl) (by rw [← hr]; rfl) _ _
      have aborts := pdcTx_of_not_sendBuffersOk (s := r) (h := .twi) (unit := 1) quietSend_twi trivial
        (by rw [← hr]; exact live) (by rw [pdc]; exact count) (limit := none) (by simp)
        (by rw [pdc]; exact bad1) fun _ _ => trivial
      simp only [withinLimit, pdc, Nat.mul_one, readable] at aborts
      show (twiTxStart s).fault = _
      rw [started, State.andThen_aborted _ (by rw [aborts]; rfl)]
      exact aborts

end Sys2Proof
end

section
/-! The registers of the MCI (R482 to R486, R511). O42. -/

namespace Sys2Proof.Machine

/-- RXRDY: a read transfer with bytes left outside PDC mode, and a card that answers (R485). -/
theorem mciRxrdy_iff (s : State) : s.mciRxrdy = true ↔
    (∃ rem pos blk, s.mci.xfer = .active .read rem pos blk ∧ rem ≠ .bytes 0) ∧ s.mci.mrLow.getLsbD 15 = false
      ∧ s.sdDataReady s.mci.selectedCard = true := by
  have nonzero (rem : MciRemaining) : rem.nonzero = true ↔ rem ≠ .bytes 0 := by
    cases rem <;> simp [MciRemaining.nonzero]
  unfold State.mciRxrdy
  cases xfer : s.mci.xfer with
  | idle => simp
  | active dir rem pos blk =>
    cases dir with
    | write => simp
    | read => simp [nonzero, Mci.pdcMode, and_assoc]

/-- `SWRST` and the enables of `CR` taken together (R482). -/
theorem mciWriteCr_eq (v : Word) (s : State) : mciWriteCr v s = mciUpdateIrq (s.setMci
    { (if bit v 7 then Mci.resetWith s.mci.selectedCard else s.mci) with
      enabled := ((if bit v 7 then Mci.resetWith s.mci.selectedCard else s.mci).enabled || bit v 0) && !bit v 1 }) := by
  cases reset : bit v 7 <;> simp [mciWriteCr, mciReset, reset]

end Sys2Proof.Machine

namespace Sys2Proof

open Machine

/-- Settles O42: each row runs its operation; the status word bit by bit. -/
theorem mciRegisters : Obligations.MciRegisters := by
  intro s v ready x p dataReady
  refine ⟨?mr, ?mrW, ?blkr, ?blkrW, ?dtor, ?dtorW, ?sdcr, ?sdcrW, ?argr, ?argrW, ?sr, ?ier, ?idr, ?imr, ?cr, ?crReset⟩
  case mr => exact exec_readPlain_of_ready ready (exec_mciMrR s)
  case mrW => exact exec_of_ready ready (exec_mciMrW v s)
  case blkr => exact exec_readPlain_of_ready ready (exec_mciBlkrR s)
  case blkrW => exact exec_of_ready ready (exec_mciBlkrW v s)
  case dtor => exact exec_readPlain_of_ready ready (exec_mciDtorR s)
  case dtorW => exact exec_of_ready ready (exec_mciDtorW v s)
  case sdcr => exact exec_readPlain_of_ready ready (exec_mciSdcrR s)
  case sdcrW => exact exec_of_ready ready (exec_mciSdcrW v s)
  case argr => exact exec_readPlain_of_ready ready (exec_mciArgrR s)
  case argrW => exact exec_of_ready ready (exec_mciArgrW v s)
  case sr =>
    refine ⟨s.mciSr, exec_of_ready ready (exec_mciSrR s), ?_⟩
    have rxrdy := mciRxrdy_iff s
    rw [show s.sdDataReady s.mci.selectedCard = dataReady from rfl] at rxrdy
    simpa [State.mciSr, bit_or, bit_bitAt, or_and, bitAt_and, x, p] using rxrdy
  case ier => exact exec_of_ready ready (exec_mciIerW v s)
  case idr => exact exec_of_ready ready (exec_mciIdrW v s)
  case imr => exact exec_readPlain_of_ready ready (exec_mciImrR s)
  case cr =>
    intro kept
    rw [exec_of_ready ready (exec_mciCrW v s), mciWriteCr_eq, kept]
    rfl
  case crReset =>
    intro reset
    rw [exec_of_ready ready (exec_mciCrW v s), mciWriteCr_eq, reset]
    simp [Mci.resetWith]
    rfl

end Sys2Proof
end

section
/-! The commands of the MCI (R487, R490, R492). O43. -/

namespace Sys2Proof.Machine

section

variable {s : State} {v : Word}

/-- What decides a data transfer is not touched by a response (R487). -/
theorem Mci.respond_frame (rsptyp : Nat) (r : SdResponse) (x : Mci) : x.respond rsptyp r = { x with
    rspWords := (x.respond rsptyp r).rspWords, rspr := (x.respond rsptyp r).rspr, rtoe := (x.respond rsptyp r).rtoe } := by
  cases r <;> rfl

/-- A response is missing when one was asked for and none came (R487). -/
theorem Mci.respond_rtoe (rsptyp : Nat) (r : SdResponse) (x : Mci) (clear : x.rtoe = false) :
    (x.respond rsptyp r).rtoe = (decide (r = .none) && decide (rsptyp ≠ 0)) := by
  cases r <;> simp [Mci.respond, clear]

/-- A command that no code of `CMDR` forbids (R487). -/
theorem cmdrFault_none {p : Params} (rsptyp : field v 7 6 ≠ 3) (trcmd : field v 17 16 ≠ 3)
    (start : field v 17 16 = 1 → field v 21 19 ≠ 3 ∧ field v 21 19 ≠ 6 ∧ field v 21 19 ≠ 7
      ∧ (field v 21 19 = 2 → p.abortMciStream = false)) : cmdrFault p v = none := by
  unfold cmdrFault
  dsimp only
  rw [if_neg (by simp [rsptyp, trcmd]), if_neg, if_neg]
  · rintro ⟨one, stream, flag⟩
    rw [(start one).2.2.2 stream] at flag
    exact Bool.false_ne_true flag
  · rintro ⟨one, reserved⟩
    obtain ⟨n3, n6, n7, -⟩ := start one
    omega

theorem mciWriteCmdr_of_fault {f : Fault} (fault : cmdrFault s.params v = some f) : mciWriteCmdr v s = s.raise f := by
  rw [mciWriteCmdr, fault]

theorem mciWriteCmdr_of_none (none : cmdrFault s.params v = none) :
    mciWriteCmdr v s = (mciTransferCommand v (mciCommand v s)).andThen mciUpdateIrq := by
  rw [mciWriteCmdr, none]

/-- The SD bus is all a command touches besides the MCI (R481). -/
theorem sdCommand_frame (c : Fin 2) (cmd : BitVec 6) (arg : Word) (s : State) :
    (sdCommand c cmd arg s).2 = s.setSd (sdCommand c cmd arg s).2.sd := by
  unfold sdCommand
  dsimp only
  split <;> rfl

/-- The command and its response (R487). -/
theorem mciCommand_eq (v : Word) (s : State) {q : SdResponse × State}
    (answer : q = sdCommand s.mci.selectedCard (v.extractLsb 5 0) s.mci.argr (s.setMci s.mci.clearErrors)) :
    mciCommand v s = q.2.setMci { Mci.respond (field v 7 6) q.1 s.mci.clearErrors with rspIdx := 0, cmdrdy := true } := by
  subst answer
  have mci : (sdCommand s.mci.selectedCard (v.extractLsb 5 0) s.mci.argr (s.setMci s.mci.clearErrors)).2.mci
      = s.mci.clearErrors := by rw [sdCommand_frame]; rfl
  unfold mciCommand
  dsimp only
  rw [show s.mci.clearErrors.selectedCard = s.mci.selectedCard from rfl,
    show s.mci.clearErrors.argr = s.mci.argr from rfl, mci]

theorem MciRemaining.nonzero_iff (rem : MciRemaining) : rem.nonzero = true ↔ rem ≠ .bytes 0 := by
  cases rem <;> simp [MciRemaining.nonzero]

/-- The record of a transfer that starts (R492). -/
def Mci.started (v : Word) (x : Mci) : Mci := { x with
  ovre := false, unre := false
  xfer := .active (if bit v 18 then .read else .write) (x.transferSize (field v 21 19)).1 0
    (x.transferSize (field v 21 19)).2 }

/-- A block size that does not fit the DMA's words (R492). -/
def Mci.misfit (v : Word) (x : Mci) : Bool :=
  x.pdcMode && !x.pdcForceByte && decide ((x.transferSize (field v 21 19)).2 % 4 ≠ 0)

theorem mciStartTransfer_misfit (misfit : s.mci.misfit v = true) :
    mciStartTransfer v s = s.raise (.mciBlklen (s.mci.transferSize (field v 21 19)).2) := by
  unfold mciStartTransfer
  dsimp only
  exact if_pos (by simpa [Mci.misfit, bne] using misfit)

theorem mciStartTransfer_empty (fits : s.mci.misfit v = false)
    (empty : (s.mci.transferSize (field v 21 19)).1 = .bytes 0) :
    mciStartTransfer v s = s.setMci { s.mci with ovre := false, unre := false, xfer := .idle, blke := true } := by
  unfold mciStartTransfer
  dsimp only
  rw [if_neg (by simpa [Mci.misfit, bne] using fits), if_pos (by simp [empty, MciRemaining.nonzero])]
  simp

theorem mciStartTransfer_cpu (manual : s.mci.pdcMode = false)
    (some_bytes : (s.mci.transferSize (field v 21 19)).1 ≠ .bytes 0) :
    mciStartTransfer v s = s.setMci (s.mci.started v) := by
  have nonzero := (MciRemaining.nonzero_iff _).2 some_bytes
  unfold mciStartTransfer
  dsimp only
  rw [if_neg (by simp [manual]), if_neg (by simp [nonzero]), if_neg (by simp [manual])]
  rfl

theorem mciStartTransfer_pdc (pdc : s.mci.pdcMode = true) (fits : s.mci.misfit v = false)
    (some_bytes : (s.mci.transferSize (field v 21 19)).1 ≠ .bytes 0) :
    mciStartTransfer v s = if bit v 18 then pdcRxStart .mci (s.setMci (s.mci.started v))
      else pdcTxStart .mci (s.setMci (s.mci.started v)) := by
  have nonzero := (MciRemaining.nonzero_iff _).2 some_bytes
  unfold mciStartTransfer
  dsimp only
  rw [if_neg (by simpa [Mci.misfit, bne] using fits), if_neg (by simp [nonzero]), if_pos (by simp [pdc]), Mci.started]
  cases bit v 18 <;> rfl

end

end Sys2Proof.Machine

namespace Sys2Proof

open Machine

/-- Settles O43: the answer of the card, then the transfer by the codes that start it. -/
theorem mciCommand : Obligations.MciCommand := by
  intro s v ready x c q d len cnt size dir pdc misfit e
  have live := State.ready_fault ready
  have row := exec_of_ready ready (exec_mciCmdrW v s)
  have responded : d = Mci.respond (field v 7 6) q.1 c := by
    simp only [d]
    cases q.1 <;> rfl
  have kept : d.mrLow = x.mrLow ∧ d.blklen = x.blklen ∧ d.bcnt = x.bcnt ∧ d.xfer = x.xfer := by
    rw [responded, Mci.respond_frame]
    exact ⟨rfl, rfl, rfl, rfl⟩
  have missing : d.rtoe = (decide (q.1 = .none) && decide (field v 7 6 ≠ 0)) := by
    rw [responded, Mci.respond_rtoe _ _ _ rfl]
  have liveQ : q.2.fault = none := by simp only [q]; rw [sdCommand_frame]; exact live
  obtain ⟨b, hb⟩ : ∃ b : Mci, b = { d with rspIdx := 0, cmdrdy := true } := ⟨_, rfl⟩
  have answered : Machine.mciCommand v s = q.2.setMci b := by
    rw [mciCommand_eq v s (q := q) rfl, hb, responded]
    rfl
  have legal (h : cmdrFault s.params v = none) : exec (.mciCmdrW v) s = .next
      ((mciTransferCommand v (q.2.setMci b)).andThen mciUpdateIrq) := by
    rw [row, mciWriteCmdr_of_none h, answered]
  have illegal {f : Fault} (h : cmdrFault s.params v = some f) :
      ∃ t, exec (.mciCmdrW v) s = .next t ∧ t.fault = some f := by
    rw [row, mciWriteCmdr_of_fault h]
    exact ⟨_, rfl, rfl⟩
  refine ⟨?plain, ?unanswered, ?started, ?reserved, ?trtyp, ?stream, ?ignored, ?rspr, ?rsprEnd⟩
  case plain =>
    intro rsptyp not_start not_reserved
    rw [legal (cmdrFault_none rsptyp not_reserved fun one => absurd one not_start)]
    by_cases stop : field v 17 16 = 2
    · simp [mciTransferCommand, stop, mciChange, State.andThen, liveQ, hb]
    · simp [mciTransferCommand, stop, not_start, State.andThen, liveQ, hb, kept]
  case unanswered =>
    intro start trtyp rsptyp silent
    simp only [List.mem_cons, List.not_mem_nil, or_false] at trtyp rsptyp
    have rtoe : (q.2.setMci b).mci.rtoe = true := by
      have asked : field v 7 6 ≠ 0 := by omega
      rw [State.setMci_mci, hb]
      refine missing.trans ?_
      rw [silent, decide_eq_true rfl, decide_eq_true asked, Bool.and_self]
    rw [legal (cmdrFault_none (by omega) (by omega) fun _ => by omega), mciTransferCommand,
      if_neg (fun starts => by rw [rtoe] at starts; exact Bool.noConfusion starts.2.1), if_neg (by omega), State.andThen_live _ (by simpa using liveQ), hb]
  case started =>
    intro start trtyp rsptyp answer
    simp only [List.mem_cons, List.not_mem_nil, or_false] at trtyp
    have rtoe : (q.2.setMci b).mci.rtoe = false := by
      rw [State.setMci_mci, hb]
      refine missing.trans ?_
      rcases answer with some_answer | no_answer
      · rw [decide_eq_false some_answer, Bool.false_and]
      · rw [decide_eq_false (not_not_intro no_answer), Bool.and_false]
    have runs : exec (.mciCmdrW v) s = .next ((mciStartTransfer v (q.2.setMci b)).andThen mciUpdateIrq) := by
      rw [legal (cmdrFault_none (by omega) (by omega) fun _ => by omega), mciTransferCommand,
        if_pos ⟨start, rtoe, by omega⟩]
    have sizes : b.transferSize (field v 21 19) = size := by
      simp only [hb, Mci.transferSize, kept.2.1, kept.2.2.1]
      rfl
    have modes : b.pdcMode = pdc ∧ b.misfit v = misfit := by
      simp only [Mci.misfit, sizes]
      simp only [hb, Mci.pdcMode, Mci.pdcForceByte, kept.1]
      exact ⟨rfl, rfl⟩
    have active : b.started v = { e with xfer := .active dir size.1 0 size.2 } := by
      rw [Mci.started, sizes, hb]
    refine ⟨fun bad => ?misfit, fun fits empty => ?empty, fun manual some_bytes => ?cpu, fun dma fits some_bytes => ?pdc⟩
    case misfit =>
      rw [runs, mciStartTransfer_misfit (s := q.2.setMci b) (modes.2.trans bad), State.andThen_aborted _ rfl]
      exact ⟨_, rfl, by rw [State.raise_fault, State.setMci_mci, sizes]⟩
    case empty =>
      rw [runs, mciStartTransfer_empty (s := q.2.setMci b) (modes.2.trans fits)
        (by rw [State.setMci_mci, sizes]; exact empty), State.andThen_live _ (by simpa using liveQ), State.setMci_mci,
        State.setMci_setMci, hb]
    case cpu =>
      rw [runs, mciStartTransfer_cpu (s := q.2.setMci b) (modes.1.trans manual)
        (by rw [State.setMci_mci, sizes]; exact some_bytes), State.andThen_live _ (by simpa using liveQ), State.setMci_mci,
        State.setMci_setMci, active]
    case pdc =>
      intro a t
      rw [runs, mciStartTransfer_pdc (s := q.2.setMci b) (modes.1.trans dma) (modes.2.trans fits)
        (by rw [State.setMci_mci, sizes]; exact some_bytes), State.setMci_mci, State.setMci_setMci, active,
        State.andThen_eq_ite]
      have same : (if bit v 18 = true then pdcRxStart .mci a else pdcTxStart .mci a) = t := by
        simp only [t, dir]
        cases bit v 18 <;> rfl
      exact congrArg (fun r : State => Host.Outcome.next (if r.fault = none then mciUpdateIrq r else r)) same
  case reserved =>
    intro codes
    exact illegal (by unfold cmdrFault; exact if_pos codes)
  case trtyp =>
    intro rsptyp start reserved
    simp only [List.mem_cons, List.not_mem_nil, or_false] at reserved
    exact illegal (by unfold cmdrFault; dsimp only; rw [if_neg (by omega), if_pos ⟨start, reserved⟩])
  case stream =>
    intro rsptyp start stream flag
    exact illegal (by
      unfold cmdrFault
      dsimp only
      rw [if_neg (by omega), if_neg (by omega), if_pos ⟨start, stream, flag⟩])
  case ignored =>
    intro rsptyp start stream flag
    rw [legal (cmdrFault_none rsptyp (by omega) fun _ => ⟨by omega, by omega, by omega, fun _ => flag⟩), mciTransferCommand,
      if_neg (fun h => h.2.2 stream), if_neg (by omega), State.andThen_live _ (by simpa using liveQ), hb]
  case rspr =>
    intro k j index more
    rw [exec_of_ready ready (exec_mciRsprR k s), mciReadRspr]
    have within : ¬ s.mci.rspIdx ≥ s.mci.rspWords := Nat.not_le_of_lt more
    have word : s.mci.rspIdx % 4 = j.val := by rw [show s.mci.rspIdx = j.val from index]; exact Nat.mod_eq_of_lt j.isLt
    simp only [within, if_false, word]
    rfl
  case rsprEnd =>
    intro k done
    rw [exec_of_ready ready (exec_mciRsprR k s), mciReadRspr]
    exact ⟨_, rfl, by rw [if_pos done]; rfl⟩

end Sys2Proof
end

section
/-! The data transfers of the MCI through `RDR` and `TDR` (R492, R497, R499, R502). O44. -/

namespace Sys2Proof.Machine

/-- The SD bus is all that reads and writes of card data touch (R481). -/
theorem sdReadByte_frame (c : Fin 2) (s : State) : (sdReadByte c s).2 = s.setSd (sdReadByte c s).2.sd := by
  unfold sdReadByte
  dsimp only
  split <;> rfl

theorem sdRead_frame (c : Fin 2) (n : Nat) (s : State) : (sdRead c n s).2 = s.setSd (sdRead c n s).2.sd := by
  induction n generalizing s with
  | zero => rfl
  | succ n ih =>
    simp only [sdRead]
    rw [ih, sdReadByte_frame]
    rfl

theorem sdWrite_frame (c : Fin 2) (bs : List Byte) (s : State) : sdWrite c bs s = s.setSd (sdWrite c bs s).sd := by
  induction bs generalizing s with
  | nil => rfl
  | cons b bs ih =>
    simp only [sdWrite]
    rw [ih]
    rfl

/-- The MCI after a command with a short answer (R487). -/
def Mci.answered (b0 b1 b2 b3 : Byte) (x : Mci) : Mci := { x.clearErrors with
  rspr := x.rspr.set 0 (b0 ++ b1 ++ b2 ++ b3), rspWords := 1, rspIdx := 0, cmdrdy := true }

/-- A command whose answer is scripted (R481, R487). -/
theorem mciCommand_short {s : State} {b0 b1 b2 b3 : Byte} {rs : List SdResponse} (v : Word)
    (scripted : s.sd.cards[s.mci.selectedCard.val].responses = .short b0 b1 b2 b3 :: rs) : mciCommand v s =
      (sdCommand s.mci.selectedCard (v.extractLsb 5 0) s.mci.argr s).2.setMci (s.mci.answered b0 b1 b2 b3) := by
  have answer (y : Mci) : sdCommand s.mci.selectedCard (v.extractLsb 5 0) s.mci.argr (s.setMci y)
      = (.short b0 b1 b2 b3, (sdCommand s.mci.selectedCard (v.extractLsb 5 0) s.mci.argr s).2.setMci y) := by
    unfold sdCommand
    dsimp only [State.setMci_sd]
    rw [scripted]
    rfl
  rw [mciCommand_eq v s rfl, answer, State.setMci_setMci]
  rfl

/-- A single-block command with a short answer starts its transfer (R487, R492). -/
theorem mciWriteCmdr_single {s : State} {v : Word} {b0 b1 b2 b3 : Byte} {rs : List SdResponse} (rsptyp : field v 7 6 ≠ 3)
    (start : field v 17 16 = 1) (single : field v 21 19 = 0)
    (scripted : s.sd.cards[s.mci.selectedCard.val].responses = .short b0 b1 b2 b3 :: rs) :
    mciWriteCmdr v s = (mciStartTransfer v ((sdCommand s.mci.selectedCard (v.extractLsb 5 0) s.mci.argr s).2.setMci
      (s.mci.answered b0 b1 b2 b3))).andThen mciUpdateIrq := by
  rw [mciWriteCmdr_of_none (cmdrFault_none rsptyp (by omega) fun _ => by omega), mciCommand_short v scripted,
    mciTransferCommand, if_pos ⟨start, rfl, by omega⟩]

/-- What a command or a transfer leaves of the MCI, its channel, memory and the card (R486, R778). -/
theorem mciUpdateIrq_settled {s t : State} {m : List Host.Cell} {p : Pdc} {y : Mci} {d : SdBus} {a : Aic}
    (line : Aic.onlyLine (hostLine .mci) s.aic a)
    (settled : t = mciUpdateIrq (((((s.setMem m).setPdc .mci p).setMci y).setSd d).setAic a)) :
    t.fault = s.fault ∧ t.mem = m ∧ t.pdc .mci = p ∧ t.mci = y ∧ t.sd.cards = d.cards
      ∧ t = (((((s.setMem m).setPdc .mci p).setMci y).setSd t.sd).setAic t.aic) ∧ irqFollows .mci s t := by
  subst settled
  refine ⟨by simp, by simp, by simp, by simp, by simp, ?_, irqFollows_of_onlyLine (h := .mci) line⟩
  rw [mciUpdateIrq_frame]
  rfl

/-- The transfer after `n` more bytes (R497). -/
theorem Mci.advance_more {x : Mci} {dir : MciDir} {rem : MciRemaining} {pos blk : Nat} (n : Nat)
    (active : x.xfer = .active dir rem pos blk) (more : rem.after n ≠ .bytes 0) :
    x.advance n = { x with xfer := .active dir (rem.after n) (blockPos pos n blk) blk } := by
  simp only [Mci.advance, active]
  exact if_pos ((MciRemaining.nonzero_iff _).2 more)

theorem Mci.advance_last {x : Mci} {dir : MciDir} {rem : MciRemaining} {pos blk : Nat} (n : Nat)
    (active : x.xfer = .active dir rem pos blk) (last : rem.after n = .bytes 0) :
    x.advance n = { x with xfer := .idle, blke := true } := by
  simp only [Mci.advance, active]
  exact if_neg (by simp [last, MciRemaining.nonzero])

section

variable {s : State} {rem : MciRemaining} {pos blk : Nat}

/-- The MCI with a word in `RDR` (R499). -/
def Mci.withRdr (w : Word) (x : Mci) : Mci := { x with rdr := w }

theorem Mci.advance_rdr (n : Nat) (x : Mci) : (x.advance n).rdr = x.rdr := by
  unfold Mci.advance
  split
  · split <;> rfl
  · rfl

/-- A read of `RDR` with bytes left (R499). -/
theorem mciReadRdr_active {n : Nat} {q : List Byte × State} (active : s.mci.xfer = .active .read rem pos blk)
    (left : rem ≠ .bytes 0) (count : rem.atMost 4 = n) (bytes : q = sdRead s.mci.selectedCard n s) :
    mciReadRdr s = (mciUpdateIrq (q.2.setMci ((s.mci.withRdr (leWord q.1)).advance n))).setRdata (leWord q.1) := by
  have mci : q.2.mci = s.mci := by rw [bytes, sdRead_frame]; rfl
  unfold mciReadRdr
  dsimp only
  rw [active]
  dsimp only
  rw [if_pos ((MciRemaining.nonzero_iff rem).2 left), count, ← bytes, State.setMci_mci, Mci.advance_rdr, mci]
  rfl

/-- The MCI once a write has crossed the end of a block outside PDC mode (R497). -/
def Mci.withBoundary (b : Bool) (x : Mci) : Mci := { x with blke := x.blke || b }

/-- A write of `TDR` with a write transfer active (R502). -/
theorem mciWriteTdr_active {n : Nat} (v : Word) (active : s.mci.xfer = .active .write rem pos blk)
    (count : rem.atMost 4 = n) : mciWriteTdr v s = mciUpdateIrq ((sdWrite s.mci.selectedCard (leBytes n v) s).setMci
      ((s.mci.withBoundary (!s.mci.pdcMode && crossesBlock pos n blk)).advance n)) := by
  have mci : (sdWrite s.mci.selectedCard (leBytes n v) s).mci = s.mci := by rw [sdWrite_frame]; rfl
  unfold mciWriteTdr
  dsimp only
  rw [active]
  dsimp only
  rw [count, mci]
  rfl

/-- A read of `RDR` that leaves bytes for the next (R499). -/
theorem mciReadRdr_more (active : s.mci.xfer = .active .read rem pos blk) (left : rem ≠ .bytes 0)
    (count : rem.atMost 4 = 4) (more : rem.after 4 ≠ .bytes 0) {q : List Byte × State}
    (bytes : q = sdRead s.mci.selectedCard 4 s) : mciReadRdr s = (mciUpdateIrq (q.2.setMci { s.mci with
      rdr := leWord q.1, xfer := .active .read (rem.after 4) (blockPos pos 4 blk) blk })).setRdata (leWord q.1) := by
  rw [mciReadRdr_active active left count bytes, Mci.advance_more (x := s.mci.withRdr (leWord q.1)) 4 active more]
  simp only [Mci.withRdr]

/-- A read of `RDR` that ends the transfer (R497, R499). -/
theorem mciReadRdr_last {n : Nat} (active : s.mci.xfer = .active .read (.bytes n) pos blk) (some_left : 0 < n)
    (last : n ≤ 4) {q : List Byte × State} (bytes : q = sdRead s.mci.selectedCard n s) :
    mciReadRdr s = (mciUpdateIrq (q.2.setMci { s.mci with
      rdr := leWord q.1, xfer := .idle, blke := true })).setRdata (leWord q.1) := by
  have left : MciRemaining.bytes n ≠ .bytes 0 := by simp; omega
  have count : (MciRemaining.bytes n).atMost 4 = n := by simp [MciRemaining.atMost]; omega
  rw [mciReadRdr_active active left count bytes, Mci.advance_last (x := s.mci.withRdr (leWord q.1)) n active
    (by simp [MciRemaining.after])]
  simp only [Mci.withRdr]

/-- A write of `TDR` that leaves bytes for the next (R497, R502). -/
theorem mciWriteTdr_more (v : Word) (active : s.mci.xfer = .active .write rem pos blk) (count : rem.atMost 4 = 4)
    (more : rem.after 4 ≠ .bytes 0) : mciWriteTdr v s = mciUpdateIrq ((sdWrite s.mci.selectedCard (leBytes 4 v) s).setMci
      { s.mci with
        blke := s.mci.blke || (!s.mci.pdcMode && crossesBlock pos 4 blk)
        xfer := .active .write (rem.after 4) (blockPos pos 4 blk) blk }) := by
  rw [mciWriteTdr_active v active count, Mci.advance_more (x := s.mci.withBoundary _) 4 active more]
  simp only [Mci.withBoundary]

/-- A write of `TDR` that ends the transfer (R497, R502). -/
theorem mciWriteTdr_last {n : Nat} (v : Word) (active : s.mci.xfer = .active .write (.bytes n) pos blk) (last : n ≤ 4) :
    mciWriteTdr v s = mciUpdateIrq ((sdWrite s.mci.selectedCard (leBytes n v) s).setMci
      { s.mci with blke := true, xfer := .idle }) := by
  have count : (MciRemaining.bytes n).atMost 4 = n := by simp [MciRemaining.atMost]; omega
  rw [mciWriteTdr_active v active count, Mci.advance_last (x := s.mci.withBoundary _) n active
    (by simp [MciRemaining.after])]
  simp only [Mci.withBoundary]

end

end Sys2Proof.Machine

namespace Sys2Proof

open Machine

/-- Settles O44: the accesses of `RDR` and `TDR` by how many bytes are left. -/
theorem mciData : Obligations.MciData := by
  intro s ready x
  refine ⟨?start, ?read, ?idleRead, ?write, ?idleWrite⟩
  case start =>
    intro v b0 b1 b2 b3 rs rsptyp start single manual nonempty scripted
    obtain ⟨r, hr⟩ : ∃ r, r = (sdCommand x.selectedCard (v.extractLsb 5 0) x.argr s).2 := ⟨_, rfl⟩
    obtain ⟨y, hy⟩ : ∃ y, y = x.answered b0 b1 b2 b3 := ⟨_, rfl⟩
    have size : y.transferSize (field v 21 19) = (.bytes x.blklen.toNat, x.blklen.toNat) := by rw [single, hy]; rfl
    have some_bytes : MciRemaining.bytes x.blklen.toNat ≠ .bytes 0 := fun empty => nonempty (BitVec.eq_of_toNat_eq (by
      injection empty))
    have frame : r = s.setSd r.sd := by rw [hr]; exact sdCommand_frame ..
    have row : exec (.mciCmdrW v) s = .next (mciUpdateIrq (r.setMci (y.started v))) := by
      rw [exec_of_ready ready (exec_mciCmdrW v s), mciWriteCmdr_single rsptyp start single scripted, ← hr, ← hy,
        mciStartTransfer_cpu (by rw [State.setMci_mci, hy]; exact manual)
          (by rw [State.setMci_mci, size]; exact some_bytes), State.setMci_mci, State.setMci_setMci,
        State.andThen_live _ (by rw [frame]; exact State.ready_fault ready)]
    generalize ht : mciUpdateIrq (r.setMci (y.started v)) = t at row
    obtain ⟨fault, -, -, mci, -, same, follows⟩ := mciUpdateIrq_settled (s := s) (t := t) (m := s.mem) (p := s.pdc .mci)
      (y := y.started v) (d := r.sd) (a := s.aic) (Aic.onlyLine_refl _ _)
      (by rw [← ht, frame, show s.setMem s.mem = s from rfl, State.setPdc_self]; rfl)
    refine ⟨t, row, ?_, fault.trans (State.ready_fault ready), ?_, ?_, ?_, ?_, follows⟩
    · rw [mci, Mci.started, size]
    · rw [mci, hy]; rfl
    · rw [mci]; rfl
    · rw [mci]; rfl
    · rw [mci]
      rw [show s.setMem s.mem = s from rfl, State.setPdc_self] at same
      exact same
  case read =>
    intro rem pos blk active
    have row := exec_of_ready ready (exec_mciRdrR s)
    refine ⟨?_, ?_, ?_⟩
    · intro n left more q
      subst left
      have count : (MciRemaining.bytes n).atMost 4 = 4 := by simp [MciRemaining.atMost]; omega
      have rest : (MciRemaining.bytes n).after 4 ≠ .bytes 0 := by simp [MciRemaining.after]; omega
      exact row.trans (congrArg _ (mciReadRdr_more active (by simp; omega) count rest rfl))
    · intro n left some_left last q
      subst left
      exact row.trans (congrArg _ (mciReadRdr_last active some_left last rfl))
    · intro endless q
      subst endless
      exact row.trans (congrArg _ (mciReadRdr_more active (by simp) rfl (by simp [MciRemaining.after]) rfl))
  case idleRead =>
    intro idle
    rw [exec_of_ready ready (exec_mciRdrR s), mciReadRdr]
    dsimp only
    cases xfer : s.mci.xfer with
    | idle => rfl
    | active dir rem pos blk =>
      cases dir with
      | read => exact absurd xfer (idle rem pos blk)
      | write => rfl
  case write =>
    intro v rem pos blk active boundary
    have row := exec_of_ready ready (exec_mciTdrW v s)
    have edge : (!x.pdcMode && crossesBlock pos 4 blk) = boundary := by
      simp only [crossesBlock, Mci.pdcMode, boundary, Bool.and_assoc, ge_iff_le]
    refine ⟨fun n left more => ?_, fun n left some_left last => ?_, fun endless => ?_⟩
    · subst left
      have count : (MciRemaining.bytes n).atMost 4 = 4 := by simp [MciRemaining.atMost]; omega
      have rest : (MciRemaining.bytes n).after 4 ≠ .bytes 0 := by simp [MciRemaining.after]; omega
      rw [← edge]
      exact row.trans (congrArg _ (mciWriteTdr_more v active count rest))
    · subst left
      exact row.trans (congrArg _ (mciWriteTdr_last v active last))
    · subst endless
      rw [← edge]
      exact row.trans (congrArg _ (mciWriteTdr_more v active rfl (by simp [MciRemaining.after])))
  case idleWrite =>
    intro v idle
    rw [exec_of_ready ready (exec_mciTdrW v s), mciWriteTdr]
    dsimp only
    cases xfer : s.mci.xfer with
    | idle => exact ⟨_, rfl, rfl⟩
    | active dir rem pos blk =>
      cases dir with
      | write => exact absurd xfer (idle rem pos blk)
      | read => exact ⟨_, rfl, rfl⟩

end Sys2Proof
end

section
/-! The transfers of the MCI by DMA (R495, R497, R504, R505). O45. -/

namespace Sys2Proof.Machine

/-! ### The bytes of the card -/

theorem sdRead_length (c : Fin 2) (n : Nat) (s : State) : (sdRead c n s).1.length = n := by
  induction n generalizing s with
  | zero => rfl
  | succ n ih => simp only [sdRead, List.length_cons, ih]

/-- Writes one after another are one write of all the bytes (R481). -/
theorem sdWrite_append (c : Fin 2) (as bs : List Byte) (s : State) :
    sdWrite c (as ++ bs) s = sdWrite c bs (sdWrite c as s) := by
  induction as generalizing s with
  | nil => rfl
  | cons a as ih => exact ih _

theorem foldl_sdWrite (c : Fin 2) (bufs : List (List Byte)) (s : State) :
    bufs.foldl (fun r b => sdWrite c b r) s = sdWrite c bufs.flatten s := by
  induction bufs generalizing s with
  | nil => rfl
  | cons b bufs ih => rw [List.foldl_cons, ih, List.flatten_cons, sdWrite_append]

/-- A read of the card does not depend on the MCI or a channel (R481). -/
theorem sdReadByte_congr {c : Fin 2} {s t : State} (sd : t.sd = s.sd) :
    (sdReadByte c t).1 = (sdReadByte c s).1 ∧ (sdReadByte c t).2.sd = (sdReadByte c s).2.sd := by
  unfold sdReadByte
  dsimp only
  rw [sd]
  split <;> simp [State.setSdCard, sd]

theorem sdRead_congr {c : Fin 2} {s t : State} (sd : t.sd = s.sd) (n : Nat) :
    (sdRead c n t).1 = (sdRead c n s).1 ∧ (sdRead c n t).2.sd = (sdRead c n s).2.sd := by
  induction n generalizing s t with
  | zero => exact ⟨rfl, sd⟩
  | succ n ih =>
    obtain ⟨first, later⟩ := sdReadByte_congr (c := c) sd
    obtain ⟨rest, last⟩ := ih later
    exact ⟨by simp only [sdRead, first, rest], last⟩

/-- A transmission of the MCI touches nothing but the SD bus (R504). -/
theorem quietSend_mci (c : Fin 2) : QuietSend .mci (sdWrite c) (fun _ => True) (fun _ => True) where
  setPdc {s b} y _ _ := by
    induction b generalizing s with
    | nil => rfl
    | cons b bs ih => exact ih (s := sdWriteByte c b s)
  pdc _ _ := by rw [sdWrite_frame]; rfl
  fault _ _ := by rw [sdWrite_frame]; rfl
  mem _ _ := by rw [sdWrite_frame]; rfl
  params _ _ := by rw [sdWrite_frame]; rfl
  bootTarget _ _ := by rw [sdWrite_frame]; rfl
  keeps _ _ := trivial

/-! ### What remains of a transfer -/

section

variable {x : Mci} {dir : MciDir} {pos blk n : Nat}

theorem Mci.advance_all (active : x.xfer = .active dir (.bytes n) pos blk) :
    x.advance n = { x with xfer := .idle, blke := true } :=
  Mci.advance_last n active (by rw [MciRemaining.after, Nat.sub_self])

theorem Mci.advance_part {r : Nat} (active : x.xfer = .active dir (.bytes r) pos blk) (more : n < r) :
    x.advance n = { x with xfer := .active dir (.bytes (r - n)) (blockPos pos n blk) blk } :=
  Mci.advance_more n active (fun none_left => by injection none_left; omega)

theorem Mci.advance_endless (active : x.xfer = .active dir .infinite pos blk) :
    x.advance n = { x with xfer := .active dir .infinite (blockPos pos n blk) blk } :=
  Mci.advance_more n active MciRemaining.noConfusion

end

/-! ### Starts that move nothing -/

section

variable {s : State} {rem : MciRemaining} {pos blk n : Nat}

theorem mciPdcRead_idle (idle : (∀ rem pos blk, s.mci.xfer ≠ .active .read rem pos blk) ∨ (s.pdc .mci).rxten = false) :
    mciPdcRead s = mciUpdateIrq s := by
  unfold mciPdcRead
  dsimp only
  cases xfer : s.mci.xfer with
  | idle => rfl
  | active dir rem pos blk =>
    cases dir with
    | write => rfl
    | read =>
      have unarmed : (s.pdc .mci).rxten = false := idle.resolve_left fun none_active => none_active rem pos blk xfer
      simp [Pdc.rxActive, unarmed]

theorem mciPdcWrite_idle (idle : (∀ rem pos blk, s.mci.xfer ≠ .active .write rem pos blk) ∨ (s.pdc .mci).txten = false) :
    mciPdcWrite s = mciUpdateIrq s := by
  unfold mciPdcWrite
  dsimp only
  cases xfer : s.mci.xfer with
  | idle => rfl
  | active dir rem pos blk =>
    cases dir with
    | read => rfl
    | write =>
      have unarmed : (s.pdc .mci).txten = false := idle.resolve_left fun none_active => none_active rem pos blk xfer
      simp [Pdc.txActive, unarmed]

/-- The units a transfer allows a channel with room for `room` (R495, R504). -/
def MciRemaining.allows (rem : MciRemaining) (w room : Nat) : Nat :=
  match rem with
  | .bytes r => min room (r / w)
  | .infinite => room

theorem MciRemaining.allows_eq {w room : Nat} (bytes : ∀ r, rem = .bytes r → n = min room (r / w))
    (endless : rem = .infinite → n = room) : n = rem.allows w room := by
  cases rem with
  | bytes r => exact bytes r rfl
  | infinite => exact endless rfl

theorem MciRemaining.allows_none_left (w room : Nat) : (MciRemaining.bytes 0).allows w room = 0 := by
  simp [MciRemaining.allows]

theorem MciRemaining.allows_no_room (rem : MciRemaining) (w : Nat) : rem.allows w 0 = 0 := by
  cases rem <;> simp [MciRemaining.allows]

theorem MciRemaining.allows_le (rem : MciRemaining) (w room : Nat) : rem.allows w room ≤ room := by
  cases rem with
  | bytes r => exact Nat.min_le_left _ _
  | infinite => exact le_rfl

/-- A receive start with a transfer active (R495). -/
theorem mciPdcRead_active (active : s.mci.xfer = .active .read rem pos blk) (armed : (s.pdc .mci).rxten = true)
    (hn : n = rem.allows s.mci.pdcUnit (s.pdc .mci).rxRoom) : mciPdcRead s =
      if n = 0 then mciUpdateIrq s else
        (pdcRx .mci s.mci.pdcUnit (groupsOf s.mci.pdcUnit n (sdRead s.mci.selectedCard (n * s.mci.pdcUnit) s).1)
          (sdRead s.mci.selectedCard (n * s.mci.pdcUnit) s).2).2.andThen fun t =>
            mciUpdateIrq (mciChange (Mci.advance (n * s.mci.pdcUnit)) t) := by
  have units : (match rem.units s.mci.pdcUnit with
      | some m => min ((s.pdc .mci).rcr.toNat + (s.pdc .mci).rncr.toNat) m
      | none => (s.pdc .mci).rcr.toNat + (s.pdc .mci).rncr.toNat) = n := by
    rw [hn]
    cases rem <;> rfl
  unfold mciPdcRead
  dsimp only
  rw [active]
  dsimp only
  by_cases starts : (rem.nonzero && (s.pdc .mci).rxActive) = true
  · rw [if_pos starts]
    exact congrArg (fun m => if m = 0 then mciUpdateIrq s else
      (pdcRx .mci s.mci.pdcUnit (groupsOf s.mci.pdcUnit m (sdRead s.mci.selectedCard (m * s.mci.pdcUnit) s).1)
        (sdRead s.mci.selectedCard (m * s.mci.pdcUnit) s).2).2.andThen fun t =>
          mciUpdateIrq (mciChange (Mci.advance (m * s.mci.pdcUnit)) t)) units
  · have nothing : n = 0 := by
      rw [Bool.and_eq_true, MciRemaining.nonzero_iff, rxActive_iff, not_and_or, not_not] at starts
      rcases starts with none_left | unarmed
      · rw [hn, none_left, MciRemaining.allows_none_left]
      · have no_room : (s.pdc .mci).rxRoom = 0 := by
          by_contra room
          exact unarmed ⟨armed, room⟩
        rw [hn, no_room, MciRemaining.allows_no_room]
    rw [if_neg starts, if_pos nothing]

/-- The units of whole groups (R386, R495). -/
theorem groupsOf_units {w : Nat} {bytes : List Byte} (pos : 0 < w) (length : bytes.length = n * w) :
    (groupsOf w n bytes).length = n ∧ ∀ u, u ∈ groupsOf w n bytes → u.length = w := by
  rw [groupsOf_eq pos n n bytes length le_rfl]
  refine ⟨by rw [List.length_map, List.length_range], fun u member => ?_⟩
  obtain ⟨i, range, rfl⟩ := List.mem_map.1 member
  have reach : i * w + w ≤ n * w := by
    rw [← Nat.succ_mul]; exact Nat.mul_le_mul_right w (List.mem_range.1 range)
  rw [List.length_take, List.length_drop, length]
  omega

/-- What a receive transfer of the MCI leaves (R270, R495). -/
theorem mciPdcRead_received (live : s.fault = none) (active : s.mci.xfer = .active .read rem pos blk)
    (armed : (s.pdc .mci).rxten = true) (hn : n = rem.allows s.mci.pdcUnit (s.pdc .mci).rxRoom) (some_units : n ≠ 0)
    (ok : s.receiveBuffersOk .mci s.mci.pdcUnit n = true) : ∃ d a, Aic.onlyLine (hostLine .mci) s.aic a
      ∧ d.cards = (sdRead s.mci.selectedCard (n * s.mci.pdcUnit) s).2.sd.cards
      ∧ mciPdcRead s = mciUpdateIrq (((((s.setMem (s.storeReceived .mci
          (groupsOf s.mci.pdcUnit n (sdRead s.mci.selectedCard (n * s.mci.pdcUnit) s).1)).mem).setPdc .mci
            ((s.pdc .mci).afterReceive s.mci.pdcUnit n)).setMci (s.mci.advance (n * s.mci.pdcUnit))).setSd d).setAic a) := by
  obtain ⟨w, hw⟩ : ∃ w, w = s.mci.pdcUnit := ⟨_, rfl⟩
  have pos_w : 0 < w := by rw [hw, Mci.pdcUnit]; split <;> decide
  have row := mciPdcRead_active active armed hn
  rw [← hw] at row hn ok ⊢
  have within : n ≤ (s.pdc .mci).rxRoom := hn.le.trans (MciRemaining.allows_le _ _ _)
  have length := sdRead_length s.mci.selectedCard (n * w) s
  have frame := sdRead_frame s.mci.selectedCard (n * w) s
  generalize sdRead s.mci.selectedCard (n * w) s = q at *
  obtain ⟨bytes, r⟩ := q
  dsimp only at row length frame ⊢
  obtain ⟨count, sized⟩ := groupsOf_units pos_w length
  have pdc : r.pdc .mci = s.pdc .mci := by rw [frame]; rfl
  have all : min (groupsOf w n bytes).length (r.pdc .mci).rxRoom = n := by rw [count, pdc]; omega
  have stored := pdcRx_of_receiveBuffersOk (s := r) (h := .mci) (unit := w) (us := groupsOf w n bytes)
    (by rw [frame]; exact live) sized (by rw [pdc]; omega)
    (by rw [all]; exact (State.receiveBuffersOk_congr (s := s) (by rw [frame]; rfl) (by rw [frame]; rfl) pdc _ _).trans ok)
  rw [all, List.take_of_length_le count.le, pdc] at stored
  have mem : (r.storeReceived .mci (groupsOf w n bytes)).mem = (s.storeReceived .mci (groupsOf w n bytes)).mem :=
    State.storeReceived_mem_congr (by rw [frame]; rfl) (by rw [frame]; rfl) pdc _
  rw [row, if_neg some_units, stored, State.storeReceived_eq, mem]
  generalize (s.storeReceived .mci (groupsOf w n bytes)).mem = m
  have line := pdcUpdateIrq_onlyLine .mci ((r.setMem m).setPdc .mci ((s.pdc .mci).afterReceive w n))
  have moved : pdcUpdateIrq .mci ((r.setMem m).setPdc .mci ((s.pdc .mci).afterReceive w n))
      = mciUpdateIrq ((r.setMem m).setPdc .mci ((s.pdc .mci).afterReceive w n)) := rfl
  rw [moved] at line ⊢
  have cards := mciUpdateIrq_cards ((r.setMem m).setPdc .mci ((s.pdc .mci).afterReceive w n))
  have settled := mciUpdateIrq_frame ((r.setMem m).setPdc .mci ((s.pdc .mci).afterReceive w n))
  generalize mciUpdateIrq ((r.setMem m).setPdc .mci ((s.pdc .mci).afterReceive w n)) = t at line cards settled ⊢
  refine ⟨t.sd, t.aic, ?_, cards, ?_⟩
  · rw [frame] at line; exact line
  · rw [State.andThen_live _ (by rw [settled, frame]; exact live), mciChange]
    congr 1
    rw [settled, frame]
    rfl

/-- The groups of a buffer, one after another, are the buffer. -/
theorem groupsOf_flatten {w : Nat} (n : Nat) (bytes : List Byte) (fits : bytes.length ≤ n * w) :
    (groupsOf w n bytes).flatten = bytes := by
  induction n generalizing bytes with
  | zero =>
    have empty : bytes = [] := List.eq_nil_of_length_eq_zero (by omega)
    rw [empty]; rfl
  | succ n ih =>
    cases bytes with
    | nil => rfl
    | cons b bs =>
      have rest := ih ((b :: bs).drop w) (by rw [List.length_drop]; rw [Nat.succ_mul] at fits; omega)
      rw [groupsOf, List.flatten_cons, rest, List.take_append_drop]

/-- A receive transfer that fills its one buffer and ends with it, and the recomputation after it (R263, R495). -/
theorem mciPdcRead_exact {p : Pdc} {w : Nat} (hp : s.pdc .mci = p) (hw : s.mci.pdcUnit = w) (live : s.fault = none)
    (active : s.mci.xfer = .active .read (.bytes (p.rcr.toNat * w)) pos blk) (armed : p.rxten = true)
    (count : p.rcr ≠ 0#16) (single : p.rncr = 0#16) (ok : s.writableBuffer p.rpr (p.rcr.toNat * w) = true)
    {q : List Byte × State} (bytes : q = sdRead s.mci.selectedCard (p.rcr.toNat * w) s) :
    ∃ d a, Aic.onlyLine (hostLine .mci) s.aic a ∧ d.cards = q.2.sd.cards
      ∧ (mciPdcRead s).andThen mciUpdateIrq = mciUpdateIrq (((((s.setMem (s.storeBytes p.rpr q.1).mem).setPdc .mci
          { p with rpr := p.rpr + BitVec.ofNat 32 (p.rcr.toNat * w), rcr := 0#16, endrx := true, rxbuff := true }).setMci
            { s.mci with xfer := .idle, blke := true }).setSd d).setAic a) := by
  subst bytes
  have positive := count_pos_iff.1 count
  have pos_w : 0 < w := by rw [← hw, Mci.pdcUnit]; split <;> decide
  have current : p.rxCurrent = p := if_neg count
  have room : p.rxRoom = p.rcr.toNat := by simp [Pdc.rxRoom, single]
  have allowed : p.rcr.toNat = (MciRemaining.bytes (p.rcr.toNat * w)).allows w p.rxRoom := by
    rw [MciRemaining.allows, room, Nat.mul_div_cancel _ pos_w, Nat.min_self]
  have buffers : s.receiveBuffersOk .mci w p.rcr.toNat = true := by
    have rest : s.writableBuffer p.rnpr (0 * w) = true := by simp [State.writableBuffer, State.dmaAll]
    simp only [State.receiveBuffersOk, hp, current, Nat.min_self, Nat.sub_self, ok, rest, Bool.and_self]
  obtain ⟨d, a, line, cards, received⟩ := mciPdcRead_received live active (hp.symm ▸ armed) (n := p.rcr.toNat)
    (by rw [hp, hw]; exact allowed) positive.ne' (hw.symm ▸ buffers)
  have length := sdRead_length s.mci.selectedCard (p.rcr.toNat * w) s
  have stored : (s.storeReceived .mci (groupsOf w p.rcr.toNat (sdRead s.mci.selectedCard (p.rcr.toNat * w) s).1)).mem
      = (s.storeBytes p.rpr (sdRead s.mci.selectedCard (p.rcr.toNat * w) s).1).mem := by
    rw [storeReceived_current hp current (groupsOf_units pos_w length).1.le,
      groupsOf_flatten _ _ length.le]
  have filled : p.afterReceive w p.rcr.toNat = { p with
      rpr := p.rpr + BitVec.ofNat 32 (p.rcr.toNat * w), rcr := 0#16, endrx := true, rxbuff := true } := by
    simp [Pdc.afterReceive, current, single, armed]
  rw [hp, hw, stored, filled, Mci.advance_all active] at received
  rw [hw] at cards
  generalize ht : ((((s.setMem _).setPdc .mci _).setMci _).setSd d).setAic a = t at received
  have settled := mciUpdateIrq_frame t
  have line1 := pdcUpdateIrq_onlyLine .mci t
  have cards1 := mciUpdateIrq_cards t
  rw [show pdcUpdateIrq .mci t = mciUpdateIrq t from rfl] at line1
  refine ⟨(mciUpdateIrq t).sd, (mciUpdateIrq t).aic, Aic.onlyLine_trans (b := t.aic) ?_ line1, ?_, ?_⟩
  · rw [← ht]; exact line
  · rw [cards1, ← ht]; exact cards
  · rw [received, State.andThen_live _ (by rw [mciUpdateIrq_fault, ← ht]; exact live)]
    exact congrArg mciUpdateIrq (settled.trans (by rw [← ht]; rfl))

/-- What stood in the channel, the MCI and the card before is written over. -/
theorem State.mciOver (s : State) (m : List Host.Cell) (p p' : Pdc) (x x' : Mci) (d d' : SdBus) (a : Aic) :
    ((((((((s.setPdc .mci p).setMci x).setSd d).setMem m).setPdc .mci p').setMci x').setSd d').setAic a)
      = ((((s.setMem m).setPdc .mci p').setMci x').setSd d').setAic a := by
  have replaced : ((((s.setPdc .mci p).setMci x).setSd d).setMem m).setPdc .mci p'
      = (((s.setMem m).setPdc .mci p').setMci x).setSd d := by
    rw [← State.setPdc_setPdc (s.setMem m) .mci p p']
    rfl
  rw [replaced]
  rfl

/-- The same, with what it leaves of a machine whose channel, MCI and card stand ready for it (R486, R778). -/
theorem mciPdcRead_exact_settled {s r t u : State} {p : Pdc} {x : Mci} {d : SdBus} {w n : Nat} {q : List Byte × State}
    (start : r = ((s.setPdc .mci p).setMci x).setSd d) (hw : x.pdcUnit = w) (hn : p.rcr.toNat * w = n)
    (live : s.fault = none) (active : x.xfer = .active .read (.bytes n) pos blk) (armed : p.rxten = true)
    (count : p.rcr ≠ 0#16) (single : p.rncr = 0#16) (ok : s.writableBuffer p.rpr n = true) (card : u.sd = d)
    (bytes : q = sdRead x.selectedCard n u) (ht : t = (mciPdcRead r).andThen mciUpdateIrq) :
    t.fault = none ∧ t.mem = (s.storeBytes p.rpr q.1).mem
      ∧ t.pdc .mci = { p with rpr := p.rpr + BitVec.ofNat 32 n, rcr := 0#16, endrx := true, rxbuff := true }
      ∧ t.mci = { x with xfer := .idle, blke := true } ∧ t.sd.cards = q.2.sd.cards
      ∧ t = ((((s.setMem t.mem).setPdc .mci (t.pdc .mci)).setMci t.mci).setSd t.sd).setAic t.aic
      ∧ irqFollows .mci s t := by
  subst hn bytes card
  have mci : r.mci = x := by rw [start]; rfl
  have pdc : r.pdc .mci = p := by rw [start]; exact State.setPdc_pdc_same s .mci p
  have params : r.params = s.params := by rw [start]; rfl
  have writable : r.writableBuffer p.rpr (p.rcr.toNat * w) = true := by
    rw [← ok, State.writableBuffer_eq, State.writableBuffer_eq, params]
    exact State.dmaAll_congr (s := s) (t := r) (by rw [start]; rfl) _ _ _
  obtain ⟨first, last⟩ := sdRead_congr (c := x.selectedCard) (s := u) (t := r) (by rw [start]; rfl) (p.rcr.toNat * w)
  obtain ⟨d, a, line, cards, received⟩ := mciPdcRead_exact pdc (mci.symm ▸ hw) (by rw [start]; exact live)
    (by rw [mci]; exact active) armed count single writable rfl
  have mem : (r.storeBytes p.rpr (sdRead x.selectedCard (p.rcr.toNat * w) r).1).mem
      = (s.storeBytes p.rpr (sdRead x.selectedCard (p.rcr.toNat * w) u).1).mem := by
    rw [first]
    exact State.storeBytes_mem_congr (s := s) (t := r) (by rw [start]; rfl) (by rw [start]; rfl) _ _
  rw [received, mci, mem] at ht
  rw [mci, last] at cards
  obtain ⟨fault, mem, pdc, mci, cards1, frame, follows⟩ := mciUpdateIrq_settled (s := s) (t := t) (d := d) (a := a)
    (by rw [start] at line; exact line) (ht.trans (congrArg mciUpdateIrq (by
      rw [start, State.mciOver])))
  refine ⟨fault.trans live, mem, pdc, mci, cards1.trans cards, ?_, follows⟩
  rw [mem, pdc, mci]
  exact frame

/-- A receive transfer of the MCI whose buffers may not be written (R273). -/
theorem mciPdcRead_abort (live : s.fault = none) (active : s.mci.xfer = .active .read rem pos blk)
    (armed : (s.pdc .mci).rxten = true) (hn : n = rem.allows s.mci.pdcUnit (s.pdc .mci).rxRoom) (some_units : n ≠ 0)
    (bad : s.receiveBuffersOk .mci s.mci.pdcUnit n = false) : ∃ a e, (mciPdcRead s).fault = some (.dma .mci a e) := by
  obtain ⟨w, hw⟩ : ∃ w, w = s.mci.pdcUnit := ⟨_, rfl⟩
  have pos_w : 0 < w := by rw [hw, Mci.pdcUnit]; split <;> decide
  have row := mciPdcRead_active active armed hn
  rw [← hw] at row hn bad
  have within : n ≤ (s.pdc .mci).rxRoom := hn.le.trans (MciRemaining.allows_le _ _ _)
  have length := sdRead_length s.mci.selectedCard (n * w) s
  have frame := sdRead_frame s.mci.selectedCard (n * w) s
  generalize sdRead s.mci.selectedCard (n * w) s = q at *
  obtain ⟨bytes, r⟩ := q
  dsimp only at row length frame
  obtain ⟨count, sized⟩ := groupsOf_units pos_w length
  have pdc : r.pdc .mci = s.pdc .mci := by rw [frame]; rfl
  obtain ⟨e, aborts⟩ := pdcRx_of_not_receiveBuffersOk (s := r) (h := .mci) (unit := w) (us := groupsOf w n bytes)
    (by rw [frame]; exact live) sized (by rw [pdc]; omega) (n := n) (by rw [count, pdc]; omega)
    ((State.receiveBuffersOk_congr (s := s) (by rw [frame]; rfl) (by rw [frame]; rfl) pdc _ _).trans bad)
  rw [row, if_neg some_units, State.andThen_aborted _ (by rw [aborts]; rfl), aborts]
  exact ⟨_, _, rfl⟩

theorem MciRemaining.allows_eq_withinLimit (rem : MciRemaining) (w count : Nat) :
    rem.allows w count = withinLimit (rem.units w) count := by
  cases rem <;> rfl

/-- A transmit start with a transfer active (R504). -/
theorem mciPdcWrite_active (active : s.mci.xfer = .active .write rem pos blk) (armed : (s.pdc .mci).txten = true)
    (left : rem ≠ .bytes 0) (count : (s.pdc .mci).txCount ≠ 0) : mciPdcWrite s =
      (pdcTx .mci s.mci.pdcUnit (sdWrite s.mci.selectedCard) (rem.units s.mci.pdcUnit) s).2.andThen fun t =>
        mciUpdateIrq (mciChange (Mci.advance
          (pdcTx .mci s.mci.pdcUnit (sdWrite s.mci.selectedCard) (rem.units s.mci.pdcUnit) s).1) t) := by
  have starts : (rem.nonzero && (s.pdc .mci).txActive) = true := by
    rw [Bool.and_eq_true, MciRemaining.nonzero_iff, txActive_iff]
    exact ⟨left, armed, count⟩
  unfold mciPdcWrite
  dsimp only
  rw [active]
  dsimp only
  rw [if_pos starts]

/-- A transmit start with nothing to send or nowhere to send it (R504). -/
theorem mciPdcWrite_nothing (active : s.mci.xfer = .active .write rem pos blk)
    (nothing : (s.pdc .mci).txCount = 0 ∨ rem = .bytes 0) : mciPdcWrite s = mciUpdateIrq s := by
  have idle : (rem.nonzero && (s.pdc .mci).txActive) ≠ true := by
    rw [Ne, Bool.and_eq_true, MciRemaining.nonzero_iff, txActive_iff]
    rintro ⟨left, -, count⟩
    exact nothing.elim count left
  unfold mciPdcWrite
  dsimp only
  rw [active]
  dsimp only
  rw [if_neg idle]

/-- A transfer that allows a unit has bytes left and a channel with something to send (R504). -/
theorem MciRemaining.of_allows {w count : Nat} (some_units : rem.allows w count ≠ 0) :
    rem ≠ .bytes 0 ∧ count ≠ 0 ∧ rem.units w ≠ some 0 := by
  refine ⟨?_, ?_, ?_⟩
  · rintro rfl
    exact some_units (MciRemaining.allows_none_left _ _)
  · rintro rfl
    exact some_units (MciRemaining.allows_no_room _ _)
  · intro no_unit
    rw [MciRemaining.allows_eq_withinLimit, no_unit] at some_units
    simp [withinLimit] at some_units

/-- What a transmit transfer of the MCI leaves (R272, R504). -/
theorem mciPdcWrite_sent (live : s.fault = none) (active : s.mci.xfer = .active .write rem pos blk)
    (armed : (s.pdc .mci).txten = true) (hn : n = rem.allows s.mci.pdcUnit (s.pdc .mci).txCount) (some_units : n ≠ 0)
    (ok : s.sendBuffersOk .mci s.mci.pdcUnit n = true) : ∃ d a, Aic.onlyLine (hostLine .mci) s.aic a
      ∧ d.cards = (sdWrite s.mci.selectedCard (s.sentBuffers .mci s.mci.pdcUnit n).flatten s).sd.cards
      ∧ mciPdcWrite s = mciUpdateIrq (((((s.setMem s.mem).setPdc .mci
            ((s.pdc .mci).afterSend s.mci.pdcUnit n)).setMci (s.mci.advance (n * s.mci.pdcUnit))).setSd d).setAic a) := by
  obtain ⟨left, count, unit_left⟩ := MciRemaining.of_allows (hn ▸ some_units)
  rw [mciPdcWrite_active active armed left count]
  rw [MciRemaining.allows_eq_withinLimit] at hn
  subst hn
  rw [pdcTx_of_sendBuffersOk (quietSend_mci s.mci.selectedCard) trivial live count unit_left ok fun _ _ => trivial,
    foldl_sdWrite]
  generalize withinLimit (rem.units s.mci.pdcUnit) (s.pdc .mci).txCount = n at *
  have frame := sdWrite_frame s.mci.selectedCard (s.sentBuffers .mci s.mci.pdcUnit n).flatten s
  generalize sdWrite s.mci.selectedCard (s.sentBuffers .mci s.mci.pdcUnit n).flatten s = r at *
  have line := pdcUpdateIrq_onlyLine .mci (r.setPdc .mci ((s.pdc .mci).afterSend s.mci.pdcUnit n))
  have moved : pdcUpdateIrq .mci (r.setPdc .mci ((s.pdc .mci).afterSend s.mci.pdcUnit n))
      = mciUpdateIrq (r.setPdc .mci ((s.pdc .mci).afterSend s.mci.pdcUnit n)) := rfl
  rw [moved] at line ⊢
  have cards := mciUpdateIrq_cards (r.setPdc .mci ((s.pdc .mci).afterSend s.mci.pdcUnit n))
  have settled := mciUpdateIrq_frame (r.setPdc .mci ((s.pdc .mci).afterSend s.mci.pdcUnit n))
  generalize mciUpdateIrq (r.setPdc .mci ((s.pdc .mci).afterSend s.mci.pdcUnit n)) = t at line cards settled ⊢
  refine ⟨t.sd, t.aic, ?_, cards, ?_⟩
  · rw [frame] at line; exact line
  · rw [State.andThen_live _ (by rw [settled, frame]; exact live), mciChange]
    congr 1
    rw [settled, frame]
    rfl

/-- A transmit transfer of the MCI whose buffers may not be read (R273). -/
theorem mciPdcWrite_abort (live : s.fault = none) (active : s.mci.xfer = .active .write rem pos blk)
    (armed : (s.pdc .mci).txten = true) (hn : n = rem.allows s.mci.pdcUnit (s.pdc .mci).txCount) (some_units : n ≠ 0)
    (bad : s.sendBuffersOk .mci s.mci.pdcUnit n = false) :
    ∃ a, (mciPdcWrite s).fault = some (.dma .mci a .notMemory) := by
  obtain ⟨left, count, unit_left⟩ := MciRemaining.of_allows (hn ▸ some_units)
  rw [mciPdcWrite_active active armed left count]
  rw [MciRemaining.allows_eq_withinLimit] at hn
  subst hn
  have aborts := pdcTx_of_not_sendBuffersOk (quietSend_mci s.mci.selectedCard) trivial live count unit_left bad
    fun _ _ => trivial
  rw [State.andThen_aborted _ (by rw [aborts]; rfl), aborts]
  exact ⟨_, rfl⟩

/-- A transmit start of a transfer with less than a unit left (R504, log entry 16). -/
theorem mciPdcWrite_no_unit (live : s.fault = none) (active : s.mci.xfer = .active .write rem pos blk)
    (armed : (s.pdc .mci).txten = true) (left : rem ≠ .bytes 0) (count : (s.pdc .mci).txCount ≠ 0)
    (none_allowed : rem.allows s.mci.pdcUnit (s.pdc .mci).txCount = 0) :
    mciPdcWrite s = mciUpdateIrq (mciUpdateIrq (s.setPdc .mci { s.pdc .mci with txbufe := false })) := by
  have no_unit : rem.units s.mci.pdcUnit = some 0 := by
    cases rem with
    | infinite => exact absurd none_allowed count
    | bytes r =>
      simp only [MciRemaining.allows, Nat.min_eq_zero_iff] at none_allowed
      simp only [MciRemaining.units, none_allowed.resolve_left count]
  have not_sent : (s.pdc .mci).withTxbufe = { s.pdc .mci with txbufe := false } := by
    have some_count : ¬((s.pdc .mci).tcr = 0#16 ∧ (s.pdc .mci).tncr = 0#16) := by
      rintro ⟨none_now, none_next⟩
      exact count (by rw [Pdc.txCount, none_now, none_next]; rfl)
    have both : (decide ((s.pdc .mci).tcr = 0#16) && decide ((s.pdc .mci).tncr = 0#16)) = false := by
      rw [← Bool.decide_and, decide_eq_false some_count]
    rw [Pdc.withTxbufe, both, Bool.false_and]
  have transfer : pdcTx .mci s.mci.pdcUnit (sdWrite s.mci.selectedCard) (some 0) s
      = (0, mciUpdateIrq (s.setPdc .mci { s.pdc .mci with txbufe := false })) := by
    rw [pdcTx, pdcTxRounds_limit 2 0, ← not_sent]
    simp only [State.andThen_live _ live]
    rfl
  have kept : s.mci.advance 0 = s.mci := by
    have same : rem.after 0 = rem := by cases rem <;> rfl
    rw [Mci.advance_more 0 active (by rw [same]; exact left), same]
    simp only [blockPos, true_or, if_true, Nat.add_zero, ← active]
  rw [mciPdcWrite_active active armed left count, no_unit, transfer, State.andThen_live _ (by simpa using live), mciChange,
    mciUpdateIrq_mci, State.setPdc_mci, kept]
  have settled := State.setMci_self (mciUpdateIrq (s.setPdc .mci { s.pdc .mci with txbufe := false }))
  rw [mciUpdateIrq_mci, State.setPdc_mci] at settled
  exact congrArg mciUpdateIrq settled

end

end Sys2Proof.Machine

namespace Sys2Proof

open Machine

/-- Settles O45: both directions by how many units may move, then the two writes that start a read. -/
theorem mciPdcTransfers : Obligations.MciPdcTransfers := by
  refine ⟨?read, ?write, ?idle, ?count, ?command⟩
  case read =>
    intro s rem pos blk n x p w q t live active armed bytes endless
    have hn : n = rem.allows x.pdcUnit p.rxRoom := MciRemaining.allows_eq bytes endless
    refine ⟨fun some_units ok => ?received, mciPdcRead_abort live active armed hn, fun none_allowed => ?nothing⟩
    case received =>
      obtain ⟨d, a, line, cards, received⟩ := mciPdcRead_received live active armed hn some_units ok
      obtain ⟨fault, mem, pdc, mci, cards1, frame, follows⟩ := mciUpdateIrq_settled (t := t) line received
      refine ⟨fault.trans live, mem, pdc, fun last => ?_, fun r left more => ?_, fun no_end => ?_, cards1.trans cards, ?_,
        follows⟩
      · subst last; exact mci.trans (Mci.advance_all active)
      · subst left; exact mci.trans (Mci.advance_part active more)
      · subst no_end; exact mci.trans (Mci.advance_endless active)
      · rw [mem, pdc, mci]; exact frame
    case nothing =>
      have idle : t = mciUpdateIrq s := (mciPdcRead_active active armed hn).trans (if_pos none_allowed)
      exact ⟨idle, idle ▸ irqFollows_pdcUpdateIrq .mci s⟩
  case write =>
    intro s rem pos blk n x p w t live active armed bytes endless
    have hn : n = rem.allows x.pdcUnit p.txCount := MciRemaining.allows_eq bytes endless
    refine ⟨fun some_units ok => ?sent, mciPdcWrite_abort live active armed hn, fun _ nothing => ?nothing,
      fun none_allowed count left => ?noUnit⟩
    case sent =>
      obtain ⟨d, a, line, cards, sent⟩ := mciPdcWrite_sent live active armed hn some_units ok
      obtain ⟨fault, -, pdc, mci, cards1, frame, follows⟩ := mciUpdateIrq_settled (t := t) line sent
      refine ⟨fault.trans live, pdc, fun last => ?_, fun r left more => ?_, fun no_end => ?_, cards1.trans cards, ?_, follows⟩
      · subst last; exact mci.trans (Mci.advance_all active)
      · subst left; exact mci.trans (Mci.advance_part active more)
      · subst no_end; exact mci.trans (Mci.advance_endless active)
      · rw [pdc, mci]; exact frame
    case nothing =>
      have idle : t = mciUpdateIrq s := mciPdcWrite_nothing active nothing
      exact ⟨idle, idle ▸ irqFollows_pdcUpdateIrq .mci s⟩
    case noUnit =>
      have done : t = mciUpdateIrq (mciUpdateIrq (s.setPdc .mci { p with txbufe := false })) :=
        mciPdcWrite_no_unit live active armed left count (hn ▸ none_allowed)
      refine ⟨done, ?_⟩
      rw [done]
      exact irqFollows_of_onlyLine (h := .mci)
        (pdcUpdateIrq_onlyLine .mci (s.setPdc .mci { p with txbufe := false }))
  case idle =>
    intro s
    exact ⟨fun idle => by
      rw [show pdcRxStart .mci s = mciUpdateIrq s from mciPdcRead_idle idle]
      exact ⟨rfl, irqFollows_pdcUpdateIrq .mci s⟩, fun idle => by
      rw [show pdcTxStart .mci s = mciUpdateIrq s from mciPdcWrite_idle idle]
      exact ⟨rfl, irqFollows_pdcUpdateIrq .mci s⟩⟩
  case count =>
    intro s v pos blk x p n w q ready active armed single count ok
    have live := State.ready_fault ready
    obtain ⟨r, hr⟩ : ∃ r : Pdc, r = { p with rcr := n, endrx := false, rxbuff := false } := ⟨_, rfl⟩
    have row : exec (.pdcRcrW .mci v) s = .next ((mciPdcRead (s.setPdc .mci r)).andThen mciUpdateIrq) := by
      rw [exec_of_ready ready (exec_pdcRcrW .mci v s), pdcWriteRcr_start armed count, hr]
      rfl
    obtain ⟨t, ht⟩ : ∃ t, t = (mciPdcRead (s.setPdc .mci r)).andThen mciUpdateIrq := ⟨_, rfl⟩
    have settled := mciPdcRead_exact_settled (s := s) (u := s) (p := r) (x := x) (d := s.sd) (n := n.toNat * w) (q := q)
      rfl (show x.pdcUnit = w from rfl) (by rw [hr]) live active (by rw [hr]; exact armed) (by rw [hr]; exact count)
      (by rw [hr]; exact single) (by rw [hr]; exact ok) rfl rfl ht
    rw [hr] at settled
    exact ⟨t, row.trans (congrArg _ ht.symm), settled⟩
  case command =>
    intro s v b0 b1 b2 b3 rs x p len q ready rsptyp start single read pdcMode words nonempty fits armed one scripted ok
    have live := State.ready_fault ready
    obtain ⟨r, hr⟩ : ∃ r, r = (sdCommand x.selectedCard (v.extractLsb 5 0) x.argr s).2 := ⟨_, rfl⟩
    obtain ⟨y, hy⟩ : ∃ y, y = x.answered b0 b1 b2 b3 := ⟨_, rfl⟩
    have frame : r = s.setSd r.sd := by rw [hr]; exact sdCommand_frame ..
    have size : y.transferSize (field v 21 19) = (.bytes len, len) := by rw [single, hy]; rfl
    have some_bytes : MciRemaining.bytes len ≠ .bytes 0 := fun empty => nonempty (BitVec.eq_of_toNat_eq (by
      injection empty))
    have aligned : y.misfit v = false := by
      rw [Mci.misfit, size, fits]
      simp
    have row : exec (.mciCmdrW v) s
        = .next ((mciPdcRead (r.setMci (y.started v))).andThen mciUpdateIrq) := by
      rw [exec_of_ready ready (exec_mciCmdrW v s), mciWriteCmdr_single rsptyp start single scripted, ← hr, ← hy,
        mciStartTransfer_pdc (by rw [State.setMci_mci, hy]; exact pdcMode) (by rw [State.setMci_mci]; exact aligned)
          (by rw [State.setMci_mci, size]; exact some_bytes), if_pos read, State.setMci_mci, State.setMci_setMci]
      rfl
    obtain ⟨t, ht⟩ : ∃ t, t = (mciPdcRead (r.setMci (y.started v))).andThen mciUpdateIrq := ⟨_, rfl⟩
    have count : p.rcr ≠ 0#16 := by
      intro none
      rw [none] at fits
      exact some_bytes (congrArg _ fits)
    obtain ⟨fault, mem, pdc, mci, rest⟩ := mciPdcRead_exact_settled (s := s) (u := r) (p := p) (x := y.started v)
      (d := r.sd) (n := len) (w := 4) (q := q)
      (by rw [State.setPdc_self, frame]; rfl) (by rw [hy]; exact if_neg (Bool.eq_false_iff.1 words)) (by rw [fits, Nat.mul_comm]) live
      (by rw [Mci.started, size, read]; rfl) armed count one ok rfl (by rw [hr, hy]; rfl) ht
    refine ⟨t, row.trans (congrArg _ ht.symm), fault, mem, pdc, ?_, ?_, ?_, ?_, rest⟩
    all_goals rw [mci]
    · rw [hy]; rfl
    · rw [hy]; exact Vector.getElem_set_self ..

end Sys2Proof
end

section
/-! The timers: the registers of the TC channels, the PIT and the RTT, and their ticks (R550 to R595). -/

namespace Sys2Proof.Machine

/-! ### The control register and the block synchronisation -/

/-- The actions of `CCR` taken together (R552). -/
theorem TcChannel.control_eq (v : Word) (x : TcChannel) : x.control v =
    if bit v 2 && ((x.clkEnabled || bit v 0) && !bit v 1) then
      { x with clkEnabled := true, running := true, cv := 0, down := false }
    else { x with clkEnabled := (x.clkEnabled || bit v 0) && !bit v 1, running := x.running && !bit v 1 } := by
  have on (y : TcChannel) : (if bit v 0 && !bit v 1 then { y with clkEnabled := true } else y)
      = { y with clkEnabled := y.clkEnabled || (bit v 0 && !bit v 1) } := by cases bit v 0 && !bit v 1 <;> simp
  have off (y : TcChannel) : (if bit v 1 then { y with clkEnabled := false, running := false } else y)
      = { y with clkEnabled := y.clkEnabled && !bit v 1, running := y.running && !bit v 1 } := by cases bit v 1 <;> simp
  have enabled : ((x.clkEnabled || (bit v 0 && !bit v 1)) && !bit v 1) = ((x.clkEnabled || bit v 0) && !bit v 1) := by
    cases bit v 1 <;> simp
  unfold TcChannel.control
  extract_lets a b
  rw [show b = _ from off a, show a = _ from on x]
  simp only [enabled, TcChannel.trigger]
  split
  next start => rw [(Bool.and_eq_true_iff.1 start).2]
  next => rfl

/-- What a block's synchronisation does to one of its channels (R558). -/
def TcChannel.synced (x : TcChannel) : TcChannel := if x.clkEnabled then x.trigger else x

theorem tcSyncChannel_eq (c : Fin 6) (s : State) : tcSyncChannel c s = s.setTc c (s.tc c).synced := by
  unfold tcSyncChannel TcChannel.synced
  split
  · rfl
  · exact (State.setTc_self s c).symm

theorem State.setTc_tc (s : State) (i j : Fin 6) (y : TcChannel) :
    (s.setTc i y).tc j = if j = i then y else s.tc j := by
  split
  next same => rw [same, State.setTc_tc_same]
  next other => exact State.setTc_tc_ne s i j y other

/-- A write of `BCR` that synchronises triggers the channels of its block whose clock is on (R558). -/
theorem tcbWriteBcr_tc {b : Fin 2} {v : Word} (s : State) (sync : bit v 0 = true) (j : Fin 6) :
    (tcbWriteBcr b v s).tc j = if j.val / 3 = b.val then (s.tc j).synced else s.tc j := by
  unfold tcbWriteBcr
  rw [if_pos sync, tcSyncChannel_eq, tcSyncChannel_eq, tcSyncChannel_eq]
  simp only [State.setTc_tc]
  fin_cases b <;> fin_cases j <;> rfl

theorem tcbWriteBcr_frame (b : Fin 2) (v : Word) (s : State) :
    tcbWriteBcr b v s = { s with tcs := (tcbWriteBcr b v s).tcs } := by
  unfold tcbWriteBcr
  split
  · rw [tcSyncChannel_eq, tcSyncChannel_eq, tcSyncChannel_eq]; rfl
  · rfl

/-! ### A tick of a channel -/

/-- The latch that the event `i` sets (R560). -/
def tcLatchBit (i : Nat) (on : Bool) : BitVec 8 := if on then 1#8 <<< i else 0#8

theorem tcLatchBit_getLsbD {i j : Nat} (on : Bool) (hi : i < 8) : (tcLatchBit i on).getLsbD j = (on && decide (j = i)) := by
  unfold tcLatchBit
  cases on
  · simp
  · by_cases same : j = i
    · subst same; simp [hi]
    · by_cases above : i ≤ j
      · simp [same, Nat.sub_eq_zero_iff_le]; omega
      · simp [same]; omega

theorem TcChannel.latch_eq (i : Nat) (on : Bool) (x : TcChannel) :
    x.latch i on = { x with latches := x.latches ||| tcLatchBit i on } := by
  cases on <;> simp [TcChannel.latch, tcLatchBit]

/-- The triangular shapes (R560). -/
def TcChannel.triangle (x : TcChannel) : Bool := x.wave && (decide (x.wavsel = 1) || decide (x.wavsel = 3))

/-- The count of a tick, before the compares (R560). -/
def TcChannel.count (x : TcChannel) : TcChannel := if x.triangle then x.countTriangle else x.countSawtooth

theorem TcChannel.tick_eq (x : TcChannel) : x.tick = x.count.compare := rfl

/-- The compares (R560), in one record. -/
theorem TcChannel.compare_eq (x : TcChannel) : x.compare = { x with
    latches := x.latches ||| tcLatchBit 2 (x.wave && decide (x.cv = x.ra))
      ||| tcLatchBit 3 (x.wave && decide (x.cv = x.rb)) ||| tcLatchBit 4 (decide (x.cv = x.rc))
    running := x.running && !(decide (x.cv = x.rc) && x.wave && (bit x.cmr 6 || bit x.cmr 7))
    clkEnabled := x.clkEnabled && !(decide (x.cv = x.rc) && x.wave && bit x.cmr 7) } := by
  unfold TcChannel.compare
  simp only [TcChannel.latch_eq]
  by_cases rc : x.cv = x.rc
  · cases x.wave <;> cases bit x.cmr 6 <;> cases bit x.cmr 7 <;> simp [rc]
  · simp [rc, tcLatchBit]

/-- The value from which a triangular shape turns down (R560). -/
def TcChannel.top (x : TcChannel) : BitVec 16 := if x.wavsel = 3 then x.rc else 0xFFFF#16

/-- An RC compare resets the sawtooth of the channel (R560). -/
def TcChannel.rcTrigger (x : TcChannel) : Bool := if x.wave then decide (x.wavsel = 2) else bit x.cmr 14

section

variable {x : TcChannel}

/-- The sawtooth shapes and capture mode count up, with a reset at `RC` where the mode has one (R560). -/
theorem TcChannel.count_sawtooth (saw : x.triangle = false) : x.count =
    if x.rcTrigger = true ∧ x.cv = x.rc then { x with cv := 0#16 }
    else if x.cv = 0xFFFF#16 then { x.latch 0 true with cv := 0#16 }
    else { x with cv := x.cv + 1#16 } := by
  rw [count, saw]; rfl

/-- The triangular shapes count up to their top and down to 0 (R560). -/
theorem TcChannel.count_triangle (triangle : x.triangle = true) : x.count =
    if !x.down then
      (if x.cv = x.top then
        { x.latch 0 (decide (x.top = 0xFFFF#16)) with down := true, cv := if x.top ≠ 0#16 then x.cv - 1#16 else x.cv }
      else { x with cv := x.cv + 1#16 })
    else if x.cv = 0#16 then { x with down := false, cv := if x.top ≠ 0#16 then x.cv + 1#16 else x.cv }
    else { x with cv := x.cv - 1#16 } := by
  rw [count, triangle]; rfl

theorem TcChannel.no_reset (other : x.rcTrigger = false ∨ x.cv ≠ x.rc) : ¬(x.rcTrigger = true ∧ x.cv = x.rc) := by
  rintro ⟨trigger, rc⟩
  rcases other with off | ne
  · exact Bool.false_ne_true (off.symm.trans trigger)
  · exact ne rc

theorem TcChannel.count_reset (saw : x.triangle = false) (trigger : x.rcTrigger = true) (rc : x.cv = x.rc) :
    x.count = { x with cv := 0#16 } := by
  rw [count_sawtooth saw, if_pos ⟨trigger, rc⟩]

theorem TcChannel.count_wrap (saw : x.triangle = false) (other : x.rcTrigger = false ∨ x.cv ≠ x.rc)
    (last : x.cv = 0xFFFF#16) : x.count = { x with cv := 0#16, latches := x.latches ||| tcLatchBit 0 true } := by
  rw [count_sawtooth saw, if_neg (no_reset other), if_pos last, latch_eq]

theorem TcChannel.count_up (saw : x.triangle = false) (other : x.rcTrigger = false ∨ x.cv ≠ x.rc)
    (more : x.cv ≠ 0xFFFF#16) : x.count = { x with cv := x.cv + 1#16 } := by
  rw [count_sawtooth saw, if_neg (no_reset other), if_neg more]

theorem TcChannel.count_down (saw : x.triangle = false) : x.count.down = x.down := by
  rw [count_sawtooth saw, latch_eq]
  split
  · rfl
  · split <;> rfl

theorem TcChannel.count_rise (triangle : x.triangle = true) (up : x.down = false) (below : x.cv ≠ x.top) :
    x.count = { x with cv := x.cv + 1#16 } := by
  rw [count_triangle triangle, if_pos (by simp [up]), if_neg below]

theorem TcChannel.count_turn (triangle : x.triangle = true) (up : x.down = false) (top : x.cv = x.top) :
    x.count = { x with
      cv := if x.top = 0#16 then x.cv else x.cv - 1#16, down := true
      latches := x.latches ||| tcLatchBit 0 (decide (x.top = 0xFFFF#16)) } := by
  rw [count_triangle triangle, if_pos (by simp [up]), if_pos top, latch_eq, ite_not]

theorem TcChannel.count_fall (triangle : x.triangle = true) (down : x.down = true) (above : x.cv ≠ 0#16) :
    x.count = { x with cv := x.cv - 1#16 } := by
  rw [count_triangle triangle, if_neg (by simp [down]), if_neg above]

theorem TcChannel.count_bottom (triangle : x.triangle = true) (down : x.down = true) (bottom : x.cv = 0#16) :
    x.count = { x with cv := if x.top = 0#16 then 0#16 else 1#16, down := false } := by
  rw [count_triangle triangle, if_neg (by simp [down]), if_pos bottom, bottom, ite_not]
  rfl

/-- A count changes the counter and its direction, and sets COVFS at most (R560). -/
theorem TcChannel.count_frame (x : TcChannel) :
    ∃ on, x.count = { x with cv := x.count.cv, down := x.count.down, latches := x.latches ||| tcLatchBit 0 on } := by
  have unlatched : x.latches ||| tcLatchBit 0 false = x.latches := by simp [tcLatchBit]
  cases shape : x.triangle with
  | false =>
    by_cases reset : x.rcTrigger = true ∧ x.cv = x.rc
    · exact ⟨false, by rw [count_reset shape reset.1 reset.2, unlatched]⟩
    · have other : x.rcTrigger = false ∨ x.cv ≠ x.rc := by
        rw [not_and_or, Bool.not_eq_true] at reset; exact reset
      by_cases last : x.cv = 0xFFFF#16
      · exact ⟨true, by rw [count_wrap shape other last]⟩
      · exact ⟨false, by rw [count_up shape other last, unlatched]⟩
  | true =>
    cases dir : x.down with
    | false =>
      by_cases top : x.cv = x.top
      · exact ⟨_, by rw [count_turn shape dir top]⟩
      · exact ⟨false, by rw [count_rise shape dir top, unlatched]⟩
    | true =>
      by_cases bottom : x.cv = 0#16
      · exact ⟨false, by rw [count_bottom shape dir bottom, unlatched]⟩
      · exact ⟨false, by rw [count_fall shape dir bottom, unlatched]⟩

/-- The compares of a tick leave the counter and COVFS as the count set them (R560). -/
theorem TcChannel.tick_of_count {y : TcChannel} (counted : x.count = y) :
    x.tick.cv = y.cv ∧ x.tick.down = y.down ∧ x.tick.latches.getLsbD 0 = y.latches.getLsbD 0 := by
  rw [tick_eq, counted, compare_eq]
  refine ⟨rfl, rfl, ?_⟩
  simp only [BitVec.getLsbD_or, Nat.reduceLT, tcLatchBit_getLsbD]
  simp

/-- What a tick of any shape does after its count (R560). -/
theorem TcChannel.tick_frame (x : TcChannel) : ∃ on, x.tick = { x with
    cv := x.tick.cv, down := x.tick.down
    latches := x.latches ||| tcLatchBit 0 on ||| tcLatchBit 2 (x.wave && decide (x.tick.cv = x.ra))
      ||| tcLatchBit 3 (x.wave && decide (x.tick.cv = x.rb)) ||| tcLatchBit 4 (decide (x.tick.cv = x.rc))
    running := x.running && !(decide (x.tick.cv = x.rc) && x.wave && (bit x.cmr 6 || bit x.cmr 7))
    clkEnabled := x.clkEnabled && !(decide (x.tick.cv = x.rc) && x.wave && bit x.cmr 7) } := by
  obtain ⟨on, counted⟩ := x.count_frame
  refine ⟨on, ?_⟩
  rw [tick_eq, counted, compare_eq]
  rfl

/-- A sawtooth that an RC compare resets (R560): the count after a tick. -/
theorem TcChannel.tick_cv_sawtooth (wave : bit x.cmr 15 = true) (shape : field x.cmr 14 13 = 2) :
    x.tick.cv = if x.cv = x.rc then 0#16 else x.cv + 1#16 := by
  have saw : x.triangle = false := by simp [triangle, wavsel, shape]
  have trigger : x.rcTrigger = true := by simp [rcTrigger, TcChannel.wave, wavsel, wave, shape]
  split
  next rc => rw [(tick_of_count (count_reset saw trigger rc)).1]
  next ne =>
    by_cases last : x.cv = 0xFFFF#16
    · rw [(tick_of_count (count_wrap saw (.inr ne) last)).1, last]; rfl
    · rw [(tick_of_count (count_up saw (.inr ne) last)).1]

/-- What no tick changes: the mode, the compare value and, where no compare stops it, the channel's running (R560). -/
theorem TcChannel.iterate_tick_frame (stop : bit x.cmr 6 = false) (disable : bit x.cmr 7 = false) (n : Nat) :
    (tick^[n] x).cmr = x.cmr ∧ (tick^[n] x).rc = x.rc ∧ (tick^[n] x).running = x.running := by
  induction n with
  | zero => exact ⟨rfl, rfl, rfl⟩
  | succ n ih =>
    obtain ⟨cmr, rc, running⟩ := ih
    obtain ⟨on, frame⟩ := (tick^[n] x).tick_frame
    rw [Function.iterate_succ_apply', frame]
    exact ⟨cmr, rc, by simp [cmr, running, stop, disable]⟩

/-- The counter passes every value up to `RC` (R560). -/
theorem TcChannel.iterate_tick_cv (wave : bit x.cmr 15 = true) (shape : field x.cmr 14 13 = 2)
    (stop : bit x.cmr 6 = false) (disable : bit x.cmr 7 = false) (start : x.cv = 0#16) (n : Nat) (hn : n ≤ x.rc.toNat) :
    (tick^[n] x).cv = BitVec.ofNat 16 n := by
  induction n with
  | zero => exact start
  | succ n ih =>
    have before := ih (by omega)
    obtain ⟨cmr, rc, -⟩ := iterate_tick_frame stop disable n
    have below : (tick^[n] x).cv ≠ (tick^[n] x).rc := by
      rw [before, rc]
      intro same
      have := congrArg BitVec.toNat same
      have := x.rc.isLt
      rw [BitVec.toNat_ofNat, Nat.mod_eq_of_lt (by omega)] at *
      omega
    rw [Function.iterate_succ_apply', tick_cv_sawtooth (by rw [cmr]; exact wave) (by rw [cmr]; exact shape), if_neg below,
      before]
    exact (BitVec.ofNat_add n 1).symm

/-- The latches of the compares, and those that no tick touches (R560). -/
theorem TcChannel.tick_latch (x : TcChannel) {i : Nat} (hi : i ≠ 0) : x.tick.latches.getLsbD i =
    (x.latches.getLsbD i || (x.wave && decide (x.tick.cv = x.ra) && decide (i = 2))
      || (x.wave && decide (x.tick.cv = x.rb) && decide (i = 3)) || (decide (x.tick.cv = x.rc) && decide (i = 4))) := by
  obtain ⟨on, frame⟩ := x.tick_frame
  rw [frame]
  simp only [BitVec.getLsbD_or, Nat.reduceLT, tcLatchBit_getLsbD, hi, decide_false, Bool.and_false, Bool.or_false]

/-- The shapes of the statement (R560). -/
theorem TcChannel.triangle_eq_not (x : TcChannel) :
    x.triangle = !(!x.wave || decide (x.wavsel = 0) || decide (x.wavsel = 2)) := by
  have small : x.wavsel < 4 := (x.cmr.extractLsb 14 13).isLt
  unfold triangle
  cases x.wave
  · rfl
  · rw [Bool.eq_iff_iff]
    simp
    omega

theorem TcChannel.iterate_tick_cpcs (x : TcChannel) (n : Nat) : (tick^[n + 1] x).latches.getLsbD 4 =
    ((tick^[n] x).latches.getLsbD 4 || decide ((tick^[n + 1] x).cv = (tick^[n] x).rc)) := by
  rw [Function.iterate_succ_apply', tick_latch _ (by decide)]
  simp

end

/-! ### The ticks of the PIT -/

/-- `PIV` and `CPIV` meet (R581). -/
theorem Pit.tick_end {x : Pit} (last : x.cpiv.toNat = field x.mr 19 0) : x.tick =
    { x with cpiv := 0#20, picnt := x.picnt + 1#12, pits := true, running := x.running && bit x.mr 24 } :=
  if_pos (BitVec.eq_of_toNat_eq last)

theorem Pit.tick_more {x : Pit} (more : x.cpiv.toNat ≠ field x.mr 19 0) : x.tick = { x with cpiv := x.cpiv + 1#20 } :=
  if_neg fun same => more (congrArg BitVec.toNat same)

/-- The PIT counts on as long as it does not meet `PIV` (R581). -/
theorem Pit.iterate_tick {x : Pit} (n : Nat)
    (more : ∀ k < n, (x.cpiv + BitVec.ofNat 20 k).toNat ≠ field x.mr 19 0) :
    Pit.tick^[n] x = { x with cpiv := x.cpiv + BitVec.ofNat 20 n } := by
  induction n with
  | zero => simp
  | succ n ih =>
    rw [Function.iterate_succ_apply', ih fun k hk => more k (by omega), Pit.tick_more (more n (by omega)),
      BitVec.ofNat_add, ← BitVec.add_assoc]

/-- A counter above `PIV` goes round through 0 (R581). -/
theorem Pit.iterate_tick_above {x : Pit} (above : field x.mr 19 0 < x.cpiv.toNat) :
    Pit.tick^[2 ^ 20 - x.cpiv.toNat] x = { x with cpiv := 0#20 } := by
  have bound := x.cpiv.isLt
  rw [Pit.iterate_tick]
  · congr 1
    bv_omega
  · intro k hk
    rw [BitVec.toNat_add, BitVec.toNat_ofNat, Nat.mod_eq_of_lt (a := k) (by omega), Nat.mod_eq_of_lt (by omega)]
    omega

/-- From 0 the PIT counts up to `PIV` (R581). -/
theorem Pit.iterate_tick_zero {x : Pit} (start : x.cpiv = 0#20) {n : Nat} (hn : n ≤ field x.mr 19 0) :
    Pit.tick^[n] x = { x with cpiv := BitVec.ofNat 20 n } := by
  have bound : field x.mr 19 0 < 2 ^ 20 := (x.mr.extractLsb 19 0).isLt
  rw [Pit.iterate_tick, start, BitVec.zero_add]
  intro k hk
  rw [start, BitVec.zero_add, BitVec.toNat_ofNat, Nat.mod_eq_of_lt (by omega)]
  omega

end Sys2Proof.Machine

namespace Sys2Proof

open Machine

/-- Settles O46: each row runs its operation; `CMR` by its two flags, `BCR` channel by channel. -/
theorem tcRegisters : Obligations.TcRegisters := by
  intro s c v ready x
  refine ⟨?ccr, ?cmr, ?cmrW, ?burst, ?clock, ?cv, ?ra, ?rb, ?rc, ?raW, ?rbW, ?rcW, ?sr, ?ier, ?idr, ?imr, ?block⟩
  case ccr => exact ⟨_, exec_of_ready ready (exec_tcCcrW c v s), TcChannel.control_eq v x⟩
  case cmr => exact exec_readPlain_of_ready ready (exec_tcCmrR c s)
  case cmrW =>
    intro no_burst clock
    rw [exec_of_ready ready (exec_tcCmrW c v s), tcWriteCmr, if_neg, if_neg]
    · rfl
    · rintro ⟨external, flag⟩
      rcases clock with inner | off
      · exact absurd external (by unfold tcClks; omega)
      · exact Bool.false_ne_true (off.symm.trans flag)
    · rintro ⟨burst, flag⟩
      rcases no_burst with zero | off
      · exact burst zero
      · exact Bool.false_ne_true (off.symm.trans flag)
  case burst =>
    intro burst flag
    rw [exec_of_ready ready (exec_tcCmrW c v s), tcWriteCmr, if_pos ⟨burst, flag⟩]
    exact ⟨_, rfl, rfl⟩
  case clock =>
    intro no_burst external flag
    rw [exec_of_ready ready (exec_tcCmrW c v s), tcWriteCmr, if_neg, if_pos ⟨external, flag⟩]
    · exact ⟨_, rfl, rfl⟩
    · rintro ⟨burst, flag⟩
      rcases no_burst with zero | off
      · exact burst zero
      · exact Bool.false_ne_true (off.symm.trans flag)
  case cv => exact exec_readPlain_of_ready ready (exec_tcCvR c s)
  case ra => exact exec_readPlain_of_ready ready (exec_tcRaR c s)
  case rb => exact exec_readPlain_of_ready ready (exec_tcRbR c s)
  case rc => exact exec_readPlain_of_ready ready (exec_tcRcR c s)
  case raW => exact exec_of_ready ready (exec_tcRaW c v s)
  case rbW => exact exec_of_ready ready (exec_tcRbW c v s)
  case rcW => exact exec_of_ready ready (exec_tcRcW c v s)
  case sr => exact exec_of_ready ready (exec_tcSrR c s)
  case ier => exact exec_of_ready ready (exec_tcIerW c v s)
  case idr => exact exec_of_ready ready (exec_tcIdrW c v s)
  case imr => exact exec_readPlain_of_ready ready (exec_tcImrR c s)
  case block =>
    intro b
    have row := exec_of_ready ready (exec_tcbBcrW b v s)
    refine ⟨exec_readPlain_of_ready ready (exec_tcbBmrR b s), exec_of_ready ready (exec_tcbBmrW b v s), fun idle => ?_,
      fun sync => ⟨_, row, tcbWriteBcr_frame b v s, fun j => ?_⟩⟩
    · rw [row, tcbWriteBcr, if_neg (by simp [idle])]
    · rw [tcbWriteBcr_tc s sync]
      by_cases own : j.val / 3 = b.val <;> cases enabled : (s.tc j).clkEnabled <;>
        simp [own, enabled, TcChannel.synced, TcChannel.trigger]

/-- Settles O47, by the shapes of a tick, and for the period by induction on the ticks. -/
theorem tcTick : Obligations.TcTick := by
  refine ⟨?tick, fun x mode shape stop disable start => ?period, fun s c rest live inputs => ?clock⟩
  case tick =>
    intro x y wave sel saw rcTrg top same
    have triangle : x.triangle = !saw := x.triangle_eq_not
    refine ⟨fun shape => ?sawtooth, fun shape up more => ?rise, fun shape up turn => ?turn, fun shape down above => ?fall,
      fun shape down bottom => ?bottom, ?cpas, ?cpbs, ?cpcs, ?others, ?rest⟩
    case sawtooth =>
      rw [shape] at triangle
      refine ⟨?_, fun trigger rc => ?_, fun other last => ?_, fun other more => ?_⟩
      · exact (TcChannel.tick_of_count rfl).2.1.trans (TcChannel.count_down triangle)
      · obtain ⟨cv, -, latch⟩ := TcChannel.tick_of_count (TcChannel.count_reset triangle trigger rc)
        exact ⟨cv, latch⟩
      · obtain ⟨cv, -, latch⟩ := TcChannel.tick_of_count (TcChannel.count_wrap triangle other last)
        exact ⟨cv, latch.trans (by simp [tcLatchBit])⟩
      · obtain ⟨cv, -, latch⟩ := TcChannel.tick_of_count (TcChannel.count_up triangle other more)
        exact ⟨cv, latch⟩
    case rise =>
      rw [shape] at triangle
      obtain ⟨cv, down, latch⟩ := TcChannel.tick_of_count (TcChannel.count_rise triangle up more)
      exact ⟨cv, down.trans up, latch⟩
    case turn =>
      rw [shape] at triangle
      obtain ⟨cv, down, latch⟩ := TcChannel.tick_of_count (TcChannel.count_turn triangle up turn)
      exact ⟨down, cv, latch.trans (by
        simp only [BitVec.getLsbD_or, Nat.reduceLT, tcLatchBit_getLsbD, decide_true, Bool.and_true]; rfl)⟩
    case fall =>
      rw [shape] at triangle
      obtain ⟨cv, dir, latch⟩ := TcChannel.tick_of_count (TcChannel.count_fall triangle down above)
      exact ⟨cv, dir.trans down, latch⟩
    case bottom =>
      rw [shape] at triangle
      obtain ⟨cv, dir, latch⟩ := TcChannel.tick_of_count (TcChannel.count_bottom triangle down bottom)
      exact ⟨dir, cv, latch⟩
    case cpas => exact (x.tick_latch (by decide)).trans (by simp; rfl)
    case cpbs => exact (x.tick_latch (by decide)).trans (by simp; rfl)
    case cpcs => exact (x.tick_latch (by decide)).trans (by simp; rfl)
    case others =>
      intro i other
      have apart : i ≠ 0 ∧ i ≠ 2 ∧ i ≠ 3 ∧ i ≠ 4 := by simp at other; omega
      obtain ⟨n0, n2, n3, n4⟩ := apart
      exact (x.tick_latch n0).trans (by simp [n2, n3, n4])
    case rest =>
      obtain ⟨on, frame⟩ := x.tick_frame
      refine ⟨congrArg TcChannel.running frame, congrArg TcChannel.clkEnabled frame, ?_⟩
      simp only [y]
      rw [frame]
  case period =>
    obtain ⟨cmr, rc, -⟩ := TcChannel.iterate_tick_frame stop disable (x := x) x.rc.toNat
    have counted := TcChannel.iterate_tick_cv mode shape stop disable start
    have full : (TcChannel.tick^[x.rc.toNat] x).cv = x.rc := by rw [counted _ le_rfl, BitVec.ofNat_toNat, BitVec.setWidth_eq]
    have again : (TcChannel.tick^[x.rc.toNat + 1] x).cv = 0#16 := by
      rw [Function.iterate_succ_apply', TcChannel.tick_cv_sawtooth (by rw [cmr]; exact mode) (by rw [cmr]; exact shape), rc,
        if_pos full]
    refine ⟨fun n hn => counted n hn, again, ?_, fun n => ?_⟩
    · rw [TcChannel.iterate_tick_cpcs, again, rc]
      cases hr : x.rc.toNat with
      | zero => simp [BitVec.eq_of_toNat_eq (x := x.rc) (y := 0#16) hr]
      | succ n =>
        obtain ⟨-, rc, -⟩ := TcChannel.iterate_tick_frame stop disable (x := x) n
        rw [hr] at full
        rw [TcChannel.iterate_tick_cpcs, full, rc]
        simp
    · obtain ⟨-, same, running⟩ := TcChannel.iterate_tick_frame stop disable (x := x) n
      exact ⟨running, same⟩
  case clock =>
    rw [step_of_other live inputs rfl]
    have row : runInput (.tick (.tc c)) (s.setInputs rest) = .next (Machine.tcTick c (s.setInputs rest)) := rfl
    rw [row, Machine.tcTick]
    refine ⟨fun running inner => ?_, fun stopped => ?_, fun external => ?_⟩
    · exact congrArg _ (if_pos ⟨running, inner⟩)
    · exact congrArg _ (if_neg fun on => Bool.false_ne_true (stopped.symm.trans on.1))
    · exact congrArg _ (if_neg fun on => absurd on.2 (Nat.not_lt.2 external))

/-- Settles O48: each row runs its operation; the rounds of the PIT by induction on the ticks. -/
theorem pitAndRtt : Obligations.PitAndRtt := by
  refine ⟨fun s v ready => ?pit, fun x => ⟨Pit.tick_end, Pit.tick_more, Pit.iterate_tick_above⟩, fun x start => ⟨fun n hn => Pit.iterate_tick_zero start hn, ?_⟩,
    fun s rest live inputs => ?pitStep,
    fun s v ready => ?rtt, fun s rest live inputs => ?rttStep⟩
  case pit =>
    exact ⟨exec_readPlain_of_ready ready (exec_pitMrR s), exec_of_ready ready (exec_pitMrW v s),
      exec_readPlain_of_ready ready (exec_pitSrR s), exec_of_ready ready (exec_pitPivrR s),
      exec_readPlain_of_ready ready (exec_pitPiirR s)⟩
  case rtt =>
    exact ⟨exec_readPlain_of_ready ready (exec_rttMrR s), exec_of_ready ready (exec_rttMrW v s),
      exec_readPlain_of_ready ready (exec_rttArR s), exec_of_ready ready (exec_rttArW v s),
      exec_readPlain_of_ready ready (exec_rttVrR s), exec_of_ready ready (exec_rttSrR s)⟩
  case pitStep =>
    rw [step_of_other live inputs rfl]
    have row : runInput (.tick .pit) (s.setInputs rest) = .next (pitTick (s.setInputs rest)) := rfl
    rw [row, pitTick]
    exact ⟨fun running => congrArg _ (if_pos running), fun stopped => congrArg _ (if_neg (Bool.eq_false_iff.1 stopped))⟩
  case rttStep => exact step_of_other live inputs rfl
  have bound : field x.mr 19 0 < 2 ^ 20 := (x.mr.extractLsb 19 0).isLt
  rw [Function.iterate_succ_apply', Pit.iterate_tick_zero start le_rfl, Pit.tick_end (by
    rw [BitVec.toNat_ofNat, Nat.mod_eq_of_lt bound]), ← start]

end Sys2Proof
end

section
/-! The DBGU and the pins of a PIO (R630 to R640, R662, R663, R510). O49, O51. -/

namespace Sys2Proof.Machine

/-! ### The DBGU -/

/-- `SR` of the DBGU (R634), with its two constant bits. -/
theorem Dbgu.sr_eq (x : Dbgu) :
    x.sr = (if x.rxrdy then 0x203#32 else 0x202#32) ||| if x.ovre then 0x20#32 else 0#32 := by
  unfold Dbgu.sr
  cases x.rxrdy <;> cases x.ovre <;> decide

/-- `RSTSTA` clears the overrun (R631). -/
theorem dbguWriteCr_eq (v : Word) (s : State) :
    dbguWriteCr v s = dbguUpdateIrq (s.setDbgu { s.dbgu with ovre := s.dbgu.ovre && !bit v 8 }) := by
  unfold dbguWriteCr
  cases bit v 8
  · simp; rfl
  · simp

/-! ### The pins of a PIO -/

/-- A pin the PIO drives shows its latch, any other the level outside (R662). -/
theorem Pio.bit_pins (x : Pio) {n : Nat} (hn : n < 32) : bit x.pins n =
    if bit x.psr n && bit x.osr n then bit x.odsr n else bit x.extLevel n := by
  have pins : bit x.pins n = ((bit x.psr n && bit x.osr n) && bit x.odsr n
      || !(bit x.psr n && bit x.osr n) && bit x.extLevel n) := by
    simp only [Pio.pins, bit, BitVec.getLsbD_or, BitVec.getLsbD_and, BitVec.getLsbD_not, hn, decide_true, Bool.true_and]
  rw [pins]
  split
  next driven => rw [driven]; simp
  next outside => rw [Bool.eq_false_iff.2 outside]; simp

/-- The PIO with its pins recomputed (R662). -/
def Pio.sampled (x : Pio) : Pio := { x with pdsr := x.pins, isr := x.isr ||| (x.pins ^^^ x.pdsr) }

/-- The announcement of a change (R662, R663). -/
def pioAnnounce (p : Fin 3) (s : State) : State :=
  if (s.pio p).pins ^^^ (s.pio p).pdsr ≠ 0#32 then pioEmitOut p (s.setPio p (s.pio p).sampled)
  else s.setPio p (s.pio p).sampled

section

variable {s : State} {p : Fin 3}

theorem pioUpdate_eq (p : Fin 3) (s : State) : pioUpdate p s = pioUpdateIrq p (pioSelectCard p (pioAnnounce p s)) := rfl

theorem pioAnnounce_same (same : (s.pio p).pins = (s.pio p).pdsr) :
    pioAnnounce p s = s.setPio p (s.pio p).sampled :=
  if_neg (by simp [same])

theorem pioAnnounce_changed (changed : (s.pio p).pins ≠ (s.pio p).pdsr) :
    pioAnnounce p s = pioEmitOut p (s.setPio p (s.pio p).sampled) :=
  if_pos (by simpa [BitVec.xor_eq_zero_iff] using changed)

theorem pioAnnounce_frame (p : Fin 3) (s : State) : pioAnnounce p s =
    (s.setPio p (s.pio p).sampled).setLink (.pio p) ((pioAnnounce p s).link (.pio p)) := by
  by_cases same : (s.pio p).pins = (s.pio p).pdsr
  · rw [pioAnnounce_same same, State.setLink_self]
  · rw [pioAnnounce_changed same]
    exact emit_frame ..

/-- The MCI after the pins of a PIO are sampled: PIOB's pin 7 selects the card (R510). -/
def pioCard (p : Fin 3) (s : State) : Mci :=
  if p = 1 then
    { s.mci with selectedCard := if bit (s.pio p).pins 7 = s.params.mciCardPolarity then 1 else 0 }
  else s.mci

/-- The pin update in its parts (R662, R510). -/
theorem pioUpdate_parts (p : Fin 3) (s : State) : pioUpdate p s = pioUpdateIrq p (((s.setPio p (s.pio p).sampled).setLink
    (.pio p) ((pioAnnounce p s).link (.pio p))).setMci (pioCard p s)) := by
  have pio : (pioAnnounce p s).pio p = (s.pio p).sampled := by
    rw [pioAnnounce_frame]; exact State.setPio_pio_same ..
  rw [pioUpdate_eq, ← pioAnnounce_frame, pioSelectCard, pioCard]
  by_cases b : p = 1
  · subst b
    rw [if_pos rfl, if_pos (show (1 : Fin 3).val = 1 from rfl), pio, pioAnnounce_frame]
    rfl
  · rw [if_neg (by omega), if_neg b]
    congr 1
    rw [pioAnnounce_frame]
    rfl

/-- The AIC line of a PIO is its number and two (R780). -/
theorem pioLine_val (p : Fin 3) : (pioLine p).val = p.val + 2 := by
  fin_cases p <;> rfl

end

/-- The mask of a payload, little-endian (R663). -/
theorem pinMask_four (b0 b1 b2 b3 : Byte) (more : List Byte) :
    pinMask (b0 :: b1 :: b2 :: b3 :: more) = some (b3 ++ b2 ++ b1 ++ b0) := by
  rw [pinMask, if_neg (by simp)]
  exact congrArg some (leWord_four b0 b1 b2 b3)

theorem pinMask_short {bs : List Byte} (short : bs.length < 4) : pinMask bs = none := if_pos short

end Sys2Proof.Machine

namespace Sys2Proof

open Machine

/-- Settles O49: each row runs its operation. -/
theorem dbguRegisters : Obligations.DbguRegisters := by
  refine ⟨fun s v ready => ?registers, fun s b rest live inputs => step_of_other live inputs rfl⟩
  refine ⟨?cr, ?mr, ?mrW, ?ier, ?idr, ?imr, ?sr, ?rhr, ?thr, ?brgr, ?brgrW, ?cidr, ?exid⟩
  case cr => rw [← dbguWriteCr_eq]; exact exec_of_ready ready (exec_dbguCrW v s)
  case mr => exact exec_readPlain_of_ready ready (exec_dbguMrR s)
  case mrW => exact exec_of_ready ready (exec_dbguMrW v s)
  case ier => exact exec_of_ready ready (exec_dbguIerW v s)
  case idr => exact exec_of_ready ready (exec_dbguIdrW v s)
  case imr => exact exec_readPlain_of_ready ready (exec_dbguImrR s)
  case sr => rw [← Dbgu.sr_eq]; exact exec_readPlain_of_ready ready (exec_dbguSrR s)
  case rhr => exact exec_of_ready ready (exec_dbguRhrR s)
  case thr => exact exec_of_ready ready (exec_dbguThrW v s)
  case brgr => exact exec_readPlain_of_ready ready (exec_dbguBrgrR s)
  case brgrW => exact exec_of_ready ready (exec_dbguBrgrW v s)
  case cidr => exact exec_readPlain_of_ready ready (exec_dbguCidrR s)
  case exid => exact exec_readPlain_of_ready ready (exec_dbguExidR s)

/-- Settles O51: the pin update in its parts, then the frames by the length of the mask. -/
theorem pioPins : Obligations.PioPins := by
  refine ⟨fun s p => ⟨(s.pio p).pins, _, fun n => Pio.bit_pins _ n.isLt, rfl, ?update⟩, fun s p seq live => ?frames⟩
  case update =>
    obtain ⟨x, hx⟩ : ∃ x, x = (s.pio p).sampled := ⟨_, rfl⟩
    obtain ⟨c, hc⟩ : ∃ c, c = pioCard p s := ⟨_, rfl⟩
    obtain ⟨l, hl⟩ : ∃ l, l = (pioAnnounce p s).link (.pio p) := ⟨_, rfl⟩
    obtain ⟨r, hr⟩ : ∃ r, r = ((s.setPio p x).setLink (.pio p) l).setMci c := ⟨_, rfl⟩
    have updated : pioUpdate p s = pioUpdateIrq p r := by rw [hr, hx, hl, hc]; exact pioUpdate_parts p s
    have pio : r.pio p = x := by rw [hr]; exact State.setPio_pio_same ..
    have link : r.link (.pio p) = l := by rw [hr]; exact State.setLink_link_same ..
    rw [updated, pioUpdateIrq_pio, pioUpdateIrq_link, pioUpdateIrq_mci, pio, link]
    refine ⟨hx, fun same => ?silent, fun changed => ?announced, ?card, ?frame, ?level, fun n hn => ?line⟩
    case silent => rw [hl, pioAnnounce_same same]; rfl
    case announced =>
      rw [hl, pioAnnounce_changed changed, pioEmitOut, State.setPio_pio_same]
      exact emit_link_congr (s := s) (t := s.setPio p _) rfl ..
    case card => rw [hr]; exact hc
    case frame =>
      have frame := pioUpdateIrq_frame p r
      generalize (pioUpdateIrq p r).aic = a at frame ⊢
      rw [frame, hr]
      rfl
    case level =>
      rw [← pioLine_val, pioUpdateIrq, driveLine_line, pio, hx]
      rfl
    case line =>
      obtain rfl : n = pioLine p := Fin.ext (hn.trans (pioLine_val p).symm)
      have before : r.aic = s.aic := by rw [hr]; rfl
      rw [← before]
      exact driveLine_onlyLine (pioLine p) _ r
  case frames =>
    refine ⟨fun b0 b1 b2 b3 more => ⟨?enable, ?disable⟩, fun bs short => ⟨?shortEnable, ?shortDisable⟩,
      exec_of_live live (exec_pioPinstateOut p s), fun bs => exec_of_live live (exec_pioPinstateGet p seq bs s)⟩
    case enable =>
      rw [exec_of_live live (exec_pioPinstateEnable p seq _ s), pioEnableFrame, pinMask_four]
      rfl
    case disable =>
      rw [exec_of_live live (exec_pioPinstateDisable p seq _ s), pioDisableFrame, pinMask_four]
      rfl
    case shortEnable =>
      rw [exec_of_live live (exec_pioPinstateEnable p seq bs s), pioEnableFrame, pinMask_short short]
    case shortDisable =>
      rw [exec_of_live live (exec_pioPinstateDisable p seq bs s), pioDisableFrame, pinMask_short short]

end Sys2Proof
end

section
/-! The PMC: its registers and the master clock (R670 to R684). O52, O53. -/

namespace Sys2Proof.Machine

/-! ### The stub inputs -/

/-- A line change depends on the AIC only (R222). -/
theorem driveLine_aic_congr {s t : State} (aic : t.aic = s.aic) (n : Fin 32) (b : Bool) :
    (driveLine n b t).aic = (driveLine n b s).aic := by
  unfold driveLine aicChange
  rw [aic]
  split
  · exact aic
  · rfl

/-- A stub input change depends on the inputs and the AIC only (R224). -/
theorem driveStub_congr {s t : State} (aic : t.aic = s.aic) (stub : t.stubIn = s.stubIn) (k : Fin 32) (b : Bool) :
    (driveStub k b t).stubIn = (driveStub k b s).stubIn ∧ (driveStub k b t).aic = (driveStub k b s).aic := by
  refine ⟨by rw [driveStub_stubIn, driveStub_stubIn, stub], ?_⟩
  unfold driveStub
  rw [stub]
  exact driveLine_aic_congr (s := s.setStubIn (putBit s.stubIn k.val b)) (t := t.setStubIn (putBit s.stubIn k.val b)) aic _ _

theorem bit_putBit_same (w : Word) (k : Fin 32) (b : Bool) : bit (putBit w k.val b) k.val = b := by
  cases b <;> simp [bit, putBit]

theorem putBit_putBit (w : Word) (k : Nat) (b : Bool) : putBit (putBit w k b) k b = putBit w k b := by
  cases b <;> simp [putBit, BitVec.or_assoc, BitVec.and_assoc]

/-- The stub with its inputs at `w` (R224). -/
def driveStubs (w : Word) (s : State) : State := driveLine 1 (decide (w ≠ 0#32)) (s.setStubIn w)

theorem driveStub_eq (k : Fin 32) (b : Bool) (s : State) : driveStub k b s = driveStubs (putBit s.stubIn k.val b) s := rfl

/-- A stub input at the level it has just been given changes nothing (R222, R224). -/
theorem driveStub_idem (k : Fin 32) (b : Bool) (s : State) : driveStub k b (driveStub k b s) = driveStub k b s := by
  have again : (driveStub k b s).setStubIn (putBit s.stubIn k.val b) = driveStub k b s := by
    rw [← driveStub_stubIn]; rfl
  rw [driveStub_eq k b (driveStub k b s), driveStub_stubIn, putBit_putBit, driveStubs, again]
  exact driveLine_idem 1 _ (s.setStubIn (putBit s.stubIn k.val b))

/-- Line 1 is all that a stub input changes (R224). -/
theorem driveStub_onlyLine (k : Fin 32) (b : Bool) (s : State) : Aic.onlyLine 1 s.aic (driveStub k b s).aic :=
  driveLine_onlyLine 1 _ (s.setStubIn _)

/-! ### The clocks that follow -/

/-- A USART with the baud rate of a master clock (R318). -/
def Usart.rebaud (u : Fin 6) (hz : Nat) (x : Usart) : Usart := { x with baud := usartBaud u hz x }

theorem Usart.rebaud_rebaud (u : Fin 6) (hz : Nat) (x : Usart) : (x.rebaud u hz).rebaud u hz = x.rebaud u hz := rfl

/-- A TC channel with the frequency of a master clock (R553). -/
def TcChannel.refreq (hz : Nat) (x : TcChannel) : TcChannel := { x with freqHz := tcFreq hz x.cmr }

theorem State.setUsart_usart (s : State) (i j : Fin 6) (y : Usart) :
    (s.setUsart i y).usart j = if j = i then y else s.usart j := by
  split
  next same => rw [same, State.setUsart_usart_same]
  next other => exact State.setUsart_usart_ne s i j y other

/-- The baud rates of some USARTs re-derived (R323). -/
theorem foldl_usartUpdateBaud (us : List (Fin 6)) (s : State) :
    (us.foldl (fun t u => usartUpdateBaud u t) s)
      = { s with usarts := (us.foldl (fun t u => usartUpdateBaud u t) s).usarts }
    ∧ ∀ v, (us.foldl (fun t u => usartUpdateBaud u t) s).usart v
      = if v ∈ us then (s.usart v).rebaud v s.pmc.mclkHz else s.usart v := by
  induction us generalizing s with
  | nil => exact ⟨rfl, fun v => rfl⟩
  | cons u us ih =>
    obtain ⟨frame, each⟩ := ih (usartUpdateBaud u s)
    refine ⟨frame.trans rfl, fun v => (each v).trans ?_⟩
    have first : (usartUpdateBaud u s).usart v
        = if v = u then (s.usart u).rebaud u s.pmc.mclkHz else s.usart v := State.setUsart_usart ..
    have clock : (usartUpdateBaud u s).pmc.mclkHz = s.pmc.mclkHz := rfl
    rw [first, clock]
    by_cases own : v = u
    · subst own
      simp [Usart.rebaud_rebaud]
    · simp [own]

/-- The frequencies of some TC channels re-derived (R561). -/
theorem foldl_tcUpdateFreq (cs : List (Fin 6)) (s : State) :
    (cs.foldl (fun t c => tcUpdateFreq c t) s) = { s with tcs := (cs.foldl (fun t c => tcUpdateFreq c t) s).tcs }
    ∧ ∀ v, (cs.foldl (fun t c => tcUpdateFreq c t) s).tc v
      = if v ∈ cs then (s.tc v).refreq s.pmc.mclkHz else s.tc v := by
  induction cs generalizing s with
  | nil => exact ⟨rfl, fun v => rfl⟩
  | cons c cs ih =>
    obtain ⟨frame, each⟩ := ih (tcUpdateFreq c s)
    refine ⟨frame.trans rfl, fun v => (each v).trans ?_⟩
    have first : (tcUpdateFreq c s).tc v = if v = c then (s.tc c).refreq s.pmc.mclkHz else s.tc v := State.setTc_tc ..
    have clock : (tcUpdateFreq c s).pmc.mclkHz = s.pmc.mclkHz := rfl
    rw [first, clock]
    by_cases own : v = c
    · subst own
      simp [TcChannel.refreq]
    · simp [own]

/-- The announcement of a new master clock (R682): what it re-derives, and that it touches nothing else. -/
theorem mclkChanged_frame (s : State) :
    mclkChanged s = { s with
      pit := { s.pit with freqHz := pitFreq s.pmc.mclkHz }
      twi := { s.twi with clockHz := twiClock s.pmc.mclkHz s.twi.cwgr }
      usarts := (mclkChanged s).usarts, tcs := (mclkChanged s).tcs }
    ∧ (∀ u, (mclkChanged s).usart u = (s.usart u).rebaud u s.pmc.mclkHz)
    ∧ ∀ c, (mclkChanged s).tc c = (s.tc c).refreq s.pmc.mclkHz := by
  obtain ⟨r, hr⟩ : ∃ r, r = twiUpdateClock (pitUpdateFreq s) := ⟨_, rfl⟩
  obtain ⟨bauds, baud⟩ := foldl_usartUpdateBaud (List.finRange 6) r
  obtain ⟨q, hq⟩ : ∃ q, q = (List.finRange 6).foldl (fun t u => usartUpdateBaud u t) r := ⟨_, rfl⟩
  obtain ⟨freqs, freq⟩ := foldl_tcUpdateFreq (List.finRange 6) q
  have whole : mclkChanged s = (List.finRange 6).foldl (fun t c => tcUpdateFreq c t) q := by rw [hq, hr]; rfl
  rw [← hq] at bauds baud
  rw [← whole] at freqs freq
  have usarts : (mclkChanged s).usarts = q.usarts := by rw [freqs]
  have clock : q.pmc.mclkHz = s.pmc.mclkHz := by rw [bauds, hr]; rfl
  refine ⟨?_, fun u => ?_, fun c => ?_⟩
  · rw [usarts]
    refine freqs.trans ?_
    generalize (mclkChanged s).tcs = cs
    generalize q.usarts = us at bauds
    rw [bauds, hr]
    rfl
  · have same : (mclkChanged s).usart u = q.usart u := congrArg (fun v => v[u.val]) usarts
    rw [same, baud u, if_pos (List.mem_finRange u), hr]
    rfl
  · rw [freq c, if_pos (List.mem_finRange c), clock, bauds, hr]
    rfl

/-! ### The master clock -/

/-- The PMC after its recomputation (R681). -/
def Pmc.settled (x : Pmc) : Pmc := { x with
  mckrdy := x.valid
  mclkHz := if x.valid then x.newHz else x.mclkHz
  mclkChanges := if x.valid ∧ x.newHz ≠ x.mclkHz then x.mclkChanges + 1 else x.mclkChanges }

section

variable {s : State}

theorem pmcUpdate_same (same : s.pmc.valid = true → s.pmc.newHz = s.pmc.mclkHz) :
    pmcUpdate s = pmcUpdateIrq (s.setPmc s.pmc.settled) := by
  have quiet : ¬(s.pmc.valid = true ∧ s.pmc.newHz ≠ s.pmc.mclkHz) := fun h => h.2 (same h.1)
  have settled : s.pmc.settled = { s.pmc with mckrdy := s.pmc.valid } := by
    rw [Pmc.settled, if_neg quiet]
    cases valid : s.pmc.valid with
    | true => rw [if_pos rfl, same valid]
    | false => rfl
  unfold pmcUpdate
  dsimp only
  rw [if_neg quiet, settled]

theorem pmcUpdate_changed (valid : s.pmc.valid = true) (changed : s.pmc.newHz ≠ s.pmc.mclkHz) :
    pmcUpdate s = pmcUpdateIrq (mclkChanged (s.setPmc s.pmc.settled)) := by
  have settled : s.pmc.settled = { s.pmc with
      mckrdy := s.pmc.valid, mclkHz := s.pmc.newHz, mclkChanges := s.pmc.mclkChanges + 1 } := by
    rw [Pmc.settled, if_pos valid, if_pos ⟨valid, changed⟩]
  unfold pmcUpdate
  dsimp only
  rw [if_pos ⟨valid, changed⟩, settled]
  rfl

/-- The recomputation ends with the interrupt output of a machine whose PMC is settled and whose AIC is still what it
was (R680, R681). -/
theorem pmcUpdate_settled (s : State) :
    ∃ r, pmcUpdate s = pmcUpdateIrq r ∧ r.pmc = s.pmc.settled ∧ r.aic = s.aic ∧ r.stubIn = s.stubIn := by
  by_cases changed : s.pmc.valid = true ∧ s.pmc.newHz ≠ s.pmc.mclkHz
  · refine ⟨_, pmcUpdate_changed changed.1 changed.2, ?_⟩
    rw [(mclkChanged_frame (s.setPmc s.pmc.settled)).1]
    exact ⟨rfl, rfl, rfl⟩
  · have same : s.pmc.valid = true → s.pmc.newHz = s.pmc.mclkHz := fun valid => by
      by_contra ne
      exact changed ⟨valid, ne⟩
    exact ⟨_, pmcUpdate_same same, rfl, rfl, rfl⟩

/-- The recomputed interrupt output of a machine whose PMC and clocked units have changed. -/
theorem pmcUpdateIrq_over (s : State) (p : Pmc) (pit : Pit) (twi : Twi) (us : Vector Usart 6) (cs : Vector TcChannel 6) :
    ∃ i a, pmcUpdateIrq { s with pmc := p, pit := pit, twi := twi, usarts := us, tcs := cs }
      = { s with pmc := p, pit := pit, twi := twi, usarts := us, tcs := cs, stubIn := i, aic := a } := by
  exact ⟨_, _, pmcUpdateIrq_frame _⟩

/-- All that the recomputation can change (R680 to R682). -/
theorem pmcUpdate_over (s : State) : ∃ p pit twi us cs i a, pmcUpdate s
    = { s with pmc := p, pit := pit, twi := twi, usarts := us, tcs := cs, stubIn := i, aic := a } := by
  by_cases changed : s.pmc.valid = true ∧ s.pmc.newHz ≠ s.pmc.mclkHz
  · rw [pmcUpdate_changed changed.1 changed.2, (mclkChanged_frame (s.setPmc s.pmc.settled)).1]
    exact ⟨_, _, _, _, _, pmcUpdateIrq_over s _ _ _ _ _⟩
  · rw [pmcUpdate_same fun valid => by
      by_contra ne
      exact changed ⟨valid, ne⟩]
    exact ⟨_, _, _, _, _, pmcUpdateIrq_over s _ s.pit s.twi s.usarts s.tcs⟩

theorem pmcUpdate_frame (s : State) : pmcUpdate s = { s with
    pmc := (pmcUpdate s).pmc, pit := (pmcUpdate s).pit, twi := (pmcUpdate s).twi, usarts := (pmcUpdate s).usarts
    tcs := (pmcUpdate s).tcs, stubIn := (pmcUpdate s).stubIn, aic := (pmcUpdate s).aic } := by
  obtain ⟨p, pit, twi, us, cs, i, a, updated⟩ := pmcUpdate_over s
  rw [updated]

/-- The recomputation leaves a ready machine ready (R150). -/
theorem pmcUpdate_ready (s : State) : (pmcUpdate s).ready = s.ready := by
  rw [pmcUpdate_frame]
  rfl

theorem pmcUpdate_pmc (s : State) : (pmcUpdate s).pmc = s.pmc.settled := by
  obtain ⟨r, updated, pmc, -⟩ := pmcUpdate_settled s
  rw [updated, pmcUpdateIrq_pmc, pmc]

/-- What a settled PMC selects is what it runs at (R681). -/
theorem Pmc.settled_settled (x : Pmc) : x.settled.settled = x.settled := by
  have valid : x.settled.valid = x.valid := rfl
  have hz : x.settled.newHz = x.newHz := rfl
  have clock : x.settled.mclkHz = if x.valid then x.newHz else x.mclkHz := rfl
  have once : (if x.valid then x.newHz else if x.valid then x.newHz else x.mclkHz)
      = if x.valid then x.newHz else x.mclkHz := by split <;> rfl
  have quiet : ¬(x.settled.valid = true ∧ x.settled.newHz ≠ x.settled.mclkHz) := by
    rintro ⟨on, ne⟩
    rw [clock, hz, if_pos (valid ▸ on)] at ne
    exact ne rfl
  rw [Pmc.settled, if_neg quiet, valid, hz, clock, once]
  rfl

/-- A second recomputation changes nothing (R681). -/
theorem pmcUpdate_idem (s : State) : pmcUpdate (pmcUpdate s) = pmcUpdate s := by
  obtain ⟨r, updated, pmc, -⟩ := pmcUpdate_settled s
  have same : (pmcUpdate s).pmc.valid = true → (pmcUpdate s).pmc.newHz = (pmcUpdate s).pmc.mclkHz := by
    rw [pmcUpdate_pmc]
    intro on
    exact (if_pos (show s.pmc.valid = true from on)).symm
  rw [pmcUpdate_same same, pmcUpdate_pmc, Pmc.settled_settled, ← pmcUpdate_pmc]
  have self : (pmcUpdate s).setPmc (pmcUpdate s).pmc = pmcUpdate s := rfl
  rw [self, updated, pmcUpdateIrq, pmcUpdateIrq_pmc]
  exact driveStub_idem 3 _ r

end

end Sys2Proof.Machine

namespace Sys2Proof

open Machine

/-- Settles O52: each row runs its operation; the status word bit by bit. -/
theorem pmcRegisters : Obligations.PmcRegisters := by
  intro s v ready x pllOk pllFreq
  refine ⟨?scer, ?scdr, ?scsr, ?pcer, ?pcdr, ?pcsr, ?morW, ?mor, ?mcfr, ?pllarW, ?pllar, ?pllbrW, ?pllbr, ?mckrW, ?mckr,
    ?pck0W, ?pck0, ?pck1W, ?pck1, ?ier, ?idr, ?imr, ?sr, ?pllicprW, ?pllicpr⟩
  case scer => exact exec_of_ready ready (exec_pmcScerW v s)
  case scdr => exact exec_of_ready ready (exec_pmcScdrW v s)
  case scsr => exact exec_readPlain_of_ready ready (exec_pmcScsrR s)
  case pcer => exact exec_of_ready ready (exec_pmcPcerW v s)
  case pcdr => exact exec_of_ready ready (exec_pmcPcdrW v s)
  case pcsr => exact exec_readPlain_of_ready ready (exec_pmcPcsrR s)
  case morW => exact exec_of_ready ready (exec_pmcCkgrMorW v s)
  case mor => exact exec_readPlain_of_ready ready (exec_pmcCkgrMorR s)
  case mcfr => exact exec_readPlain_of_ready ready (exec_pmcCkgrMcfrR s)
  case pllarW => exact exec_of_ready ready (exec_pmcCkgrPllarW v s)
  case pllar => exact exec_readPlain_of_ready ready (exec_pmcCkgrPllarR s)
  case pllbrW => exact exec_of_ready ready (exec_pmcCkgrPllbrW v s)
  case pllbr => exact exec_readPlain_of_ready ready (exec_pmcCkgrPllbrR s)
  case mckrW => exact exec_of_ready ready (exec_pmcMckrW v s)
  case mckr => exact exec_readPlain_of_ready ready (exec_pmcMckrR s)
  case pck0W => exact exec_of_ready ready (exec_pmcPck0W v s)
  case pck0 => exact exec_readPlain_of_ready ready (exec_pmcPck0R s)
  case pck1W => exact exec_of_ready ready (exec_pmcPck1W v s)
  case pck1 => exact exec_readPlain_of_ready ready (exec_pmcPck1R s)
  case ier => exact exec_of_ready ready (exec_pmcIerW v s)
  case idr => exact exec_of_ready ready (exec_pmcIdrW v s)
  case imr => exact exec_readPlain_of_ready ready (exec_pmcImrR s)
  case sr =>
    refine ⟨s.pmc.sr, exec_readPlain_of_ready ready (exec_pmcSrR s), ?_⟩
    simp [Pmc.sr, bit_or, bit_bitAt, or_and, bitAt_and, x]
  case pllicprW => exact exec_of_ready ready (exec_pmcPllicprW v s)
  case pllicpr => exact exec_readPlain_of_ready ready (exec_pmcPllicprR s)

/-- Settles O53: the recomputation by whether the clock changes, and its idempotence for the repeated write. -/
theorem pmcMasterClock : Obligations.PmcMasterClock := by
  refine ⟨?update, fun s t v ready first => ?again⟩
  case update =>
    intro s x src valid hz t
    obtain ⟨r, updated, pmc, aic, stub⟩ := pmcUpdate_settled s
    have hv : valid = x.valid := rfl
    have hh : hz = x.newHz := rfl
    have level : pmcUpdate s = driveStub 3 (decide (t.pmc.sr &&& t.pmc.imr ≠ 0#32)) r := by
      have same : t.pmc = r.pmc := (pmcUpdate_pmc s).trans pmc.symm
      rw [same, updated]
      rfl
    obtain ⟨stubs, lines⟩ := driveStub_congr aic stub 3 (decide (t.pmc.sr &&& t.pmc.imr ≠ 0#32))
    refine ⟨pmcUpdate_pmc s, ⟨?input, ?stubs, ?lines⟩, fun same => ?unchanged, fun on changed => ?changed, fun n other => ?_⟩
    case input =>
      have after : t.stubIn = _ := congrArg State.stubIn level
      rw [after, driveStub_stubIn]
      exact bit_putBit_same _ 3 _
    case stubs => exact (congrArg State.stubIn level).trans stubs
    case lines => exact (congrArg State.aic level).trans lines
    case unchanged =>
      have frame := pmcUpdateIrq_frame (s.setPmc s.pmc.settled)
      rw [← pmcUpdate_same same] at frame
      rw [pmcUpdate_pmc]
      exact frame
    case changed =>
      obtain ⟨frame, usart, tc⟩ := mclkChanged_frame (s.setPmc s.pmc.settled)
      obtain ⟨q, hq⟩ : ∃ q, q = mclkChanged (s.setPmc s.pmc.settled) := ⟨_, rfl⟩
      have done : t = pmcUpdateIrq q := by rw [hq]; exact pmcUpdate_changed on changed
      have clock : (s.setPmc s.pmc.settled).pmc.mclkHz = hz := if_pos on
      have clocked : t.pmc.mclkHz = hz := (congrArg Pmc.mclkHz (pmcUpdate_pmc s)).trans clock
      rw [← hq, clock] at frame usart tc
      refine ⟨?_, ?_, fun u => ?_, fun c => ?_, fun u k divided => ?_, ?_, ?_⟩
      · rw [done, pmcUpdateIrq_pit, frame]; rfl
      · rw [done, pmcUpdateIrq_twi, frame]; rfl
      · rw [done, pmcUpdateIrq_usart, usart]; rfl
      · rw [done, pmcUpdateIrq_tc, tc]; rfl
      · have spi : t.spi u = s.spi u := by rw [done, pmcUpdateIrq_spi, frame]; rfl
        rw [State.spiClock, clocked, spi]
        exact if_neg divided
      · have mci : t.mci = s.mci := by rw [done, pmcUpdateIrq_mci, frame]; rfl
        rw [State.mciClock, clocked, mci]
      · exact pmcUpdate_frame s
    have line := driveStub_onlyLine 3 (decide (t.pmc.sr &&& t.pmc.imr ≠ 0#32)) r
    rw [← level, aic] at line
    exact (line.1 n other).1
  case again =>
    rw [exec_of_ready ready (exec_pmcMckrW v s)] at first
    obtain rfl : _ = t := Host.Outcome.next.inj first
    have updated : pmcWriteMckr v s = pmcUpdate (s.setPmc { s.pmc with mckr := v &&& 0x0000131F#32 }) := rfl
    rw [updated]
    obtain ⟨r, hr⟩ : ∃ r, r = s.setPmc { s.pmc with mckr := v &&& 0x0000131F#32 } := ⟨_, rfl⟩
    have ready1 : (pmcUpdate r).ready = true := by rw [pmcUpdate_ready, hr]; exact ready
    have stored : (pmcUpdate r).pmc.mckr = v &&& 0x0000131F#32 := by rw [pmcUpdate_pmc, hr]; rfl
    have same : (pmcUpdate r).setPmc { (pmcUpdate r).pmc with mckr := v &&& 0x0000131F#32 } = pmcUpdate r := by
      rw [← stored]; rfl
    have rewritten : pmcWriteMckr v (pmcUpdate r)
        = pmcUpdate ((pmcUpdate r).setPmc { (pmcUpdate r).pmc with mckr := v &&& 0x0000131F#32 }) := rfl
    rw [← hr, exec_of_ready ready1 (exec_pmcMckrW v _), rewritten, same, pmcUpdate_idem]

end Sys2Proof
end

section
/-! The AIC: its registers, selection, acknowledge and outputs (R200 to R225). O18, O19, O21, O22, O23, O24. -/

namespace Sys2Proof.Machine

/-! ### Words of lines -/

theorem bitsOf_getLsbD (n : Nat) (f : Nat → Bool) {i : Nat} (hi : i < n) : (bitsOf n f).getLsbD i = f i := by
  induction n with
  | zero => omega
  | succ n ih =>
    rw [bitsOf, BitVec.getLsbD_cons]
    split
    next last => rw [last]
    next other => exact ih (by omega)

/-- The word of a property of the lines, bit by bit. -/
theorem bit_bitsOf (f : Fin 32 → Bool) (n : Fin 32) : bit (bitsOf 32 fun i => f (Fin.ofNat 32 i)) n.val = f n := by
  rw [bit, bitsOf_getLsbD 32 _ n.isLt]
  congr 1
  exact Fin.ext (Nat.mod_eq_of_lt n.isLt)

theorem Aic.bit_ipr (a : Aic) (n : Fin 32) : bit a.ipr n.val = a.pending n := bit_bitsOf a.pending n

theorem Aic.bit_edgeLines (a : Aic) (n : Fin 32) : bit a.edgeLines n.val = a.isEdge n := bit_bitsOf a.isEdge n

theorem bit_setBits (w v : Word) (n : Nat) : bit (setBits w v) n = (bit w n || bit v n) := bit_or w v n

theorem bit_and (w v : Word) (n : Nat) : bit (w &&& v) n = (bit w n && bit v n) := BitVec.getLsbD_and

theorem bit_clearBits (w v : Word) (n : Fin 32) : bit (clearBits w v) n.val = (bit w n.val && !bit v n.val) := by
  simp [clearBits, bit]

/-- The line on top of the stack (R220). -/
theorem Aic.isr_empty {a : Aic} (empty : a.stack = []) : a.isr = 0#32 := by
  rw [isr, empty]; rfl

theorem Aic.isr_top {a : Aic} {es : List AicEntry} {e : AicEntry} (top : a.stack = es ++ [e]) :
    a.isr = BitVec.ofNat 32 e.irq.val := by
  rw [isr, top, List.getLast?_concat]

theorem Aic.cisr_eq (a : Aic) : a.cisr = (if a.nfiq then 1#32 else 0#32) ||| if a.nirq then 2#32 else 0#32 := by
  unfold cisr
  cases a.nfiq <;> cases a.nirq <;> decide

/-! ### Types, pending lines and selection -/

/-- The two bits of `SRCTYPE` (R24). -/
theorem field_srctype (w : Word) : field w 6 5 = 2 * (bit w 6).toNat + (bit w 5).toNat := by
  simp only [field, bit, BitVec.extractLsb_toNat, BitVec.getLsbD, Nat.toNat_testBit, Nat.shiftRight_eq_div_pow]
  omega

section

variable {a : Aic} {n : Fin 32}

theorem Aic.effType_inner (low : 1 ≤ n.val) (high : n.val ≤ 28) :
    a.effType n = if bit a.smr[n.val] 5 then .edgeRising else .levelHigh := if_pos ⟨low, high⟩

theorem Aic.effType_outer (outer : n.val ∈ [0, 29, 30, 31]) :
    a.effType n = match bit a.smr[n.val] 6, bit a.smr[n.val] 5 with
      | false, false => .levelLow
      | false, true => .edgeFalling
      | true, false => .levelHigh
      | true, true => .edgeRising := by
  have apart : ¬(1 ≤ n.val ∧ n.val ≤ 28) := by simp at outer; omega
  rw [effType, if_neg apart, field_srctype]
  cases bit a.smr[n.val] 6 <;> cases bit a.smr[n.val] 5 <;> rfl

/-- What is pending depends on the line's type, latch and level only (R202). -/
theorem Aic.pending_congr {b : Aic} (smr : b.smr = a.smr) (latch : bit b.latch n.val = bit a.latch n.val)
    (line : b.line = a.line) : b.pending n = a.pending n := by
  have type : b.effType n = a.effType n := by simp only [effType, smr]
  simp only [pending, type, latch, line]

/-- A level line does not look at its latch (R202). -/
theorem Aic.pending_level {b : Aic} (smr : b.smr = a.smr) (line : b.line = a.line) (level : a.isEdge n = false) :
    b.pending n = a.pending n := by
  have type : b.effType n = a.effType n := by simp only [effType, smr]
  unfold isEdge at level
  simp only [pending, type, line]
  cases kind : a.effType n <;> simp_all

/-- No candidate has a greater priority than the selected line (R211). -/
theorem Aic.prio_le_of_select (selected : a.select = some n) (m : Fin 32) (candidate : a.cand m = true) :
    a.prio m ≤ a.prio n := by
  obtain ⟨-, first⟩ := (a.select_eq_some_iff n).1 selected
  rcases first m candidate with above | ⟨same, -⟩
  · exact above.le
  · exact same.le

/-! ### The outputs -/

theorem Aic.aboveCurrent_iff (p : Nat) :
    a.aboveCurrent p = true ↔ a.stack = [] ∨ ∃ es e, a.stack = es ++ [e] ∧ e.prio < p := by
  unfold aboveCurrent
  rcases List.eq_nil_or_concat a.stack with empty | ⟨es, e, top⟩
  · simp [empty]
  · rw [List.concat_eq_append] at top
    rw [top, List.getLast?_concat]
    simp

/-- nIRQ (R217). -/
theorem Aic.nirqLevel_iff : a.nirqLevel = true ↔
    bit a.dcr 1 = false ∧ ∃ n, a.cand n = true ∧ a.aboveCurrent (a.prio n) = true := by
  simp [nirqLevel, masked]

/-- nFIQ (R218). -/
theorem Aic.nfiqLevel_iff : a.nfiqLevel = true ↔
    bit a.dcr 1 = false ∧ ∃ n : Fin 32, a.pending n = true ∧ bit a.imr n.val = true
      ∧ (n.val = 0 ∨ bit a.ffsr n.val = true) := by
  simp [nfiqLevel, masked, and_assoc]

end

/-! ### Input lines -/

/-- A word with one bit changed, at that bit and elsewhere (R222). -/
theorem bit_latchAfter_other (a : Aic) {n m : Fin 32} (b : Bool) (other : m ≠ n) :
    bit (a.latchAfter n b) m.val = bit a.latch m.val := by
  unfold Aic.latchAfter
  split <;> cases b <;> simp [bit_putBit_other _ _ other]

/-- An edge of the line's type sets its latch (R222). -/
theorem bit_latchAfter_same (a : Aic) (n : Fin 32) (b : Bool) : bit (a.latchAfter n b) n.val = true ↔
    bit a.latch n.val = true ∨ (a.effType n = .edgeRising ∧ b = true) ∨ (a.effType n = .edgeFalling ∧ b = false) := by
  unfold Aic.latchAfter
  cases a.effType n <;> cases b <;> simp [bit_putBit_same]

/-! ### The acknowledge -/

/-- The latches after an acknowledge of line `n` (R212). -/
def Aic.acknowledged (n : Fin 32) (a : Aic) : Aic := { a with
  stack := a.stack ++ [AicEntry.mk n (a.prio n)]
  latch := if a.isEdge n then putBit a.latch n.val false else a.latch }

section

variable {s : State} {n : Fin 32}

theorem aicAcknowledge_full (full : s.aic.stack.length = 8) : aicAcknowledge s = s.raise (.aicStack 8) := by
  refine (if_pos full).trans ?_
  rw [full]

theorem aicAcknowledge_some (selected : s.aic.select = some n) (room : s.aic.stack.length ≠ 8) :
    aicAcknowledge s = s.setAic (s.aic.acknowledged n).update := by
  refine (if_neg room).trans ?_
  rw [selected]
  rfl

theorem aicAcknowledge_none (spurious : s.aic.select = none) (room : s.aic.stack.length ≠ 8) :
    aicAcknowledge s = s.setAic ({ s.aic with stack := s.aic.stack ++ [AicEntry.mk 0 8] }).update := by
  refine (if_neg room).trans ?_
  rw [spurious]
  rfl

theorem aicReadIvr_protect (protect : bit s.aic.dcr 0 = true) : aicReadIvr s = s.setRdata s.aic.vector := if_pos protect

theorem aicReadIvr_open (unprotected : bit s.aic.dcr 0 = false) :
    aicReadIvr s = (aicAcknowledge s).andThen fun t => t.setRdata s.aic.vector :=
  if_neg (Bool.eq_false_iff.1 unprotected)

theorem Aic.vector_some (selected : s.aic.select = some n) : s.aic.vector = s.aic.svr[n.val] := by
  rw [vector, selected]

theorem Aic.vector_none (spurious : s.aic.select = none) : s.aic.vector = s.aic.spu := by
  rw [vector, spurious]

/-- A read of `IVR` that acknowledges a line (R212). -/
theorem aicReadIvr_some (live : s.fault = none) (selected : s.aic.select = some n) (unprotected : bit s.aic.dcr 0 = false)
    (room : s.aic.stack.length ≠ 8) :
    aicReadIvr s = (s.setAic (s.aic.acknowledged n).update).setRdata s.aic.svr[n.val] := by
  rw [aicReadIvr_open unprotected, aicAcknowledge_some selected room, Aic.vector_some selected,
    State.andThen_live _ (by exact live)]

/-- The pending lines after an acknowledge (R202, R212). -/
theorem Aic.acknowledged_pending_other (a : Aic) {n m : Fin 32} (other : m ≠ n) :
    (a.acknowledged n).pending m = a.pending m := by
  refine pending_congr rfl ?_ rfl
  unfold acknowledged
  dsimp only
  split
  · exact bit_putBit_other _ _ other
  · rfl

theorem Aic.acknowledged_pending_edge {a : Aic} (edge : a.isEdge n = true) : (a.acknowledged n).pending n = false := by
  have still : (a.acknowledged n).isEdge n = true := edge
  rw [pending_of_isEdge still]
  unfold acknowledged
  rw [if_pos edge]
  exact bit_putBit_same _ n false

theorem Aic.acknowledged_pending_level {a : Aic} (level : a.isEdge n = false) :
    (a.acknowledged n).pending n = a.pending n := pending_level rfl rfl level

/-- No candidate is above the line in service (R217, R225). -/
theorem Aic.acknowledged_nirq {a : Aic} (selected : a.select = some n) : (a.acknowledged n).nirqLevel = false := by
  rw [Bool.eq_false_iff]
  intro asserted
  obtain ⟨-, m, candidate, above⟩ := nirqLevel_iff.1 asserted
  have higher : a.prio n < a.prio m := by
    rcases (aboveCurrent_iff _).1 above with empty | ⟨es, e, top, higher⟩
    · exact absurd empty (List.append_ne_nil_of_right_ne_nil _ (List.cons_ne_nil _ _))
    · obtain ⟨-, entry⟩ := List.append_inj' (show a.stack ++ [AicEntry.mk n (a.prio n)] = es ++ [e] from top) rfl
      obtain rfl := List.singleton_inj.1 entry
      exact higher
  have other : m ≠ n := by
    rintro rfl
    exact lt_irrefl _ higher
  obtain ⟨outer, pending, enabled, unforced⟩ := (cand_iff _ m).1 candidate
  rw [acknowledged_pending_other a other] at pending
  exact absurd (prio_le_of_select selected m ((cand_iff a m).2 ⟨outer, pending, enabled, unforced⟩)) (Nat.not_le.2 higher)

end

end Sys2Proof.Machine

namespace Sys2Proof

open Machine

/-- Settles O18: each row runs its operation; the words of lines bit by bit. -/
theorem aicRegisters : Obligations.AicRegisters := by
  intro s v ready
  refine ⟨fun n => ⟨?smr, ?smrW, ?svr, ?svrW⟩, ?spu, ?spuW, ?dcr, ?dcrW, ?imr, ?iecr, ?idcr, ?ffsr, ?ffer, ?ffdr, ?iscr,
    ?iccr, ?ipr, fun empty => ?isrEmpty, fun e es top => ?isrTop, ?cisr⟩
  case smr => exact exec_readPlain_of_ready ready (exec_aicSmrR n s)
  case smrW => exact exec_of_ready ready (exec_aicSmrW n v s)
  case svr => exact exec_readPlain_of_ready ready (exec_aicSvrR n s)
  case svrW => exact exec_of_ready ready (exec_aicSvrW n v s)
  case spu => exact exec_readPlain_of_ready ready (exec_aicSpuR s)
  case spuW => exact exec_of_ready ready (exec_aicSpuW v s)
  case dcr => exact exec_readPlain_of_ready ready (exec_aicDcrR s)
  case dcrW => exact exec_of_ready ready (exec_aicDcrW v s)
  case imr => exact exec_readPlain_of_ready ready (exec_aicImrR s)
  case iecr => exact exec_of_ready ready (exec_aicIecrW v s)
  case idcr => exact exec_of_ready ready (exec_aicIdcrW v s)
  case ffsr => exact exec_readPlain_of_ready ready (exec_aicFfsrR s)
  case ffer => exact exec_of_ready ready (exec_aicFferW v s)
  case ffdr => exact exec_of_ready ready (exec_aicFfdrW v s)
  case iscr =>
    refine ⟨setBits s.aic.latch (v &&& s.aic.edgeLines), exec_of_ready ready (exec_aicIscrW v s), fun n => ?_⟩
    rw [bit_setBits, bit_and, Aic.bit_edgeLines]
  case iccr =>
    refine ⟨clearBits s.aic.latch (v &&& s.aic.edgeLines), exec_of_ready ready (exec_aicIccrW v s), fun n => ?_⟩
    rw [bit_clearBits, bit_and, Aic.bit_edgeLines]
  case ipr => exact ⟨s.aic.ipr, exec_readPlain_of_ready ready (exec_aicIprR s), s.aic.bit_ipr⟩
  case isrEmpty => rw [← Aic.isr_empty empty]; exact exec_readPlain_of_ready ready (exec_aicIsrR s)
  case isrTop => rw [← Aic.isr_top top]; exact exec_readPlain_of_ready ready (exec_aicIsrR s)
  case cisr => rw [← Aic.cisr_eq]; exact exec_readPlain_of_ready ready (exec_aicCisrR s)

/-- Settles O19: by the protect mode, the selected line and the room on the stack. -/
theorem aicAcknowledge : Obligations.AicAcknowledge := by
  intro s v ready
  have live := State.ready_fault ready
  have read := exec_of_ready ready (exec_aicIvrR s)
  have write := exec_of_ready ready (exec_aicIvrW v s)
  have written (protect : bit s.aic.dcr 0 = true) : aicWriteIvr s = Machine.aicAcknowledge s := if_pos protect
  refine ⟨fun n selected open_ room => ?_, fun spurious open_ room => ?_, fun open_ full => ⟨_, read, ?_⟩,
    fun n selected protect => ?_, fun spurious protect => ?_, fun open_ => ?_, fun n selected protect room => ?_,
    fun spurious protect room => ?_, fun protect full => ⟨_, write, ?_⟩, exec_of_ready ready (exec_aicEoicrW v s),
    exec_of_ready ready (exec_aicFvrR s)⟩
  · exact read.trans (congrArg _ (aicReadIvr_some live selected open_ room))
  · rw [read, aicReadIvr_open open_, aicAcknowledge_none spurious room, Aic.vector_none spurious,
      State.andThen_live _ (by exact live)]
  · rw [aicReadIvr_open open_, aicAcknowledge_full full, State.andThen_aborted _ rfl]
    rfl
  · rw [read, aicReadIvr_protect protect, Aic.vector_some selected]
  · rw [read, aicReadIvr_protect protect, Aic.vector_none spurious]
  · exact write.trans (congrArg _ (if_neg (Bool.eq_false_iff.1 open_)))
  · rw [write, written protect]
    exact congrArg _ (aicAcknowledge_some selected room)
  · rw [write, written protect, aicAcknowledge_none spurious room]
  · rw [written protect, aicAcknowledge_full full]
    rfl

/-- Settles O21: the types by the two bits of `SRCTYPE`, the outputs by their levels. -/
theorem aicOutputs : Obligations.AicOutputs := by
  refine ⟨fun a n => ⟨Aic.effType_inner, Aic.effType_outer, a.isEdge_iff n⟩, fun a => ⟨?nirq, ?nfiq, rfl⟩⟩
  case nirq =>
    rw [show a.update.nirq = a.nirqLevel from rfl, Aic.nirqLevel_iff]
    simp only [Aic.aboveCurrent_iff]
  case nfiq =>
    rw [show a.update.nfiq = a.nfiqLevel from rfl, Aic.nfiqLevel_iff]
    refine and_congr_right fun _ => ⟨?_, ?_⟩
    · rintro ⟨n, pending, enabled, zero | forced⟩
      · obtain rfl : n = 0 := Fin.ext zero
        exact .inl ⟨pending, enabled⟩
      · rcases Nat.eq_zero_or_pos n.val with zero | positive
        · obtain rfl : n = 0 := Fin.ext zero
          exact .inl ⟨pending, enabled⟩
        · exact .inr ⟨n, positive, forced, pending, enabled⟩
    · rintro (⟨pending, enabled⟩ | ⟨n, -, forced, pending, enabled⟩)
      · exact ⟨0, pending, enabled, .inl rfl⟩
      · exact ⟨n, pending, enabled, .inr forced⟩

/-- Settles O22: the line in service is the greatest candidate, so none is above it. -/
theorem acknowledgeProtocol : Obligations.AcknowledgeProtocol := by
  intro s t n v ready selected unprotected room first
  have live := State.ready_fault ready
  rw [exec_of_ready ready (exec_aicIvrR s), aicReadIvr_some live selected unprotected (by omega)] at first
  obtain rfl : _ = t := Host.Outcome.next.inj first
  obtain ⟨outer, pending, enabled, unforced⟩ := (s.aic.cand_iff n).1 ((s.aic.select_eq_some_iff n).1 selected).1
  refine ⟨live, Aic.acknowledged_pending_edge, fun level => (Aic.acknowledged_pending_level level).trans pending,
    fun m other => s.aic.acknowledged_pending_other other, Aic.acknowledged_nirq selected, _,
    exec_of_ready ready (exec_aicEoicrW v _), List.dropLast_concat, fun level unmasked empty => ?_⟩
  refine Aic.nirqLevel_iff.2 ⟨unmasked, n, (Aic.cand_iff _ n).2 ⟨outer, ?_, enabled, unforced⟩, ?_⟩
  · exact Eq.trans (Aic.pending_level (a := s.aic) (by rfl) (by rfl) level) pending
  · refine (Aic.aboveCurrent_iff _).2 (.inl ?_)
    exact List.dropLast_concat.trans empty

/-- Settles O23: by whether the level changes. -/
theorem interruptLines : Obligations.InterruptLines := by
  refine ⟨fun s n b => ⟨fun same => if_pos same, fun changed => ?_⟩, fun s k b => ?_, fun s n b rest live inputs => ?_⟩
  · exact ⟨_, _, if_neg changed, bit_putBit_same _ n b,
      fun m other => ⟨bit_putBit_other _ _ other, bit_latchAfter_other _ b other⟩, bit_latchAfter_same _ n b⟩
  · exact ⟨_, rfl, bit_putBit_same _ k b, fun m other => bit_putBit_other _ _ other⟩
  · rw [step_of_other live inputs rfl]
    have row : runInput (.pin n b) (s.setInputs rest)
        = .next (if isPin n then driveLine n b (s.setInputs rest) else s.setInputs rest) := rfl
    have pins : isPin n = true ↔ n.val ∈ [0, 29, 30, 31] := by
      simp [isPin]
      omega
    rw [row]
    exact ⟨fun pin => by rw [if_pos (pins.2 pin)], fun other => by rw [if_neg (mt pins.1 other)]⟩

/-- Settles O24: each recomputation drives its own line or input. -/
theorem interruptOutputs : Obligations.InterruptOutputs := by
  intro s
  refine ⟨fun u => ?usart, fun u => ?spi, rfl, ?mci, fun c => ?tc, fun p => ?pio, rfl, rfl, rfl, rfl, rfl, fun u => rfl,
    fun u => rfl, rfl, rfl, fun n b => ⟨driveLine_frame n b s, driveLine_line n b s⟩, fun k b => driveStub_frame k b s⟩
  case usart => fin_cases u <;> rfl
  case spi => fin_cases u <;> rfl
  case mci =>
    unfold mciUpdateIrq
    dsimp only
    rw [driveLine_sd]
  case tc => fin_cases c <;> rfl
  case pio => fin_cases p <;> rfl

end Sys2Proof
end

section
/-! The SoC reset and the machine as constructed (R820, R821, R826). O8, O10. -/

namespace Sys2Proof.Machine

/-! ### The reset frames -/

/-- A frame leaves every other link alone (R735). -/
theorem emit_link_ne {l m : LinkId} (other : m ≠ l) (cat id : Byte) (payload : List Byte) (s : State) :
    (emit l cat id payload s).link m = s.link m := by
  rw [emit_frame]
  exact State.setLink_link_ne s l m _ other

/-- The frames of a reset (R820): each PIO announces its pins. -/
def pioAnnounceAll (s : State) : State := pioEmitOut 2 (pioEmitOut 1 (pioEmitOut 0 s))

/-- The links replaced (R735). -/
def State.withLinks (s : State) (ls : Vector Iox 13) : State := { s with links := ls }

theorem emit_withLinks (l : LinkId) (cat id : Byte) (payload : List Byte) (s : State) :
    emit l cat id payload s = s.withLinks (emit l cat id payload s).links := by
  rw [emit_frame]; rfl

theorem pioAnnounceAll_frame (s : State) : pioAnnounceAll s = s.withLinks (pioAnnounceAll s).links := by
  unfold pioAnnounceAll pioEmitOut
  rw [emit_withLinks (.pio 2), emit_withLinks (.pio 1), emit_withLinks (.pio 0)]
  rfl

/-- Only the links of the PIOs take part (R820). -/
theorem pioAnnounceAll_link_other {l : LinkId} (other : ∀ p, l ≠ .pio p) (s : State) :
    (pioAnnounceAll s).link l = s.link l := by
  unfold pioAnnounceAll pioEmitOut
  rw [emit_link_ne (other 2), emit_link_ne (other 1), emit_link_ne (other 0)]

/-- The link of a PIO takes that PIO's own announcement (R663, R820). -/
theorem pioAnnounceAll_link_pio (p : Fin 3) (s : State) :
    (pioAnnounceAll s).link (.pio p) = (emit (.pio p) 1#8 3#8 (leBytes 4 (s.pio p).pdsr) s).link (.pio p) := by
  unfold pioAnnounceAll pioEmitOut
  simp only [emit_pio]
  match p with
  | 0 => rw [emit_link_ne (by decide), emit_link_ne (by decide)]
  | 1 =>
    rw [emit_link_ne (by decide)]
    exact emit_link_congr (emit_link_ne (by decide) ..) ..
  | 2 => exact emit_link_congr ((emit_link_ne (by decide) ..).trans (emit_link_ne (by decide) ..)) ..

/-! ### What a reset leaves -/

theorem resetRegisters_pio (p : Fin 3) (s : State) : (resetRegisters s).pio p = Pio.resetWith (s.pio p).extLevel := by
  simp [resetRegisters, State.pio]

/-- The machine after a SoC reset (R820): its outputs follow the lines that stay, and PIOB pin 7 selects the card. -/
theorem socReset_eq (s : State) : socReset s = { resetRegisters s with
    links := (pioAnnounceAll (resetRegisters s)).links
    mci := Mci.resetWith (cardOf s.params.mciCardPolarity (bit (s.pio 1).extLevel 7)) } := by
  have outputs : s.aic.socReset.update = s.aic.socReset := s.aic.socReset_consistent.1
  have card (t : State) : pioSelectCard 1 t = t.setMci
      { t.mci with selectedCard := cardOf t.params.mciCardPolarity (bit (t.pio 1).pdsr 7) } := rfl
  have unfolded : socReset s = aicUpdate (pioSelectCard 1 (pioAnnounceAll (resetRegisters s))) := rfl
  have pins (ls : Vector Iox 13) : (((resetRegisters s).withLinks ls).pio 1).pdsr = (s.pio 1).extLevel := by
    rw [show ((resetRegisters s).withLinks ls).pio 1 = (resetRegisters s).pio 1 from rfl, resetRegisters_pio]
    rfl
  rw [unfolded, card, pioAnnounceAll_frame, pins]
  exact congrArg (fun a => ((({ resetRegisters s with
    links := (pioAnnounceAll (resetRegisters s)).links
    mci := Mci.resetWith (cardOf s.params.mciCardPolarity (bit (s.pio 1).extLevel 7)) } : State)).setAic a)) outputs

section

variable {s : State}

theorem socReset_pio (p : Fin 3) (s : State) : (socReset s).pio p = Pio.resetWith (s.pio p).extLevel :=
  (congrArg (fun t : State => t.pio p) (socReset_eq s)).trans (resetRegisters_pio p s)

theorem socReset_aic (s : State) : (socReset s).aic = s.aic.socReset := by rw [socReset_eq]; rfl

theorem socReset_usart (u : Fin 6) (s : State) : (socReset s).usart u = Usart.reset := by
  rw [socReset_eq]; simp [resetRegisters, State.usart]

theorem socReset_spi (u : Fin 2) (s : State) : (socReset s).spi u = Spi.reset := by
  rw [socReset_eq]; simp [resetRegisters, State.spi]

theorem socReset_pdc (h : PdcHost) (s : State) : (socReset s).pdc h = Pdc.reset := by
  rw [socReset_eq]; simp [resetRegisters, State.pdc]

theorem socReset_tc (c : Fin 6) (s : State) : (socReset s).tc c = TcChannel.reset := by
  rw [socReset_eq]; simp [resetRegisters, State.tc]

theorem socReset_links (s : State) : (socReset s).links = (pioAnnounceAll (resetRegisters s)).links := by rw [socReset_eq]

theorem socReset_link (l : LinkId) (s : State) : (socReset s).link l = (pioAnnounceAll (resetRegisters s)).link l :=
  congrArg (fun ls : Vector Iox _ => ls[(linkIndex l).val]) (socReset_links s)

theorem socReset_link_pio (p : Fin 3) (s : State) :
    (socReset s).link (.pio p) = (emit (.pio p) 1#8 3#8 (leBytes 4 (s.pio p).extLevel) s).link (.pio p) := by
  rw [socReset_link, pioAnnounceAll_link_pio, resetRegisters_pio]
  exact emit_link_congr (s := s) (t := resetRegisters s) rfl ..

/-- A reset by its fields (R820): what is kept, and the reset state elsewhere. -/
theorem socReset_fields (s : State) : socReset s = { State.reset with
    params := s.params, inputs := s.inputs, rdata := s.rdata, fault := s.fault, mem := s.mem, sd := s.sd
    consoleOut := s.consoleOut, links := (socReset s).links
    bootTarget := if s.params.bms then .rom else .ebiNcs0
    aic := { State.reset.aic with line := s.aic.line &&& 0xE0000001#32 }
    mci := { State.reset.mci with
      selectedCard := if bit (s.pio 1).extLevel 7 = s.params.mciCardPolarity then 1 else 0 }
    pios := s.pios.map fun x => { State.reset.pio 0 with pdsr := x.extLevel, extLevel := x.extLevel }
    pmc := { State.reset.pmc with mclkChanges := s.pmc.mclkChanges }
    rstc := { State.reset.rstc with rsttyp := s.rstc.rsttyp } } := by
  rw [socReset_links]
  exact socReset_eq s

end

/-! ### The machine as constructed -/

/-- Nothing is connected and nothing buffered (R78, R821). -/
theorem State.reset_link (l : LinkId) : State.reset.link l = Iox.reset := by simp [State.reset, State.link]

theorem State.reset_pio (p : Fin 3) : State.reset.pio p = Pio.resetWith 0 := by simp [State.reset, State.pio]

/-- A reset of the machine as constructed changes nothing (R820, R821). -/
theorem socReset_reset : socReset State.reset = State.reset := by
  have silent (p : Fin 3) (t : State) (links : t.links = State.reset.links) : pioEmitOut p t = t := by
    have off : t.link (.pio p) = Iox.reset := by
      rw [State.link, links]; exact State.reset_link (.pio p)
    rw [pioEmitOut, emit, off]
    rfl
  have pios : State.reset.pios.map (fun x => Pio.resetWith x.extLevel) = State.reset.pios := by
    simp [State.reset, Pio.resetWith]
  have registers : resetRegisters State.reset = State.reset :=
    calc resetRegisters State.reset
        = { State.reset with pios := State.reset.pios.map fun x => Pio.resetWith x.extLevel } := rfl
      _ = State.reset := by rw [pios]
  have links : pioAnnounceAll State.reset = State.reset := by
    rw [pioAnnounceAll, silent 0 _ rfl, silent 1 _ rfl, silent 2 _ rfl]
  rw [socReset_eq, registers, links, State.reset_pio]
  rfl

/-! ### The memory with an image -/

theorem Memory.wf_place (a : Nat) (bs : List Byte) {m : List Host.Cell} (wf : Memory.wf m = true) :
    Memory.wf (Memory.place a bs m) = true := by
  induction bs generalizing a m with
  | nil => exact wf
  | cons b bs ih => exact ih _ (Memory.wf_write a b wf)

/-- Placing bytes leaves the memory below and above them alone (R826). -/
theorem Memory.read_place_other {a c : Nat} {bs : List Byte} {m : List Host.Cell} (wf : Memory.wf m = true)
    (other : ∀ i < bs.length, c ≠ a + i) : Memory.read (Memory.place a bs m) c = Memory.read m c := by
  induction bs generalizing a m with
  | nil => rfl
  | cons b bs ih =>
    have here : c ≠ a := other 0 (by simp)
    rw [Memory.place, ih (Memory.wf_write a b wf), Memory.read_write_ne b wf here]
    intro i hi
    have := other (i + 1) (by simpa using hi)
    omega

/-- Each placed byte stands at its place (R826). -/
theorem Memory.read_place {a i : Nat} {b : Byte} {bs : List Byte} {m : List Host.Cell} (wf : Memory.wf m = true)
    (placed : bs[i]? = some b) : Memory.read (Memory.place a bs m) (a + i) = b := by
  induction bs generalizing a i m with
  | nil => simp at placed
  | cons x bs ih =>
    have kept := Memory.wf_write a x wf
    rw [Memory.place]
    cases i with
    | zero =>
      rw [Memory.read_place_other kept (by omega), Nat.add_zero, Memory.read_write_same a x wf]
      exact Option.some.inj placed
    | succ i =>
      rw [show a + (i + 1) = a + 1 + i by omega]
      exact ih kept placed

theorem imageMemory_wf (z : MemSizes) (image : List Byte) : Memory.wf (imageMemory z image) = true :=
  Memory.wf_place _ _ (Memory.wf_place _ _ rfl)

/-- The byte of the image that NOR holds (R826). -/
theorem imageMemory_nor {z : MemSizes} {image : List Byte} {i : Nat} {b : Byte} (fits : z.nor ≤ 0x10000000) (hi : i < z.nor)
    (byte : image[i]? = some b) : Memory.read (imageMemory z image) (0x10000000 + i) = b := by
  rw [imageMemory, Memory.read_place_other (Memory.wf_place _ _ rfl) (by omega)]
  exact Memory.read_place rfl (by rw [List.getElem?_take_of_lt hi]; exact byte)

/-- The byte of the image that SDRAM holds (R826). -/
theorem imageMemory_sdram {z : MemSizes} {image : List Byte} {i : Nat} {b : Byte} (hi : i < z.sdram)
    (byte : image[i]? = some b) : Memory.read (imageMemory z image) (0x20000000 + i) = b :=
  Memory.read_place (Memory.wf_place _ _ rfl) (by rw [List.getElem?_take_of_lt hi]; exact byte)

/-- Every other byte is 0 (R826). -/
theorem imageMemory_other {z : MemSizes} {image : List Byte} {c : Nat}
    (nor : ∀ i, i < z.nor → i < image.length → c ≠ 0x10000000 + i)
    (sdram : ∀ i, i < z.sdram → i < image.length → c ≠ 0x20000000 + i) :
    Memory.read (imageMemory z image) c = 0#8 := by
  rw [imageMemory, Memory.read_place_other (Memory.wf_place _ _ rfl), Memory.read_place_other rfl]
  · rfl
  · intro i hi
    rw [List.length_take] at hi
    exact nor i (by omega) (by omega)
  · intro i hi
    rw [List.length_take] at hi
    exact sdram i (by omega) (by omega)

end Sys2Proof.Machine

namespace Sys2Proof

open Machine

/-- Settles O10: by the fields of the reset machine and the links of the PIOs. -/
theorem socResetPreserves : Obligations.SocResetPreserves := by
  refine ⟨fun s => ?kept, socReset_fields, fun s rest live inputs => step_of_other live inputs rfl⟩
  refine ⟨?_, ?_, ?_, ?_, ?_, ?_, fun p => ?pins, fun n pin => ?lines, fun l other => ?links, fun p off => ?silent,
    fun p on => ?announced⟩
  case pins => rw [socReset_pio]; rfl
  case lines =>
    rw [socReset_aic]
    have kept : (0xE0000001#32).getLsbD n = true := by
      simp only [List.mem_cons, List.not_mem_nil, or_false] at pin
      rcases pin with rfl | rfl | rfl | rfl <;> rfl
    exact (bit_and s.aic.line _ n).trans (by rw [show bit 0xE0000001#32 n = true from kept, Bool.and_true])
  case links => exact (socReset_link l s).trans (pioAnnounceAll_link_other other _)
  case silent => rw [socReset_link_pio, emit]; simp [off]
  case announced => rw [socReset_link_pio, emit]; simp [on]
  all_goals rw [socReset_eq]; rfl

/-- Settles O8: the reset state by its fields, and the image byte by byte. -/
theorem resetState : Obligations.ResetState := by
  refine ⟨rfl, rfl, rfl, rfl, rfl, rfl, rfl, fun a => rfl, fun l => ?links, fun p => ?pins, socReset_reset,
    by decide, rfl, ?aic, fun l => ?buffers, rfl, fun p image sizes => ?image⟩
  case links => rw [State.reset_link]; exact ⟨rfl, rfl, rfl, rfl⟩
  case pins => rw [State.reset_pio]; rfl
  case aic =>
    have consistent := State.reset.aic.socReset_consistent
    rw [← socReset_aic, socReset_reset] at consistent
    exact State.reset.aicOk_iff.2 consistent
  case buffers => rw [State.reset_link]; trivial
  case image =>
    intro s
    obtain ⟨nor, sdram⟩ : p.sizes.nor ≤ 0x10000000 ∧ p.sizes.sdram ≤ 0xDFFA0000 := by
      simpa [MemSizes.ok] using sizes
    refine ⟨rfl, rfl, imageMemory_wf p.sizes image, fun i b hi byte => ?_, fun i b hi byte => ?_, fun a inNor inSdram =>
      imageMemory_other inNor inSdram, rfl, ?_⟩
    · have place : (BitVec.ofNat 32 (0x10000000 + i)).toNat = 0x10000000 + i := Nat.mod_eq_of_lt (by omega)
      exact (congrArg (Memory.read s.mem) place).trans (imageMemory_nor nor hi byte)
    · have place : (BitVec.ofNat 32 (0x20000000 + i)).toNat = 0x20000000 + i := Nat.mod_eq_of_lt (by omega)
      exact (congrArg (Memory.read s.mem) place).trans (imageMemory_sdram hi byte)
    · show Mci.resetWith (cardOf p.mciCardPolarity false) = _
      cases p.mciCardPolarity <;> rfl

end Sys2Proof
end

section
/-! The bus matrix, the reset controller and the SDRAM controller (R166 to R175). O16, O17. -/

namespace Sys2Proof.Machine

/-! ### The numbered registers of the matrix -/

theorem exec_matrixMcfgR (k : Fin 6) (s : State) :
    exec #v[.matrixMcfg0R, .matrixMcfg1R, .matrixMcfg2R, .matrixMcfg3R, .matrixMcfg4R, .matrixMcfg5R][k.val] s
      = runBus (readPlain fun s => s.matrix.mcfg[k.val]) s := by
  fin_cases k <;> rfl

theorem exec_matrixMcfgW (k : Fin 6) (v : Word) (s : State) :
    exec #v[.matrixMcfg0W v, .matrixMcfg1W v, .matrixMcfg2W v, .matrixMcfg3W v, .matrixMcfg4W v, .matrixMcfg5W v][k.val] s
      = runBus (matrixWriteMcfg k v) s := by
  fin_cases k <;> rfl

theorem exec_matrixScfgR (k : Fin 5) (s : State) :
    exec #v[.matrixScfg0R, .matrixScfg1R, .matrixScfg2R, .matrixScfg3R, .matrixScfg4R][k.val] s
      = runBus (readPlain fun s => s.matrix.scfg[k.val]) s := by
  fin_cases k <;> rfl

theorem exec_matrixScfgW (k : Fin 5) (v : Word) (s : State) :
    exec #v[.matrixScfg0W v, .matrixScfg1W v, .matrixScfg2W v, .matrixScfg3W v, .matrixScfg4W v][k.val] s
      = runBus (matrixWriteScfg k v) s := by
  fin_cases k <;> rfl

theorem exec_matrixPrasR (k : Fin 5) (s : State) :
    exec #v[.matrixPras0R, .matrixPras1R, .matrixPras2R, .matrixPras3R, .matrixPras4R][k.val] s
      = runBus (readPlain fun s => s.matrix.pras[k.val]) s := by
  fin_cases k <;> rfl

theorem exec_matrixPrasW (k : Fin 5) (v : Word) (s : State) :
    exec #v[.matrixPras0W v, .matrixPras1W v, .matrixPras2W v, .matrixPras3W v, .matrixPras4W v][k.val] s
      = runBus (matrixWritePras k v) s := by
  fin_cases k <;> rfl

/-- The remap bits of `MRCR` select the internal SRAM (R155, R167). -/
theorem bootSelect_mrcr (bms : Bool) (v : Word) : bootSelect bms (v &&& 3#32)
    = if bit v 0 = true ∨ bit v 1 = true then .sram0 else if bms = true then .rom else .ebiNcs0 := by
  have remap : v &&& 3#32 &&& 3#32 ≠ 0#32 ↔ bit v 0 = true ∨ bit v 1 = true := by
    rw [BitVec.and_assoc, BitVec.and_self]
    have low : (v &&& 3#32).toNat = v.toNat % 4 := by rw [BitVec.toNat_and]; exact Nat.and_two_pow_sub_one_eq_mod v.toNat 2
    simp only [ne_eq, BitVec.toNat_eq, low, bit, BitVec.getLsbD, Nat.testBit_eq_decide_div_mod_eq, decide_eq_true_eq,
      BitVec.toNat_ofNat]
    omega
  rw [bootSelect, if_congr remap rfl rfl]

/-! ### A SoC reset by the controller -/

/-- A reset keeps the reset type, which its caller writes (R74, R820). -/
theorem socReset_rstc (s : State) : (socReset s).rstc = ⟨0#32, s.rstc.rsttyp⟩ := by rw [socReset_eq]; rfl

theorem rstcWriteCr_reset {v : Word} {s : State} (key : field v 31 24 = 0xA5) (command : bit v 0 = true ∨ bit v 2 = true) :
    rstcWriteCr v s = (socReset s).setRstc { (socReset s).rstc with rsttyp := 3 } := if_pos ⟨key, command⟩

theorem rstcWriteCr_ignored {v : Word} {s : State}
    (ignored : field v 31 24 ≠ 0xA5 ∨ (bit v 0 = false ∧ bit v 2 = false)) : rstcWriteCr v s = s := by
  refine if_neg ?_
  rintro ⟨key, command⟩
  rcases ignored with other | ⟨processor, peripheral⟩
  · exact other key
  · rw [processor, peripheral] at command
    simp at command

end Sys2Proof.Machine

namespace Sys2Proof

open Machine

/-- Settles O17: each row runs its operation. -/
theorem sdramcRegisters : Obligations.SdramcRegisters := by
  refine ⟨fun s v ready => ?registers, fun s seq payload live => exec_of_live live (exec_sdramcFaultRes seq payload s)⟩
  refine ⟨?mr, ?mrW, ?tr, ?trW, ?cr, ?crW, ?lpr, ?lprW, ?mdr, ?mdrW, ?ier, ?idr, ?imr, ?isr⟩
  case mr => exact exec_readPlain_of_ready ready (exec_sdramcMrR s)
  case mrW => exact exec_of_ready ready (exec_sdramcMrW v s)
  case tr => exact exec_readPlain_of_ready ready (exec_sdramcTrR s)
  case trW => exact exec_of_ready ready (exec_sdramcTrW v s)
  case cr => exact exec_readPlain_of_ready ready (exec_sdramcCrR s)
  case crW => exact exec_of_ready ready (exec_sdramcCrW v s)
  case lpr => exact exec_readPlain_of_ready ready (exec_sdramcLprR s)
  case lprW => exact exec_of_ready ready (exec_sdramcLprW v s)
  case mdr => exact exec_readPlain_of_ready ready (exec_sdramcMdrR s)
  case mdrW => exact exec_of_ready ready (exec_sdramcMdrW v s)
  case ier => exact exec_of_ready ready (exec_sdramcIerW v s)
  case idr => exact exec_of_ready ready (exec_sdramcIdrW v s)
  case imr => exact exec_readPlain_of_ready ready (exec_sdramcImrR s)
  case isr => exact exec_of_ready ready (exec_sdramcIsrR s)

/-- Settles O16: each row runs its operation, the reset controller by its key. -/
theorem matrixAndRstcRegisters : Obligations.MatrixAndRstcRegisters := by
  intro s v ready
  refine ⟨fun k => ⟨?mcfg, ?mcfgW⟩, fun k => ⟨?scfg, ?scfgW, ?pras, ?prasW⟩, ?ebi, ?ebiW, ?mrcr, ?mrcrW,
    fun key command => ?reset, fun other => ⟨?noKey, ?noKeyMr⟩, fun processor peripheral => ?noCommand, ?sr, ?mr,
    fun key => ?mrW⟩
  case mcfg => exact exec_readPlain_of_ready ready (exec_matrixMcfgR k s)
  case mcfgW => exact exec_of_ready ready (exec_matrixMcfgW k v s)
  case scfg => exact exec_readPlain_of_ready ready (exec_matrixScfgR k s)
  case scfgW => exact exec_of_ready ready (exec_matrixScfgW k v s)
  case pras => exact exec_readPlain_of_ready ready (exec_matrixPrasR k s)
  case prasW => exact exec_of_ready ready (exec_matrixPrasW k v s)
  case ebi => exact exec_readPlain_of_ready ready (exec_matrixEbiCsaR s)
  case ebiW => exact exec_of_ready ready (exec_matrixEbiCsaW v s)
  case mrcr => exact exec_readPlain_of_ready ready (exec_matrixMrcrR s)
  case mrcrW =>
    rw [← bootSelect_mrcr]
    exact exec_of_ready ready (exec_matrixMrcrW v s)
  case reset =>
    rw [exec_of_ready ready (exec_rstcCrW v s), rstcWriteCr_reset key command, socReset_rstc]
    rfl
  case noKey => rw [exec_of_ready ready (exec_rstcCrW v s), rstcWriteCr_ignored (.inl other)]
  case noKeyMr => exact (exec_of_ready ready (exec_rstcMrW v s)).trans (congrArg _ (if_neg other))
  case noCommand => rw [exec_of_ready ready (exec_rstcCrW v s), rstcWriteCr_ignored (.inr ⟨processor, peripheral⟩)]
  case sr => exact exec_readPlain_of_ready ready (exec_rstcSrR s)
  case mr => exact exec_readPlain_of_ready ready (exec_rstcMrR s)
  case mrW => exact (exec_of_ready ready (exec_rstcMrW v s)).trans (congrArg _ (if_pos key))

end Sys2Proof
end

section
/-! The values read after a SoC reset (R822). O9. -/

namespace Sys2Proof.Machine

/-! ### Interrupt outputs that stay low -/

/-- A line at 0 driven to 0 (R222). -/
theorem driveLine_low {n : Fin 32} {s : State} (low : bit s.aic.line n.val = false) : driveLine n false s = s := if_pos low

/-- A stub with all its inputs at 0 (R224). -/
theorem driveStub_low {k : Fin 32} {s : State} (inputs : s.stubIn = 0#32) (low : bit s.aic.line 1 = false) :
    driveStub k false s = s := by
  have still : putBit s.stubIn k.val false = s.stubIn := by rw [inputs]; simp [putBit]
  rw [driveStub_eq, still, driveStubs, inputs]
  rw [show s.setStubIn 0#32 = s from by rw [← inputs]; rfl]
  exact driveLine_low low

/-- The lines 1 to 28 are none of the external ones, which a reset keeps (R820). -/
theorem bit_external_inner {n : Fin 32} (inner : 1 ≤ n.val) (high : n.val ≤ 28) : bit 0xE0000001#32 n.val = false := by
  revert n; decide

theorem bit_external_outer {n : Fin 32} (outer : n.val ∈ [0, 29, 30, 31]) : bit 0xE0000001#32 n.val = true := by
  revert n; decide

section

variable (s : State)

/-- The lines 1 to 28 are low after a reset (R820). -/
theorem socReset_line {n : Fin 32} (inner : 1 ≤ n.val) (high : n.val ≤ 28) : bit (socReset s).aic.line n.val = false := by
  rw [socReset_aic]
  exact (bit_and s.aic.line _ n.val).trans (by rw [bit_external_inner inner high, Bool.and_false])

theorem socReset_stubIn : (socReset s).stubIn = 0#32 := by rw [socReset_eq]; rfl

/-- A line whose mask is 0 after a reset stays low (R778). -/
theorem driveLine_socReset {n : Fin 32} (inner : 1 ≤ n.val) (high : n.val ≤ 28) :
    driveLine n false (socReset s) = socReset s := driveLine_low (socReset_line s inner high)

theorem driveStub_socReset (k : Fin 32) : driveStub k false (socReset s) = socReset s :=
  driveStub_low (socReset_stubIn s) (socReset_line s (n := 1) (by decide) (by decide))

/-- A reset machine that has not aborted serves the CPU (R820). -/
theorem socReset_ready {s : State} (live : s.fault = none) : (socReset s).ready = true := by
  refine (State.ready_iff _).2 ⟨by rw [socReset_eq]; exact live, ?_⟩
  rw [State.held, socReset_spi, socReset_spi]
  rfl

theorem State.ready_setRstc (t : State) (x : Rstc) : (t.setRstc x).ready = t.ready := rfl

theorem usartCsr_socReset (u : Fin 6) : (socReset s).usartCsr u = 0#32 := by
  rw [State.usartCsr, socReset_usart, socReset_pdc]; decide

theorem spiSr_socReset (u : Fin 2) : (socReset s).spiSr u = 0#32 := by
  rw [State.spiSr, socReset_spi, socReset_pdc]; decide

theorem socReset_dbgu : (socReset s).dbgu = Dbgu.reset := by rw [socReset_eq]; rfl

theorem socReset_matrix : (socReset s).matrix = Matrix.reset := by rw [socReset_eq]; rfl

/-! ### Reads that end with a recomputed output -/

theorem spiLine_inner (u : Fin 2) : 1 ≤ (spiLine u).val ∧ (spiLine u).val ≤ 28 := by
  revert u; decide

theorem tcLine_inner (c : Fin 6) : 1 ≤ (tcLine c).val ∧ (tcLine c).val ≤ 28 := by
  revert c; decide

theorem spiReadSr_socReset (u : Fin 2) : spiReadSr u (socReset s) = (socReset s).setRdata 0#32 := by
  have same : (socReset s).setSpi u { (socReset s).spi u with modf := false, ovres := false } = socReset s := by
    rw [socReset_spi, show { Spi.reset with modf := false, ovres := false } = Spi.reset from rfl, ← socReset_spi u s,
      State.setSpi_self]
  have quiet : spiUpdateIrq u (socReset s) = socReset s := by
    rw [spiUpdateIrq, spiSr_socReset, BitVec.zero_and]
    exact driveLine_socReset s (spiLine_inner u).1 (spiLine_inner u).2
  rw [spiReadSr, same, quiet, spiSr_socReset]
  rfl

theorem socReset_twi : (socReset s).twi = Twi.reset := by rw [socReset_eq]; rfl

theorem twiSr_socReset : (socReset s).twiSr = 1#32 := by
  rw [State.twiSr, socReset_twi, socReset_pdc]; decide

theorem twiReadSr_socReset : twiReadSr (socReset s) = (socReset s).setRdata 1#32 := by
  have same : (socReset s).setTwi { (socReset s).twi with ovre := false, nack := false, arblst := false } = socReset s := by
    rw [socReset_twi, show { Twi.reset with ovre := false, nack := false, arblst := false } = Twi.reset from rfl,
      ← socReset_twi s]
    rfl
  have quiet : twiUpdateIrq (socReset s) = socReset s := by
    rw [twiUpdateIrq, twiSr_socReset, socReset_twi]
    exact driveLine_socReset s (by decide) (by decide)
  rw [twiReadSr, same, quiet, twiSr_socReset]
  rfl

theorem tcReadSr_socReset (c : Fin 6) : tcReadSr c (socReset s) = (socReset s).setRdata 0#32 := by
  have same : (socReset s).setTc c { (socReset s).tc c with latches := 0 } = socReset s := by
    rw [socReset_tc, show { TcChannel.reset with latches := 0 } = TcChannel.reset from rfl, ← socReset_tc c s,
      State.setTc_self]
  have quiet : tcUpdateIrq c (socReset s) = socReset s := by
    rw [tcUpdateIrq, socReset_tc]
    exact driveLine_socReset s (tcLine_inner c).1 (tcLine_inner c).2
  have status : (socReset s).tcSr c = 0#32 := by rw [State.tcSr, socReset_tc]; decide
  rw [tcReadSr, same, quiet, status]
  rfl

theorem socReset_pit : (socReset s).pit = Pit.reset := by rw [socReset_eq]; rfl

theorem pitReadPivr_socReset : pitReadPivr (socReset s) = (socReset s).setRdata 0#32 := by
  have same : (socReset s).setPit { (socReset s).pit with picnt := 0, pits := false } = socReset s := by
    rw [socReset_pit, show { Pit.reset with picnt := 0, pits := false } = Pit.reset from rfl, ← socReset_pit s]
    rfl
  have quiet : pitUpdateIrq (socReset s) = socReset s := by
    rw [pitUpdateIrq, socReset_pit]
    exact driveStub_socReset s 0
  rw [pitReadPivr, same, quiet, socReset_pit]
  rfl

theorem socReset_rtt : (socReset s).rtt = Rtt.reset := by rw [socReset_eq]; rfl

theorem rttReadSr_socReset : rttReadSr (socReset s) = (socReset s).setRdata 0#32 := by
  have same : (socReset s).setRtt { (socReset s).rtt with alms := false, rttinc := false } = socReset s := by
    rw [socReset_rtt, show { Rtt.reset with alms := false, rttinc := false } = Rtt.reset from rfl, ← socReset_rtt s]
    rfl
  have quiet : rttUpdateIrq (socReset s) = socReset s := by
    rw [rttUpdateIrq, socReset_rtt]
    exact driveStub_socReset s 1
  rw [rttReadSr, same, quiet, socReset_rtt]
  rfl

theorem mciReadSr_socReset : (mciReadSr (socReset s)).rdata = 0x25#32 := by
  have mci : ∃ c, (socReset s).mci = Mci.resetWith c := ⟨_, by rw [socReset_eq]⟩
  obtain ⟨c, mci⟩ := mci
  show (socReset s).mciSr = _
  have idle : (socReset s).mciRxrdy = false := by rw [State.mciRxrdy, mci]; rfl
  rw [State.mciSr, idle, mci, socReset_pdc]
  clear mci
  revert c
  decide

/-! ### The AIC after a reset -/

/-- The external lines are low-level lines after a reset, so each asks while it is 0 (R24, R202, R820). -/
theorem socReset_ipr : (socReset s).aic.ipr = ~~~s.aic.line &&& 0xE0000001#32 := by
  refine BitVec.eq_of_getLsbD_eq fun i hi => ?_
  obtain ⟨n, hn⟩ : ∃ n : Fin 32, n.val = i := ⟨⟨i, hi⟩, rfl⟩
  subst hn
  have shown : (socReset s).aic.ipr.getLsbD n.val = (socReset s).aic.pending n := Aic.bit_ipr _ n
  have asked : (~~~s.aic.line &&& 0xE0000001#32).getLsbD n.val = (!bit s.aic.line n.val && bit 0xE0000001#32 n.val) := by
    simp [bit]
  have line : bit (socReset s).aic.line n.val = (bit s.aic.line n.val && bit 0xE0000001#32 n.val) := by
    rw [socReset_aic]; exact bit_and s.aic.line _ n.val
  have mode : (socReset s).aic.smr[n.val] = 0#32 := by
    simp [socReset_aic, Aic.socReset, Aic.reset]
  rw [shown, asked]
  by_cases inner : 1 ≤ n.val ∧ n.val ≤ 28
  · have masked : bit 0xE0000001#32 n.val = false := bit_external_inner inner.1 inner.2
    have type : (socReset s).aic.effType n = .levelHigh := by
      rw [Aic.effType_inner inner.1 inner.2, mode]; rfl
    rw [Aic.pending, type, masked, Bool.and_false]
    exact line.trans (by rw [masked, Bool.and_false])
  · have outer : n.val ∈ [0, 29, 30, 31] := by simp; omega
    have kept : bit 0xE0000001#32 n.val = true := bit_external_outer outer
    have type : (socReset s).aic.effType n = .levelLow := by
      rw [Aic.effType_outer outer, mode]; rfl
    rw [Aic.pending, type, kept, Bool.and_true]
    dsimp only
    rw [line, kept, Bool.and_true]

theorem socReset_select : (socReset s).aic.select = none := by
  rw [socReset_aic, Aic.select_eq_none_iff]
  intro n
  simp [Aic.cand, Aic.socReset, Aic.reset, bit]

theorem aicReadIvr_socReset (live : s.fault = none) : (aicReadIvr (socReset s)).rdata = 0#32
    ∧ (aicReadIvr (socReset s)).aic.stack = [⟨0, 8⟩] := by
  have unprotected : bit (socReset s).aic.dcr 0 = false := by
    rw [socReset_aic, show s.aic.socReset.dcr = 0#32 from rfl]; decide
  have empty : (socReset s).aic.stack = [] := by rw [socReset_aic]; rfl
  rw [aicReadIvr_open unprotected, aicAcknowledge_none (socReset_select s) (by rw [empty]; decide),
    Aic.vector_none (socReset_select s), State.andThen_live _ (by rw [State.setAic_fault]; exact State.ready_fault (socReset_ready live))]
  refine ⟨?_, ?_⟩
  · show (socReset s).aic.spu = _
    rw [socReset_aic]; rfl
  · show (socReset s).aic.stack ++ _ = _
    rw [empty]; rfl

end

end Sys2Proof.Machine

namespace Sys2Proof

open Machine

/-- Settles O9: each read finds the reset value, and the outputs it recomputes stay low. -/
theorem valuesAfterSocReset : Obligations.ValuesAfterSocReset := by
  intro s live r
  have ready : r.ready = true := socReset_ready live
  have aic : r.aic = s.aic.socReset := socReset_aic s
  have pit : r.pit = Pit.reset := socReset_pit s
  have rtt : r.rtt = Rtt.reset := socReset_rtt s
  have pmc : ∃ n, r.pmc = { Pmc.reset with mclkChanges := n } := ⟨_, by simp only [r]; rw [socReset_eq]; rfl⟩
  obtain ⟨n, pmc⟩ := pmc
  have plain {i : Instr} {get : State → Word} {w : Word} (row : exec i r = runBus (readPlain get) r) (value : get r = w) :
      exec i r = .next (r.setRdata w) := value ▸ exec_readPlain_of_ready ready row
  have served {i : Instr} {f : State → State} {w : Word} (row : exec i r = runBus f r) (value : f r = r.setRdata w) :
      exec i r = .next (r.setRdata w) := value ▸ exec_of_ready ready row
  refine ⟨fun u => plain (exec_usartCsrR u r) (usartCsr_socReset s u),
    fun u => served (exec_spiSrR u r) (spiReadSr_socReset s u), served (exec_twiSrR r) (twiReadSr_socReset s),
    ⟨_, exec_of_ready ready (exec_mciSrR r), mciReadSr_socReset s⟩, plain (exec_dbguSrR r) ?dbgu,
    plain (exec_pmcSrR r) ?pmc, plain (exec_pmcCkgrMcfrR r) ?mcfr,
    fun c => ⟨served (exec_tcSrR c r) (tcReadSr_socReset s c), plain (exec_tcCvR c r) ?cv⟩, plain (exec_pitSrR r) ?pitSr,
    served (exec_pitPivrR r) (pitReadPivr_socReset s), plain (exec_pitPiirR r) ?piir, plain (exec_rttVrR r) ?rttVr,
    served (exec_rttSrR r) (rttReadSr_socReset s), plain (exec_pitMrR r) ?pitMr, plain (exec_rttMrR r) ?rttMr,
    plain (exec_rttArR r) ?rttAr, fun p => ⟨plain (exec_pioPsrR p r) ?psr, plain (exec_pioPdsrR p r) ?pdsr⟩,
    plain (exec_aicImrR r) ?imr, plain (exec_aicIsrR r) ?isr, plain (exec_aicCisrR r) ?cisr, plain (exec_aicFfsrR r) ?ffsr,
    plain (exec_aicSpuR r) ?spu, fun n => ⟨plain (exec_aicSmrR n r) ?smr, plain (exec_aicSvrR n r) ?svr⟩,
    ⟨_, exec_of_ready ready (exec_aicIvrR r), aicReadIvr_socReset s live⟩,
    plain (exec_aicIprR r) (socReset_ipr s), ?constructed, fun v t key command ready first => ?software,
    plain (exec_matrixMrcrR r) ?mrcr⟩
  case dbgu => rw [show r.dbgu = Dbgu.reset from socReset_dbgu s]; decide
  case pmc => rw [pmc]; show Pmc.reset.sr = _; decide
  case mcfr => rw [pmc]; show Pmc.reset.mcfr = _; decide
  case cv => rw [show r.tc c = TcChannel.reset from socReset_tc c s]; decide
  case pitSr => rw [pit]; decide
  case piir => rw [pit]; decide
  case rttVr => rw [rtt]; decide
  case pitMr => rw [pit]; rfl
  case rttMr => rw [rtt]; rfl
  case rttAr => rw [rtt]; rfl
  case psr => rw [show r.pio p = _ from socReset_pio p s]; rfl
  case pdsr => rw [show r.pio p = _ from socReset_pio p s]; rfl
  case imr => rw [aic]; rfl
  case isr => rw [aic]; rfl
  case cisr =>
    rw [aic, Aic.cisr_eq, show s.aic.socReset.nfiq = false from rfl, show s.aic.socReset.nirq = false from rfl]
    decide
  case ffsr => rw [aic]; rfl
  case spu => rw [aic]; rfl
  case smr => simp [aic, Aic.socReset, Aic.reset]
  case svr => simp [aic, Aic.socReset, Aic.reset]
  case constructed =>
    have value : State.reset.rstc.sr = 0x00010000#32 := by decide
    rw [exec_readPlain_of_ready (by decide) (exec_rstcSrR State.reset), value]
  case software =>
    rw [exec_of_ready ready (exec_rstcCrW v s), rstcWriteCr_reset key command] at first
    obtain rfl : _ = t := Host.Outcome.next.inj first
    have value : ((socReset s).setRstc { (socReset s).rstc with rsttyp := 3 }).rstc.sr = 0x00010300#32 := by
      rw [State.setRstc_rstc, socReset_rstc, show Rstc.mk 0#32 3 = Rstc.mk 0#32 3#3 from rfl]; decide
    rw [exec_readPlain_of_ready ((State.ready_setRstc _ _).trans (socReset_ready live)) (exec_rstcSrR _), value]
  case mrcr => rw [show r.matrix = Matrix.reset from socReset_matrix s]; rfl

end Sys2Proof
end
